-- ==== Sys2Proof/Word.lean ====
section
/-! DEFINITION. The plain word types of the engine's links (11_frame_and_record_layouts.md). -/

namespace Sys2Proof

/-- One byte of a frame. -/
abbrev Byte := BitVec 8

/-- A length of time in units of 0.01 s, the spec's resolution (00_scope.md 5.2). -/
abbrev Time := Nat

end Sys2Proof
end

