-- ==== Sys2Proof/Config.lean ====
section
/-! DEFINITION. Capacities the spec fixes for the engine, and the values it leaves open.
An opaque constant has no body: nothing can be proved of its value. -/

namespace Sys2Proof.Config

/-- R92: the movement table's places. -/
abbrev maxEntries : Nat := 16
/-- R95: the items the ended-ticket list keeps. -/
abbrev maxEnded : Nat := 16
/-- R120: the programme table's places. -/
abbrev maxProgrammes : Nat := 8
/-- R122: the steps a programme may have. -/
abbrev maxSteps : Nat := 8
/-- R73: the tickets a port's request queue holds. -/
abbrev maxQueue : Nat := 4
/-- R40: the entries the held change queue holds. -/
abbrev maxHeld : Nat := 32
/-- 01, 1.7: the entries of the substitution table. -/
abbrev maxSubsts : Nat := 16
/-- R136: the restrictions the table holds. -/
abbrev maxRestrictions : Nat := 64
/-- R163: the frames a port's inbound list holds. -/
abbrev maxInbound : Nat := 8
/-- R166: the notice places of a port's transmit list. -/
abbrev maxNotices : Nat := 32
/-- 09: the station link ports. -/
abbrev nPorts : Nat := 24
/-- R7: the items one POSITION REPORT carries at most. -/
abbrev maxItems : Nat := 16
/-- R146: the restrictions one answer carries at most. -/
abbrev maxListed : Nat := 8

/-- R10: the largest sample. -/
abbrev maxSample : Nat := 2000
/-- R105: the operating time saturates here (655.35 s). -/
abbrev maxOperatingTime : Time := 65535
/-- R106: the largest amount one EXTEND adds (120.00 s). -/
abbrev maxExtend : Time := 12000
/-- R106: the largest remaining time of a travel deadline (600.00 s). -/
abbrev maxTravelRemaining : Time := 60000

/-- FREE VALUE (log 5): byte `i` of those that choose the fields of the live record that QUERY APPARATUS (`node = false`)
or QUERY NODE (`node = true`) sends for number `n` where the record was written since live records were last made. -/
opaque freeLiveByte : (node : Bool) → (n : Nat) → (i : Nat) → Byte

/-- FREE VALUE (log 6): the two bytes in which QUERY MOVEMENT sends a release time. The spec gives the
release time no origin and so no encoding. -/
opaque freeReleaseTime : Time → BitVec 16

end Sys2Proof.Config
end

