-- ==== Sys2Proof/Syntax.lean ====
section
/-! DEFINITION. The spec's enumerations, the frames and request bodies that commands carry, and `Instr`,
one constructor for each row of spec/opcode_table.json. -/

namespace Sys2Proof

/-- A reported or effective position of an apparatus (R3). -/
inductive Pos where
  | opened | closed | travelling | faulty | unknown
  deriving DecidableEq, Repr

/-- A target of a movement, or a substituted position (R93, R3). -/
inductive Target where
  | opened | closed
  deriving DecidableEq, Repr

/-- A presence class (R4). -/
inductive Cls where
  | live | dead | unknown
  deriving DecidableEq, Repr

/-- A candidate of the classification, or a substituted class (R4, R10). -/
inductive Cand where
  | live | dead
  deriving DecidableEq, Repr

/-- The engine mode (10, R175). -/
inductive Mode where
  | restarting | gathering | service | freezing | frozen | maintenance
  deriving DecidableEq, Repr

/-- A port's role (R162). -/
inductive Role where
  | unused | bay | supervisory
  deriving DecidableEq, Repr

/-- A port's state (09, 9.5). -/
inductive PortState where
  | silent | active | lost
  deriving DecidableEq, Repr

/-- The kind of an apparatus (R2). -/
inductive AppKind where
  | breaker | disconnector | earthSwitch
  deriving DecidableEq, Repr

/-- The kind of a node (R1). -/
inductive NodeKind where
  | busbar | junction | terminal
  deriving DecidableEq, Repr

/-- The colour of a node (R32). -/
inductive Colour where
  | live | contested | earthed | doubtfulEarth | floating
  deriving DecidableEq, Repr

/-- One of the four drive conditions (01, 1.8). -/
inductive Condition where
  | driveLockout | localControl | driveSupply | gasPressure
  deriving DecidableEq, Repr

/-- One flag for each drive condition: present flags, latched flags, or LATCHED modes. -/
structure Flags4 where
  driveLockout : Bool
  localControl : Bool
  driveSupply : Bool
  gasPressure : Bool
  deriving DecidableEq, Repr

/-- The kind of a restriction (R136). -/
inductive RestrictionKind where
  | locked | holdOpen | holdClosed | workZone | inspect
  deriving DecidableEq, Repr

/-- A reason carried with REFUSED (R54, 5.10). -/
inductive Reason where
  | alreadyThere | positionUncertain | restricted | blocked | liveAgainstEarth | uncertainEarth
  | noEquipotential | loadPath | nodeNotDead | zoneEngaged | unsettled | portMuted | queueFull
  deriving DecidableEq, Repr

/-- The outcome of a movement (5.10). -/
inductive MoveOutcome where
  | completed
  | skipped
  | refused (reason : Reason)
  | lapsed
  | timedOut
  | returned
  | faulted
  | cancelled
  | portLost
  | blockedAfterRelease
  deriving DecidableEq, Repr

/-- The last outcome of an apparatus record (R3): a movement's outcome, or TRIPPED. -/
inductive LastOutcome where
  | movement (outcome : MoveOutcome)
  | tripped
  deriving DecidableEq, Repr

/-- The stop reason of a programme (R127). -/
inductive StopReason where
  | outcome (outcome : MoveOutcome)
  | noRoom
  | substituted
  | engaged
  deriving DecidableEq, Repr

/-- The state of a movement entry (R98). -/
inductive EntryState where
  | queued | deferred | evaluating | suspended | released | revoking | travelling | settling
  deriving DecidableEq, Repr

/-- The state of a programme (R121). -/
inductive ProgrammeState where
  | waiting | running | stopping
  deriving DecidableEq, Repr

/-- The cause of a deferral (R85). -/
inductive DeferralCause where
  | unsettled | reserved
  deriving DecidableEq, Repr

/-- Why a revocation was sent (R111). -/
inductive RevokeFlavour where
  | cancel | freeze
  deriving DecidableEq, Repr

/-- The answer to a revocation (R112). -/
inductive RevokeReply where
  | withdrawn | started
  deriving DecidableEq, Repr

/-- The cause of a reset (R178). -/
inductive ResetCause where
  | powerOn | resetLine | commanded
  deriving DecidableEq, Repr

/-- The record kinds and reasons of INVALID_DESCRIPTION (R183, 11.2). -/
inductive FailKind where
  | port | node | apparatus | restriction
  deriving DecidableEq, Repr

inductive FailReason where
  | noSupervisoryPort | unmeasuredTerminal | notBayPort | undeclaredNode | terminalRule | unknownTarget
  deriving DecidableEq, Repr

/-- The answer codes, in the order of the table of 9.3.1. -/
inductive AnswerCode where
  | done | accepted | clamped | malformed | portRole | mode | portMuted | outOfRange | unknownApparatus
  | unknownTarget | notYourItem | substituted | engaged | queueFull | tableFull | unknownTicket | tooLate
  | notTravelling | notApplicable | stillPresent | staleAck | duplicate | already | heldFull | unverified
  | invalidDescription
  deriving DecidableEq, Repr

/-- The request kinds, in the order of their codes 01h to 1Ch (11.1). -/
inductive RequestKind where
  | positionReport | moveRequest | programmeRequest | cancel | amend | extend | revokeAnswer
  | queryApparatus | queryNode | queryMovement | queryProgramme | queryEngine | keepalive
  | placeRestriction | liftRestriction | queryRestrictions | liftInspectOverflow
  | substitute | endSubstitution | acknowledgeBlock | setPortPriority
  | freeze | thaw | enterMaintenance | leaveMaintenance | loadYard | commitYard | restart
  deriving DecidableEq, Repr

/-- A record of the image: an apparatus or a node by number. -/
inductive RecordId where
  | apparatus (number : Nat)
  | node (number : Nat)
  deriving DecidableEq, Repr

/-- A substitution's value (R15). -/
inductive SubstValue where
  | position (p : Target)
  | cls (c : Cand)
  deriving DecidableEq, Repr

/-- A received frame's kind, tag and body (09, 9.1). -/
structure Frame where
  kind : Byte
  tag : BitVec 16
  body : List Byte
  deriving DecidableEq, Repr

/-! ### Description records (R1, R2, R162, R182) -/

/-- A node record (R1). -/
structure NodeDesc where
  number : Nat
  kind : NodeKind
  measured : Bool
  port : Option Nat
  deriving DecidableEq, Repr

/-- An apparatus record (R2). `latchedModes` has a flag set for a condition in LATCHED mode. -/
structure AppDesc where
  number : Nat
  kind : AppKind
  a : Nat
  b : Nat
  port : Nat
  startWindow : Time
  travelLimit : Time
  latchedModes : Flags4
  deriving DecidableEq, Repr

/-- A port record (R162, R182). -/
structure PortDesc where
  role : Role
  defaultPriority : Nat
  silenceLimit : Time
  deriving DecidableEq, Repr

/-- The settings record (R176). -/
structure Settings where
  liveThreshold : Nat
  deadThreshold : Nat
  confirmCount : Nat
  settleLimit : Time
  deferralLimit : Time
  gatheringLimit : Time
  deriving DecidableEq, Repr

/-- The four kinds of description record. `nodes` and `apparatus` ascend by number; `ports` has 24 records. -/
structure Yard where
  nodes : List NodeDesc
  apparatus : List AppDesc
  ports : List PortDesc
  settings : Settings
  deriving DecidableEq, Repr

/-! ### Decoded request bodies (11.3, 11.5) -/

/-- An item of a POSITION REPORT (01, 1.4). -/
inductive ReportItem where
  | apparatus (number : Nat) (position : Pos) (flags : Flags4)
  | presence (node : Nat) (sample : Nat)
  deriving DecidableEq, Repr

/-- A step of a programme (R121). -/
structure Step where
  apparatus : Nat
  target : Target
  skipIfThere : Bool
  coupled : Bool
  deriving DecidableEq, Repr

/-- The operation of a LOAD YARD request (R182), with its numeric fields as carried. -/
inductive YardOp where
  | writeNode (number : Nat) (kind : NodeKind) (measured : Bool) (port : Nat)
  | removeNode (number : Nat)
  | writeApparatus (record : AppDesc)
  | removeApparatus (number : Nat)
  | writePort (port : Nat) (record : PortDesc)
  | writeSettings (settings : Settings)
  deriving DecidableEq, Repr

/-! ### Commands -/

/-- The commands: one constructor for each row of spec/opcode_table.json. A request's command names the
port whose inbound list holds the request frame at its head (R163, log 1). -/
inductive Instr where
  -- line
  | frameReceived (port : Nat) (bytes : List Byte) (framingError : Bool)
  | frameSent (port : Nat)
  | unknownKindFrame (port : Nat)
  -- requests
  | positionReport (port : Nat)
  | moveRequest (port : Nat)
  | programmeRequest (port : Nat)
  | cancel (port : Nat)
  | amend (port : Nat)
  | extend (port : Nat)
  | revokeAnswer (port : Nat)
  | queryApparatus (port : Nat)
  | queryNode (port : Nat)
  | queryMovement (port : Nat)
  | queryProgramme (port : Nat)
  | queryEngine (port : Nat)
  | keepalive (port : Nat)
  | placeRestriction (port : Nat)
  | liftRestriction (port : Nat)
  | queryRestrictions (port : Nat)
  | liftInspectOverflow (port : Nat)
  | substitute (port : Nat)
  | endSubstitution (port : Nat)
  | acknowledgeBlock (port : Nat)
  | setPortPriority (port : Nat)
  | freeze (port : Nat)
  | thaw (port : Nat)
  | enterMaintenance (port : Nat)
  | leaveMaintenance (port : Nat)
  | writeNode (port : Nat)
  | removeNode (port : Nat)
  | writeApparatus (port : Nat)
  | removeApparatus (port : Nat)
  | writePort (port : Nat)
  | writeSettings (port : Nat)
  | commitYard (port : Nat)
  | validationComplete
  | restart (port : Nat)
  -- resets
  | commanded
  | powerOn
  | resetLine
  -- timers and units
  | restartTimerExpiry
  | gatheringTimerExpiry
  | portLoss (port : Nat)
  | passTakeUp
  | publication
  | endOfHeldPass
  | grant
  | predicateCheck
  | bypassSearchStep
  | stubSearchStep
  | closingEvent
  | restrictionWriteComplete
  | deferralClockExpiry (ticket : Nat)
  | startWindowExpiry (ticket : Nat)
  | travelDeadlineExpiry (ticket : Nat)
  | waitingRemainingExpiry (ticket : Nat)
  | resetLineReleased
  | supplyBelowWorkingLevel
  | validationRecordCheck
  deriving DecidableEq, Repr

end Sys2Proof
end

