-- ==== Sys2Proof/Decode.lean ====
section
/-! DEFINITION. Bytes and numbers, the check of a frame, the frame as received and as sent
(09 R161; 11.1), and the table's words. -/

namespace Sys2Proof

/-- 11: every number is unsigned and sent most significant byte first. -/
def u16 (hi lo : Byte) : Nat := hi.toNat * 256 + lo.toNat

/-- A number as one byte. -/
def put8 (n : Nat) : List Byte := [BitVec.ofNat 8 n]

/-- A number as two bytes, most significant first. -/
def put16 (n : Nat) : List Byte := [BitVec.ofNat 8 (n / 256), BitVec.ofNat 8 n]

/-- A number as four bytes, most significant first. -/
def put32 (n : Nat) : List Byte := put16 (n / 65536) ++ put16 n

/-- One bit of the check: shift left, and exclusive-or 1021h when the bit shifted out is 1. -/
def crcBit (c : BitVec 16) : BitVec 16 :=
  if c.msb then (c <<< 1) ^^^ 0x1021#16 else c <<< 1

/-- `n` bits of the check. -/
def crcBits : Nat → BitVec 16 → BitVec 16
  | 0, c => c
  | n + 1, c => crcBits n (crcBit c)

/-- One byte of the check, most significant bit first. -/
def crcByte (c : BitVec 16) (b : Byte) : BitVec 16 :=
  crcBits 8 (c ^^^ (b.setWidth 16 <<< 8))

/-- 11.1: CRC-16, polynomial x^16+x^12+x^5+1, initial value FFFFh, no reflection, no final exclusive-or. -/
def crc16 (bytes : List Byte) : BitVec 16 :=
  bytes.foldl crcByte 0xFFFF#16

/-- 11.1: the bytes of a frame, from its length field to its check. -/
def frameBytes (kind : Byte) (tag : BitVec 16) (body : List Byte) : List Byte :=
  let front := put16 (3 + body.length) ++ [kind] ++ put16 tag.toNat ++ body
  front ++ put16 (crc16 front).toNat

/-- R161: a received run of bytes is a valid frame when it holds at least 7 bytes, its length field lies
between 3 and 253, as many bytes follow the length field as the length plus 2, and the check agrees.
A character with a framing error makes the check fail. -/
def checkFrame (bytes : List Byte) (framingError : Bool) : Option Frame :=
  match bytes with
  | l1 :: l2 :: kind :: t1 :: t2 :: rest =>
    let len := u16 l1 l2
    if framingError = false ∧ 7 ≤ bytes.length ∧ 3 ≤ len ∧ len ≤ 253 ∧ bytes.length = len + 4 ∧
        put16 (crc16 (bytes.take (bytes.length - 2))).toNat = bytes.drop (bytes.length - 2) then
      some { kind := kind, tag := t1 ++ t2, body := rest.take (rest.length - 2) }
    else none
  | _ => none

/-- The command that a word spells by the table's bits. spec/opcode_table.json gives no row any bits, so
no word spells a command (log 20). -/
def decodeTableWord (_nbits _w : Nat) : Option Instr := none

end Sys2Proof
end

