-- ==== Sys2Proof/Machine/State.lean ====
section
/-! DEFINITION. Everything the spec gives the engine, as plain data, and its values right after reset. -/

namespace Sys2Proof.Machine

/-! ### The yard image (01) -/

/-- The four latch numbers of an apparatus, each wrapping from 255 to 0 (R3, R18). -/
structure LatchNumbers where
  driveLockout : BitVec 8
  localControl : BitVec 8
  driveSupply : BitVec 8
  gasPressure : BitVec 8
  deriving DecidableEq, Repr

/-- The live record of an apparatus (R3). -/
structure AppLive where
  number : Nat
  reported : Pos
  substituted : Option Target
  effective : Pos
  present : Flags4
  latched : Flags4
  latchNumbers : LatchNumbers
  marker : Bool
  ticket : Option Nat
  lastOutcome : Option LastOutcome
  lastOperatingTime : Option Time
  overflow : Bool
  deriving DecidableEq, Repr

/-- The live record of a measured node (R4). -/
structure NodeLive where
  number : Nat
  cls : Cls
  lastCandidate : Option Cand
  counter : Nat
  lastSample : Option Nat
  substituted : Option Cand
  effective : Cls
  marker : Bool
  deriving DecidableEq, Repr

/-- An entry of the substitution table (01, 1.7). -/
structure Subst where
  target : RecordId
  value : SubstValue
  port : Nat
  deriving DecidableEq, Repr

/-- The copy of a target's inputs that a held entry holds (R14), with the port that placed a substitution. -/
inductive HeldCopy where
  | apparatus (reported : Pos) (substituted : Option Target) (port : Nat)
  | node (cls : Cls) (substituted : Option Cand) (port : Nat)
  deriving DecidableEq, Repr

/-- An entry of the held change queue (R40). -/
structure HeldEntry where
  target : RecordId
  copy : HeldCopy
  deriving DecidableEq, Repr

/-! ### The topology unit (02) -/

/-- A node's entry in the published colouring (R33). -/
structure NodeEntry where
  sure : Nat
  possible : Nat
  colour : Colour
  deriving DecidableEq, Repr

/-- The published colouring (R33). A node with no entry reads as R49's initial entry, an apparatus with no
position as UNKNOWN, and `initial` says that no pass has published, so that there are no edges (log 21). -/
structure Colouring where
  initial : Bool
  nodes : List (Nat × NodeEntry)
  positions : List (Nat × Pos)
  deriving DecidableEq, Repr

/-- An apparatus in a pass's read set; `stale` when an image change was taken after the read (R44). -/
structure ReadApp where
  number : Nat
  position : Pos
  stale : Bool
  deriving DecidableEq, Repr

/-- A measured node in a pass's read set. -/
structure ReadNode where
  number : Nat
  cls : Cls
  stale : Bool
  deriving DecidableEq, Repr

/-- A running pass: whether it is held, and its working state (02, 2.3). -/
structure Pass where
  held : Bool
  takenUp : List Nat
  reached : List Nat
  readApps : List ReadApp
  readNodes : List ReadNode
  draft : List (Nat × NodeEntry)
  deriving DecidableEq, Repr

/-! ### The evaluator (03, 04) -/

/-- The working state of R72: the next check, a search in progress, or a permission found. -/
inductive Stage where
  | check (n : Nat)
  | bypass (found frontier : List Nat)
  | stub (sideB : Bool) (found frontier : List Nat)
  | permitted (reach : List Nat)
  deriving DecidableEq, Repr

/-- The evaluation in flight (R78). -/
structure Evaluation where
  ticket : Nat
  publication : Colouring
  candidateReach : List Nat
  markedApps : List Nat
  markedNodes : List Nat
  reoffer : Bool
  expired : Bool
  stage : Stage
  deriving DecidableEq, Repr

/-- The verdicts an evaluation ends with (R84), and its voiding (R79). -/
inductive Verdict where
  | permit (reach : List Nat)
  | defer (cause : DeferralCause)
  | refuse (reason : Reason)
  | void
  deriving DecidableEq, Repr

/-! ### The movement and programme tables (05, 06) -/

/-- A movement entry (R93). -/
structure Entry where
  ticket : Nat
  owner : Nat
  apparatus : Nat
  target : Target
  programme : Option (Nat × Nat)
  coupled : Bool
  state : EntryState
  cause : Option DeferralCause
  voidCount : Nat
  deadline : Option Time
  releaseTime : Option Time
  footprint : List Nat
  reach : Option (List Nat)
  operatingTime : Option Time
  cancelPending : Bool
  flavour : Option RevokeFlavour
  deriving DecidableEq, Repr

/-- An item of the ended-ticket list (R95). -/
structure Ended where
  ticket : Nat
  owner : Nat
  apparatus : Nat
  outcome : MoveOutcome
  operatingTime : Option Time
  deriving DecidableEq, Repr

/-- A footprint and a reach held as a reservation (R88). -/
structure Reservation where
  footprint : List Nat
  reach : List Nat
  deriving DecidableEq, Repr

/-- A programme record (R121). -/
structure Programme where
  ticket : Nat
  owner : Nat
  steps : List Step
  current : Nat
  state : ProgrammeState
  movement : Option Nat
  waiting : Option Time
  carry : Option Reservation
  stopReason : Option StopReason
  deriving DecidableEq, Repr

/-! ### The restriction table (07) -/

/-- A standing restriction (R136). -/
structure Restriction where
  id : Nat
  kind : RestrictionKind
  target : Nat
  port : Option Nat
  label : Nat
  count : Option Nat
  deriving DecidableEq, Repr

/-- The request whose answer waits for a write or a validation: port, kind, tag (R163). -/
structure Requester where
  port : Nat
  kind : Byte
  tag : BitVec 16
  deriving DecidableEq, Repr

/-- What a write changes in the storage (R137). -/
inductive TableChange where
  | put (r : Restriction)
  | remove (id : Nat)
  deriving DecidableEq, Repr

/-- A write to the restriction storage, in progress or waiting (R137). -/
structure StorageWrite where
  change : TableChange
  requester : Option Requester
  deriving DecidableEq, Repr

/-! ### The station links (09) -/

/-- The six notices (R167). -/
inductive Notice where
  | release (ticket apparatus : Nat) (target : Target) (startWindow : Time)
  | revoke (ticket apparatus : Nat)
  | movementEnded (ticket : Nat) (outcome : MoveOutcome) (operatingTime : Option Time)
  | programmeEnded (ticket : Nat) (step : Nat) (stopped : Option StopReason)
  | unbidden (apparatus : Nat) (before after : Pos)
  | modeChanged (before after : Mode)
  deriving DecidableEq, Repr

/-- A frame of a transmit list (R166): an answer with its code and the fields after it, or a notice. -/
inductive Outgoing where
  | answer (kind : Byte) (tag : BitVec 16) (code : AnswerCode) (fields : List Byte)
  | notice (n : Notice)
  deriving DecidableEq, Repr

/-- The request of a port in progress (R163). `inList` while its frame stands in the inbound list;
`restart` for a RESTART that was taken (R185). -/
structure InProgress where
  kind : Byte
  tag : BitVec 16
  inList : Bool
  restart : Bool
  deriving DecidableEq, Repr

/-- A link port (00_scope.md 2.1; R73, R74, R162, R163, R166, 9.5). -/
structure Port where
  role : Role
  silenceLimit : Time
  defaultPriority : Nat
  state : PortState
  silenceTimer : Option Time
  priority : Nat
  queue : List Nat
  inbound : List Frame
  inProgress : Option InProgress
  transmit : List Outgoing
  deriving DecidableEq, Repr

/-! ### The mode controller and the description store (10) -/

/-- The restart record (R178). -/
structure RestartRecord where
  cause : ResetCause
  modeAtReset : Option Mode
  count : Nat
  deriving DecidableEq, Repr

/-- Where a validation has come to (R183): the next port record, or the number above which the next node,
apparatus or restriction is looked for. -/
inductive Cursor where
  | ports (next : Nat)
  | nodes (above : Nat)
  | apparatus (above : Nat)
  | restrictions (above : Nat)
  deriving DecidableEq, Repr

/-- A failing record: its kind, its number and the reason (R183). -/
structure Failure where
  kind : FailKind
  number : Nat
  reason : FailReason
  deriving DecidableEq, Repr

/-- A COMMIT YARD validation in progress (R183). `disturbed` when a LOAD YARD was taken meanwhile. -/
structure Validation where
  cursor : Cursor
  failure : Option Failure
  disturbed : Bool
  requester : Option Requester
  deriving DecidableEq, Repr

/-! ### The engine -/

/-- The state of the engine. Every field but the first, `now`, `coupled` and `waitingOrder` is named by the
spec (INVENTORY.md, State); `entries` stands in ascending order of ticket, `restrictions` of id. -/
structure State where
  pending : List Instr
  now : Time
  supplyGood : Bool
  lineAsserted : Bool
  commandedDue : Bool
  mode : Mode
  restartTimer : Option Time
  gatheringTimer : Option Time
  freezeCarried : Bool
  restartRecord : RestartRecord
  store : Yard
  verified : Bool
  written : List Nat
  force : Yard
  validation : Option Validation
  ports : List Port
  apps : List AppLive
  nodes : List NodeLive
  substs : List Subst
  held : List HeldEntry
  pass : Option Pass
  spoils : Nat
  publicationCount : BitVec 32
  published : Colouring
  evaluation : Option Evaluation
  coupled : List Nat
  entries : List Entry
  ticketCounter : Nat
  ended : List Ended
  programmes : List Programme
  waitingOrder : List Nat
  restrictions : List Restriction
  stored : List Restriction
  writes : List StorageWrite
  deriving DecidableEq, Repr

/-- The engine has no fault: a wrong frame is discarded (R161) and a wrong request is answered with a
code (R164). No constructor, so no meaning can raise one. -/
inductive Fault where
  deriving DecidableEq, Repr

/-- Why a command has no meaning in this model. -/
inductive Refusal where
  /-- Raised by an arm of `exec` whose command has no meaning yet; safe. No arm of this model raises it. -/
  | notModelled (mnemonic : String)
  deriving DecidableEq, Repr

/-! ### Values right after reset -/

/-- R176: a port record of a module that has never been loaded. -/
def factoryPort : PortDesc := { role := .unused, defaultPriority := 0, silenceLimit := 500 }

/-- R176: the default settings. -/
def factorySettings : Settings :=
  { liveThreshold := 700, deadThreshold := 200, confirmCount := 3,
    settleLimit := 200, deferralLimit := 3000, gatheringLimit := 3000 }

/-- R176: the description of a module that has never been loaded. -/
def factoryYard : Yard :=
  { nodes := [], apparatus := [], ports := List.replicate 24 factoryPort, settings := factorySettings }

/-- R172, R91: a port after any reset, with the values of its stored record. -/
def Port.afterReset (d : PortDesc) : Port :=
  { role := d.role, silenceLimit := d.silenceLimit, defaultPriority := d.defaultPriority,
    state := .silent, silenceTimer := none, priority := d.defaultPriority, queue := [],
    inbound := [], inProgress := none, transmit := [] }

/-- R49: the initial colouring. -/
def Colouring.start : Colouring := { initial := true, nodes := [], positions := [] }

/-- The engine right after its first POWER_ON: a module that has never been loaded (R176), RESTARTING with the
restart timer loaded (R179), supply good and the line released (log 12). -/
def State.reset : State :=
  { pending := [], now := 0, supplyGood := true, lineAsserted := false, commandedDue := false,
    mode := .restarting, restartTimer := some 200, gatheringTimer := none, freezeCarried := false,
    restartRecord := { cause := .powerOn, modeAtReset := none, count := 0 },
    store := factoryYard, verified := false, written := [], force := factoryYard, validation := none,
    ports := List.replicate 24 (Port.afterReset factoryPort),
    apps := [], nodes := [], substs := [], held := [], pass := none, spoils := 0, publicationCount := 0,
    published := Colouring.start, evaluation := none, coupled := [], entries := [], ticketCounter := 1,
    ended := [], programmes := [], waitingOrder := [], restrictions := [], stored := [], writes := [] }

end Sys2Proof.Machine
end

