-- ==== Sys2Proof/Machine/Ops.lean ====
section
/-! DEFINITION. The named operations over the engine's records: lookups, updates of one record, queues,
notices (R166 to R168), answers (R163, R166) and tickets (R94). -/

namespace Sys2Proof

/-! ### Small conversions -/

/-- The position a target names. -/
def Target.pos : Target → Pos
  | .opened => .opened
  | .closed => .closed

/-- The definite position opposite to a target. -/
def Target.opposite : Target → Pos
  | .opened => .closed
  | .closed => .opened

/-- The class a candidate or a substituted class names. -/
def Cand.toCls : Cand → Cls
  | .live => .live
  | .dead => .dead

/-- 08: FREEZING or FROZEN. -/
def Mode.isFreeze : Mode → Bool
  | .freezing | .frozen => true
  | _ => false

/-- R34: the modes in which passes run. -/
def Mode.runsPasses : Mode → Bool
  | .gathering | .service | .freezing | .frozen => true
  | _ => false

/-- R87: the reason with which a deferral cause ends an entry. -/
def DeferralCause.reason : DeferralCause → Reason
  | .reserved => .zoneEngaged
  | .unsettled => .unsettled

/-- R98: the four states whose reservations are held. -/
def EntryState.held : EntryState → Bool
  | .released | .revoking | .travelling | .settling => true
  | _ => false

/-- The apparatus has a terminal at node `n`. -/
def AppDesc.atNode (d : AppDesc) (n : Nat) : Bool := d.a == n || d.b == n

/-- The other terminal of an apparatus with a terminal at `n`. -/
def AppDesc.otherEnd (d : AppDesc) (n : Nat) : Nat := if d.a = n then d.b else d.a

/-- R52: the terminals without node 0. -/
def AppDesc.footprint (d : AppDesc) : List Nat := [d.a, d.b].filter (· ≠ 0)

end Sys2Proof

namespace Sys2Proof.Machine

/-- A port the engine does not have: a command that names one finds it UNUSED (log 1). -/
def Port.missing : Port := Port.afterReset factoryPort

/-! ### Lookups -/

/-- R178: the engine is held in the reset. -/
def State.heldInReset (s : State) : Bool := !s.supplyGood || s.lineAsserted

/-- The apparatus record the engine acts on (R2, log 4). -/
def State.appDesc (s : State) (a : Nat) : Option AppDesc := s.force.apparatus.find? (fun d => d.number == a)

/-- The node record the engine acts on (R1, log 4). -/
def State.nodeDesc (s : State) (n : Nat) : Option NodeDesc := s.force.nodes.find? (fun d => d.number == n)

/-- The live record of an apparatus (R3). -/
def State.app (s : State) (a : Nat) : Option AppLive := s.apps.find? (fun r => r.number == a)

/-- The live record of a measured node (R4). -/
def State.node (s : State) (n : Nat) : Option NodeLive := s.nodes.find? (fun r => r.number == n)

/-- The live movement entry with a ticket (R92). -/
def State.entry (s : State) (t : Nat) : Option Entry := s.entries.find? (fun e => e.ticket == t)

/-- The live movement entry of an apparatus (R92). -/
def State.entryOf (s : State) (a : Nat) : Option Entry := s.entries.find? (fun e => e.apparatus == a)

/-- The programme with a ticket (R121). -/
def State.programme (s : State) (t : Nat) : Option Programme := s.programmes.find? (fun p => p.ticket == t)

/-- The ended-ticket item with a ticket (R95). -/
def State.endedItem (s : State) (t : Nat) : Option Ended := s.ended.find? (fun e => e.ticket == t)

/-- A port by number. -/
def State.port (s : State) (p : Nat) : Port := s.ports.getD p Port.missing

/-- The substitution standing on a target (01, 1.7). -/
def State.subst (s : State) (id : RecordId) : Option Subst := s.substs.find? (fun x => x.target == id)

/-- The held entry standing for a target (R14). -/
def State.heldFor (s : State) (id : RecordId) : Option HeldEntry := s.held.find? (fun h => h.target == id)

/-- R14: a held pass is running. -/
def State.heldPassRunning (s : State) : Bool :=
  match s.pass with
  | some w => w.held
  | none => false

/-- 08: a breaker opening is an entry whose apparatus is a BREAKER and whose target is OPEN. -/
def State.isBreakerOpening (s : State) (a : Nat) (t : Target) : Bool :=
  match s.appDesc a with
  | some d => d.kind == .breaker && t == .opened
  | none => false

/-- 08: every entry that is no breaker opening is a held-back movement. -/
def State.heldBack (s : State) (e : Entry) : Bool := !s.isBreakerOpening e.apparatus e.target

/-- R75: a port is muted while its current priority is 0. -/
def State.muted (s : State) (p : Nat) : Bool := (s.port p).priority == 0

/-- The reporting port of an apparatus (R2). -/
def State.reportingPort (s : State) (a : Nat) : Option Nat := (s.appDesc a).map AppDesc.port

/-- The footprint of an apparatus (R52). -/
def State.footprintOf (s : State) (a : Nat) : List Nat :=
  match s.appDesc a with
  | some d => d.footprint
  | none => []

/-- The sense of "lies in" of R79: an apparatus with a terminal in the set, or a measured node in it. -/
def State.liesIn (s : State) (id : RecordId) (set : List Nat) : Bool :=
  match id with
  | .apparatus a =>
    match s.appDesc a with
    | some d => set.contains d.a || set.contains d.b
    | none => false
  | .node n => set.contains n

/-! ### Updates of one record -/

def State.modApp (s : State) (a : Nat) (f : AppLive → AppLive) : State :=
  { s with apps := s.apps.map (fun r => if r.number = a then f r else r) }

def State.modNode (s : State) (n : Nat) (f : NodeLive → NodeLive) : State :=
  { s with nodes := s.nodes.map (fun r => if r.number = n then f r else r) }

def State.modEntry (s : State) (t : Nat) (f : Entry → Entry) : State :=
  { s with entries := s.entries.map (fun e => if e.ticket = t then f e else e) }

def State.modProgramme (s : State) (t : Nat) (f : Programme → Programme) : State :=
  { s with programmes := s.programmes.map (fun p => if p.ticket = t then f p else p) }

def State.modPort (s : State) (p : Nat) (f : Port → Port) : State :=
  { s with ports := s.ports.modify p f }

def State.modHeld (s : State) (id : RecordId) (f : HeldCopy → HeldCopy) : State :=
  { s with held := s.held.map (fun h => if h.target = id then { h with copy := f h.copy } else h) }

/-- The unpublished marker of a record is set (R13, R41). -/
def State.setMarker (s : State) : RecordId → State
  | .apparatus a => s.modApp a (fun r => { r with marker := true })
  | .node n => s.modNode n (fun r => { r with marker := true })

/-- Insert in ascending order of a key, before the first record with a larger one. -/
def insertBy {α : Type} (key : α → Nat) (x : α) : List α → List α
  | [] => [x]
  | y :: ys => if key x < key y then x :: y :: ys else y :: insertBy key x ys

/-- Insert in ascending order of a key, replacing a record with the same key. -/
def putBy {α : Type} (key : α → Nat) (x : α) : List α → List α
  | [] => [x]
  | y :: ys =>
    if key x < key y then x :: y :: ys
    else if key x = key y then x :: ys
    else y :: putBy key x ys

/-! ### Request queues (R73) -/

/-- A ticket joins a port's queue at the tail. -/
def State.queueTail (s : State) (p t : Nat) : State :=
  s.modPort p (fun q => { q with queue := q.queue ++ [t] })

/-- A ticket leaves a port's queue; the tickets behind it move up. -/
def State.queueLeave (s : State) (p t : Nat) : State :=
  s.modPort p (fun q => { q with queue := q.queue.filter (· ≠ t) })

/-- A ticket goes to the head of a port's queue. -/
def State.queueHead (s : State) (p t : Nat) : State :=
  s.modPort p (fun q => { q with queue := t :: q.queue.filter (· ≠ t) })

/-! ### Notices (R166, R168) -/

/-- R166: the notice places in use. -/
def noticeCount (l : List Outgoing) : Nat :=
  (l.filter (fun x => match x with | .notice _ => true | .answer .. => false)).length

/-- R166, R168: a notice enters a port's transmit list at its tail; it is discarded when the port is not ACTIVE
or its 32 notice places are full. -/
def State.notify (s : State) (p : Nat) (n : Notice) : State :=
  if (s.port p).state = .active ∧ noticeCount (s.port p).transmit < Config.maxNotices then
    s.modPort p (fun q => { q with transmit := q.transmit ++ [.notice n] })
  else s

/-- R167: UNBIDDEN and MODE CHANGED go to every SUPERVISORY port that is ACTIVE. -/
def State.broadcast (s : State) (n : Notice) : State :=
  (List.range Config.nPorts).foldl
    (fun acc p => if (acc.port p).role = .supervisory then acc.notify p n else acc) s

/-- R177: the mode changes and MODE CHANGED goes out. -/
def State.changeMode (s : State) (m : Mode) : State :=
  { s with mode := m }.broadcast (.modeChanged s.mode m)

/-- A REVOKE notice goes to the reporting port of an entry's apparatus (R167). -/
def State.sendRevoke (s : State) (e : Entry) : State :=
  match s.reportingPort e.apparatus with
  | some p => s.notify p (.revoke e.ticket e.apparatus)
  | none => s

/-! ### Requests and answers (R163, R166) -/

/-- What a request's handling leaves: an answer at once, or one that waits for an effect that takes time. -/
inductive Reply where
  | now (code : AnswerCode) (fields : List Byte)
  | later
  deriving DecidableEq, Repr

/-- R166: an answer enters a transmit list after the first `at` frames, before the notices of its own event. -/
def State.placeAnswer (s : State) (p : Nat) (pos : Nat) (a : Outgoing) : State :=
  s.modPort p (fun q => { q with transmit := q.transmit.take pos ++ a :: q.transmit.drop pos })

/-- The answer of a request whose effect took time enters its port's transmit list (R163); none is sent when the
port's lists were emptied meanwhile (R170, log 9). -/
def State.answerRequester (s : State) (r : Option Requester) (code : AnswerCode) (fields : List Byte) : State :=
  match r with
  | some q => s.placeAnswer q.port (s.port q.port).transmit.length (.answer (q.kind + 0x80#8) q.tag code fields)
  | none => s

/-- The frame a port may take: the head of its inbound list, when no request of the port is in progress (R163)
and the port is not UNUSED (R171). -/
def State.takeable (s : State) (p : Nat) : Option Frame :=
  if (s.port p).role = .unused then none
  else match (s.port p).inProgress with
    | some _ => none
    | none => (s.port p).inbound.head?

/-- R163, R166: port `p` takes its head frame when `accepts` says that the frame is this command's, the request is
handled, and its answer enters before the notices its event placed. The frame stays in the inbound list, in
progress, until the answer's last byte is sent. Otherwise nothing happens (log 1). -/
def State.takeFrame (s : State) (p : Nat) (accepts : Frame → Bool) (answerKind : Byte → Byte)
    (handler : Frame → State → State × Reply) : State :=
  match s.takeable p with
  | none => s
  | some f =>
    if accepts f then
      let r := handler f (s.modPort p (fun q =>
        { q with inProgress := some { kind := f.kind, tag := f.tag, inList := true, restart := false } }))
      match r.2 with
      | .now code fields => r.1.placeAnswer p (s.port p).transmit.length (.answer (answerKind f.kind) f.tag code fields)
      | .later => r.1
    else s

/-- The requests of a port whose answers wait for a write or a validation are answered no more (R170, log 9). -/
def State.dropRequester (s : State) (p : Nat) : State :=
  let drop := fun (r : Option Requester) =>
    match r with
    | some q => if q.port = p then none else some q
    | none => none
  { s with
    writes := s.writes.map (fun w => { w with requester := drop w.requester })
    validation := s.validation.map (fun v => { v with requester := drop v.requester }) }

/-! ### Tickets (R94) -/

/-- R94: a number that names a live entry, a programme or an ended item is not issued. -/
def State.ticketUsed (s : State) (t : Nat) : Bool :=
  (s.entry t).isSome || (s.programme t).isSome || (s.endedItem t).isSome

/-- The number after a ticket, wrapping from 65535 to 1. -/
def nextTicket (t : Nat) : Nat := if t ≥ 65535 then 1 else t + 1

/-- The first free number from `t` on, looking at `fuel` numbers. -/
def State.freeTicketFrom (s : State) : Nat → Nat → Nat
  | 0, t => t
  | fuel + 1, t => if s.ticketUsed t then s.freeTicketFrom fuel (nextTicket t) else t

/-- R94: the number that would be issued now. One more number than stand in the three tables is looked at,
so a free one is found. -/
def State.freeTicket (s : State) : Nat :=
  s.freeTicketFrom (s.entries.length + s.programmes.length + s.ended.length + 1) s.ticketCounter

/-- The counter after issuing `t`. -/
def State.ticketIssued (s : State) (t : Nat) : State := { s with ticketCounter := nextTicket t }

/-! ### Guards -/

/-- R178: held in the reset, the engine takes no event but those of its supply and reset line. -/
def State.whenRunning (s : State) (f : State → State) : State := if s.heldInReset then s else f s

end Sys2Proof.Machine
end

