-- ==== Sys2Proof/Machine/Flags.lean ====
section
/-! DEFINITION. Every flag and derived value: effective positions and classes (R5, R6), presence
classification (R10, R11), blocking flags (R17, R18, R58), and the flags and colours of nodes (R29 to R32, R53). -/

namespace Sys2Proof

/-! ### Effective values (R5, R6) -/

/-- R5: the effective position, from the substituted position, the reporting port's state and the reported position. -/
def effectivePosition (substituted : Option Target) (portActive : Bool) (reported : Pos) : Pos :=
  match substituted with
  | some t => t.pos
  | none => if portActive then reported else .unknown

/-- R6: the effective class, from the substituted class and the class. -/
def effectiveClass (substituted : Option Cand) (cls : Cls) : Cls :=
  match substituted with
  | some c => c.toCls
  | none => cls

/-- R5, R29: possibly closed is anything but OPEN. -/
def Pos.possiblyClosed (p : Pos) : Bool := p != .opened

/-- R5, R29: surely closed is CLOSED. -/
def Pos.surelyClosed (p : Pos) : Bool := p == .closed

/-! ### Presence classification (R10, R11) -/

/-- R10: the sample clamped. -/
def clampSample (sample : Nat) : Nat := min sample Config.maxSample

/-- R10: the candidate of a clamped sample against the current class. -/
def candidate (st : Settings) (c : Cls) (v : Nat) : Cand :=
  if v ≥ st.liveThreshold then .live
  else if v ≤ st.deadThreshold then .dead
  else match c with
    | .live => .live
    | .dead => .dead
    | .unknown => .live

/-- R11: the counter and the class that a candidate leaves, from the current class, the counter and the last
candidate. -/
def classify (st : Settings) (c : Cls) (counter : Nat) (last : Option Cand) (cand : Cand) : Nat × Cls :=
  if cand.toCls = c then (0, c)
  else match cand with
    | .live => (0, .live)
    | .dead =>
      if last = some .dead then
        if counter + 1 < st.confirmCount then (counter + 1, c) else (0, .dead)
      else if st.confirmCount > 1 then (1, c) else (0, .dead)

/-! ### Blocking flags (R17, R18, R58) -/

namespace Flags4

/-- All four flags clear. -/
def clear : Flags4 := { driveLockout := false, localControl := false, driveSupply := false, gasPressure := false }

/-- Any of the four flags is set (R58). -/
def any (f : Flags4) : Bool := f.driveLockout || f.localControl || f.driveSupply || f.gasPressure

/-- One flag by condition. -/
def get (f : Flags4) : Condition → Bool
  | .driveLockout => f.driveLockout
  | .localControl => f.localControl
  | .driveSupply => f.driveSupply
  | .gasPressure => f.gasPressure

/-- One flag cleared. -/
def cleared (f : Flags4) : Condition → Flags4
  | .driveLockout => { f with driveLockout := false }
  | .localControl => { f with localControl := false }
  | .driveSupply => { f with driveSupply := false }
  | .gasPressure => { f with gasPressure := false }

/-- The conditions that `now` reports and `before` did not: each becomes present (R18, R20). -/
def rising (before now : Flags4) : Flags4 :=
  { driveLockout := now.driveLockout && !before.driveLockout
    localControl := now.localControl && !before.localControl
    driveSupply := now.driveSupply && !before.driveSupply
    gasPressure := now.gasPressure && !before.gasPressure }

def and (f g : Flags4) : Flags4 :=
  { driveLockout := f.driveLockout && g.driveLockout
    localControl := f.localControl && g.localControl
    driveSupply := f.driveSupply && g.driveSupply
    gasPressure := f.gasPressure && g.gasPressure }

def or (f g : Flags4) : Flags4 :=
  { driveLockout := f.driveLockout || g.driveLockout
    localControl := f.localControl || g.localControl
    driveSupply := f.driveSupply || g.driveSupply
    gasPressure := f.gasPressure || g.gasPressure }

end Flags4

namespace Machine

/-- All latch numbers 0 (R27). -/
def LatchNumbers.zero : LatchNumbers :=
  { driveLockout := 0, localControl := 0, driveSupply := 0, gasPressure := 0 }

/-- One latch number by condition. -/
def LatchNumbers.get (l : LatchNumbers) : Condition → BitVec 8
  | .driveLockout => l.driveLockout
  | .localControl => l.localControl
  | .driveSupply => l.driveSupply
  | .gasPressure => l.gasPressure

/-- R18: the latch numbers of the flagged conditions raised by 1, wrapping from 255 to 0. -/
def LatchNumbers.raise (l : LatchNumbers) (f : Flags4) : LatchNumbers :=
  { driveLockout := if f.driveLockout then l.driveLockout + 1 else l.driveLockout
    localControl := if f.localControl then l.localControl + 1 else l.localControl
    driveSupply := if f.driveSupply then l.driveSupply + 1 else l.driveSupply
    gasPressure := if f.gasPressure then l.gasPressure + 1 else l.gasPressure }

/-- R17, R18: the blocking part of an item, on a record whose LATCHED conditions are `modes`. -/
def AppLive.withBlocking (r : AppLive) (modes flags : Flags4) : AppLive :=
  let latching := (r.present.rising flags).and modes
  { r with present := flags, latched := r.latched.or latching, latchNumbers := r.latchNumbers.raise latching }

/-- R20: a blocking event, a flag that becomes present (a latched flag becomes set with it alone, R18). -/
def AppLive.blockingEvent (r : AppLive) (flags : Flags4) : Bool := (r.present.rising flags).any

/-- R58: any of the eight blocking flags is set. -/
def AppLive.blocked (r : AppLive) : Bool := r.present.any || r.latched.any

end Machine

/-! ### Flags and colours of nodes (R31, R32, R53) -/

/-- R32: the colour given by the flags PL, PE and SE. -/
def colourOf (pl pe se : Bool) : Colour :=
  if pl then (if pe then .contested else .live)
  else if pe then (if se then .earthed else .doubtfulEarth)
  else .floating

/-- R53: PL given back by the colour. -/
def Colour.pl : Colour → Bool
  | .live | .contested => true
  | _ => false

/-- R53: PE given back by the colour. -/
def Colour.pe : Colour → Bool
  | .contested | .earthed | .doubtfulEarth => true
  | _ => false

namespace Machine

/-- R49: the entry a node has before any pass: both ids its own number, FLOATING; node 0 EARTHED. -/
def NodeEntry.initial (n : Nat) : NodeEntry :=
  { sure := n, possible := n, colour := if n = 0 then .earthed else .floating }

/-- A node's entry in a colouring (R33, log 21). -/
def Colouring.node (c : Colouring) (n : Nat) : NodeEntry :=
  match c.nodes.find? (fun x => x.1 == n) with
  | some x => x.2
  | none => NodeEntry.initial n

/-- An apparatus's published position (R33, log 21). -/
def Colouring.position (c : Colouring) (a : Nat) : Pos :=
  match c.positions.find? (fun x => x.1 == a) with
  | some x => x.2
  | none => .unknown

/-- R53: SE is set when the sure-component id is 0. -/
def NodeEntry.se (e : NodeEntry) : Bool := e.sure == 0

end Machine

end Sys2Proof
end

