-- ==== Sys2Proof/Machine/Operands.lean ====
section
/-! DEFINITION. Every operand form: the codes of 11.1 and 11.2, and the decoding of every request body
(11.3, 11.5, R186). A decoder answers none where R186 calls the body MALFORMED. -/

namespace Sys2Proof

/-! ### Codes (11.1, 11.2) -/

/-- 11.1: the kind codes 01h to 1Ch. -/
def RequestKind.code : RequestKind → Nat
  | .positionReport => 0x01
  | .moveRequest => 0x02
  | .programmeRequest => 0x03
  | .cancel => 0x04
  | .amend => 0x05
  | .extend => 0x06
  | .revokeAnswer => 0x07
  | .queryApparatus => 0x08
  | .queryNode => 0x09
  | .queryMovement => 0x0A
  | .queryProgramme => 0x0B
  | .queryEngine => 0x0C
  | .keepalive => 0x0D
  | .placeRestriction => 0x0E
  | .liftRestriction => 0x0F
  | .queryRestrictions => 0x10
  | .liftInspectOverflow => 0x11
  | .substitute => 0x12
  | .endSubstitution => 0x13
  | .acknowledgeBlock => 0x14
  | .setPortPriority => 0x15
  | .freeze => 0x16
  | .thaw => 0x17
  | .enterMaintenance => 0x18
  | .leaveMaintenance => 0x19
  | .loadYard => 0x1A
  | .commitYard => 0x1B
  | .restart => 0x1C

/-- The frame is a request of a kind. -/
def Frame.isKind (f : Frame) (k : RequestKind) : Bool := f.kind == BitVec.ofNat 8 k.code

/-- R164, 11.1: the kind byte is a request kind. -/
def Frame.isRequest (f : Frame) : Bool := decide (0x01 ≤ f.kind.toNat ∧ f.kind.toNat ≤ 0x1C)

def Pos.code : Pos → Nat
  | .opened => 0 | .closed => 1 | .travelling => 2 | .faulty => 3 | .unknown => 4

def Pos.ofCode : Nat → Option Pos
  | 0 => some .opened | 1 => some .closed | 2 => some .travelling | 3 => some .faulty | 4 => some .unknown
  | _ => none

def Target.code : Target → Nat
  | .opened => 0 | .closed => 1

def Target.ofCode : Nat → Option Target
  | 0 => some .opened | 1 => some .closed
  | _ => none

def Mode.code : Mode → Nat
  | .restarting => 0 | .gathering => 1 | .service => 2 | .freezing => 3 | .frozen => 4 | .maintenance => 5

def Role.code : Role → Nat
  | .unused => 0 | .bay => 1 | .supervisory => 2

def Role.ofCode : Nat → Option Role
  | 0 => some .unused | 1 => some .bay | 2 => some .supervisory
  | _ => none

def NodeKind.code : NodeKind → Nat
  | .busbar => 0 | .junction => 1 | .terminal => 2

def NodeKind.ofCode : Nat → Option NodeKind
  | 0 => some .busbar | 1 => some .junction | 2 => some .terminal
  | _ => none

def AppKind.code : AppKind → Nat
  | .breaker => 0 | .disconnector => 1 | .earthSwitch => 2

def AppKind.ofCode : Nat → Option AppKind
  | 0 => some .breaker | 1 => some .disconnector | 2 => some .earthSwitch
  | _ => none

def RestrictionKind.code : RestrictionKind → Nat
  | .locked => 0 | .holdOpen => 1 | .holdClosed => 2 | .workZone => 3 | .inspect => 4

def RestrictionKind.ofCode : Nat → Option RestrictionKind
  | 0 => some .locked | 1 => some .holdOpen | 2 => some .holdClosed | 3 => some .workZone | 4 => some .inspect
  | _ => none

def Condition.ofCode : Nat → Option Condition
  | 0 => some .driveLockout | 1 => some .localControl | 2 => some .driveSupply | 3 => some .gasPressure
  | _ => none

def RevokeReply.ofCode : Nat → Option RevokeReply
  | 0 => some .withdrawn | 1 => some .started
  | _ => none

def SubstValue.code : SubstValue → Nat
  | .position .opened => 0 | .position .closed => 1 | .cls .live => 2 | .cls .dead => 3

def SubstValue.ofCode : Nat → Option SubstValue
  | 0 => some (.position .opened) | 1 => some (.position .closed) | 2 => some (.cls .live) | 3 => some (.cls .dead)
  | _ => none

/-- 11.2: the substitution target type, with the target number. -/
def RecordId.ofCode (type number : Nat) : Option RecordId :=
  match type with
  | 0 => some (.apparatus number)
  | 1 => some (.node number)
  | _ => none

def boolOfCode : Nat → Option Bool
  | 0 => some false | 1 => some true
  | _ => none

/-- 11.2: the blocking byte; bits 4 to 7 are not read. -/
def flagsOfByte (b : Byte) : Flags4 :=
  { driveLockout := b.getLsbD 0, localControl := b.getLsbD 1, driveSupply := b.getLsbD 2, gasPressure := b.getLsbD 3 }

def Flags4.code (f : Flags4) : Nat :=
  f.driveLockout.toNat + 2 * f.localControl.toNat + 4 * f.driveSupply.toNat + 8 * f.gasPressure.toNat

def Cls.code : Cls → Nat
  | .live => 0 | .dead => 1 | .unknown => 2

def Colour.code : Colour → Nat
  | .live => 0 | .contested => 1 | .earthed => 2 | .doubtfulEarth => 3 | .floating => 4

def Reason.code : Reason → Nat
  | .alreadyThere => 0x01 | .positionUncertain => 0x02 | .restricted => 0x03 | .blocked => 0x04
  | .liveAgainstEarth => 0x05 | .uncertainEarth => 0x06 | .noEquipotential => 0x07 | .loadPath => 0x08
  | .nodeNotDead => 0x09 | .zoneEngaged => 0x0A | .unsettled => 0x0B | .portMuted => 0x0C | .queueFull => 0x0D

/-- 11.2: the outcome code. -/
def MoveOutcome.code : MoveOutcome → Nat
  | .completed => 0x01 | .skipped => 0x02 | .refused _ => 0x03 | .lapsed => 0x04 | .timedOut => 0x05
  | .returned => 0x06 | .faulted => 0x07 | .cancelled => 0x08 | .portLost => 0x09 | .blockedAfterRelease => 0x0A

/-- 11.4: a reason accompanies REFUSED alone; otherwise 00h. -/
def MoveOutcome.reasonCode : MoveOutcome → Nat
  | .refused r => r.code
  | _ => 0

def EntryState.code : EntryState → Nat
  | .queued => 0 | .deferred => 1 | .evaluating => 2 | .suspended => 3
  | .released => 4 | .revoking => 5 | .travelling => 6 | .settling => 7

def ProgrammeState.code : ProgrammeState → Nat
  | .waiting => 0 | .running => 1 | .stopping => 2

/-- 11.2: STOPPED, sent in the answer to a CANCEL of a programme that stopped in the CANCEL's event. -/
def stoppedCode : Nat := 3

def DeferralCause.code : DeferralCause → Nat
  | .unsettled => 1 | .reserved => 2

def RevokeFlavour.code : RevokeFlavour → Nat
  | .cancel => 1 | .freeze => 2

def PortState.code : PortState → Nat
  | .silent => 0 | .active => 1 | .lost => 2

def ResetCause.code : ResetCause → Nat
  | .powerOn => 0 | .resetLine => 1 | .commanded => 2

def FailKind.code : FailKind → Nat
  | .port => 1 | .node => 2 | .apparatus => 3 | .restriction => 4

def FailReason.code : FailReason → Nat
  | .noSupervisoryPort => 1 | .unmeasuredTerminal => 2 | .notBayPort => 3 | .undeclaredNode => 4
  | .terminalRule => 5 | .unknownTarget => 6

/-- 11.2: the answer codes 00h to 19h, in the order of the table of 9.3.1. -/
def AnswerCode.code : AnswerCode → Nat
  | .done => 0x00 | .accepted => 0x01 | .clamped => 0x02 | .malformed => 0x03 | .portRole => 0x04 | .mode => 0x05
  | .portMuted => 0x06 | .outOfRange => 0x07 | .unknownApparatus => 0x08 | .unknownTarget => 0x09
  | .notYourItem => 0x0A | .substituted => 0x0B | .engaged => 0x0C | .queueFull => 0x0D | .tableFull => 0x0E
  | .unknownTicket => 0x0F | .tooLate => 0x10 | .notTravelling => 0x11 | .notApplicable => 0x12
  | .stillPresent => 0x13 | .staleAck => 0x14 | .duplicate => 0x15 | .already => 0x16 | .heldFull => 0x17
  | .unverified => 0x18 | .invalidDescription => 0x19

/-! ### Request bodies (11.3) -/

/-- A kind with no body has a body of 0 bytes. -/
def decodeEmpty : List Byte → Option Unit
  | [] => some ()
  | _ => none

/-- A ticket, an apparatus number. -/
def decodeNumber16 : List Byte → Option Nat
  | [a, b] => some (u16 a b)
  | _ => none

/-- A node number, an id. -/
def decodeNumber8 : List Byte → Option Nat
  | [a] => some a.toNat
  | _ => none

/-- MOVE REQUEST: apparatus number, target. AMEND: ticket, target. -/
def decodeNumberTarget : List Byte → Option (Nat × Target)
  | [a, b, t] => (Target.ofCode t.toNat).map (fun x => (u16 a b, x))
  | _ => none

/-- EXTEND: ticket, amount. -/
def decodeExtend : List Byte → Option (Nat × Time)
  | [a, b, c, d] => some (u16 a b, u16 c d)
  | _ => none

/-- REVOKE ANSWER: ticket, answer. -/
def decodeRevokeAnswer : List Byte → Option (Nat × RevokeReply)
  | [a, b, r] => (RevokeReply.ofCode r.toNat).map (fun x => (u16 a b, x))
  | _ => none

/-- PLACE RESTRICTION: kind, target, permit label. -/
def decodePlace : List Byte → Option (RestrictionKind × Nat × Nat)
  | [k, a, b, c, d] => (RestrictionKind.ofCode k.toNat).map (fun x => (x, u16 a b, u16 c d))
  | _ => none

/-- SUBSTITUTE: target type, target number, value. -/
def decodeSubstitute : List Byte → Option (RecordId × SubstValue)
  | [ty, a, b, v] =>
    match RecordId.ofCode ty.toNat (u16 a b), SubstValue.ofCode v.toNat with
    | some id, some x => some (id, x)
    | _, _ => none
  | _ => none

/-- END SUBSTITUTION: target type, target number. -/
def decodeEndSubstitution : List Byte → Option RecordId
  | [ty, a, b] => RecordId.ofCode ty.toNat (u16 a b)
  | _ => none

/-- ACKNOWLEDGE BLOCK: apparatus number, condition, latch number. -/
def decodeAcknowledge : List Byte → Option (Nat × Condition × BitVec 8)
  | [a, b, c, l] => (Condition.ofCode c.toNat).map (fun x => (u16 a b, x, l))
  | _ => none

/-- SET PORT PRIORITY: port number, priority. -/
def decodePriority : List Byte → Option (Nat × Nat)
  | [p, v] => some (p.toNat, v.toNat)
  | _ => none

/-- The items of a POSITION REPORT, each item's first byte giving its length; the last ends the body (R186). -/
def decodeItems : Nat → List Byte → Option (List ReportItem)
  | 0, [] => some []
  | 0, _ :: _ => none
  | n + 1, bytes =>
    match bytes with
    | ty :: a :: b :: c :: rest =>
      if ty.toNat = 1 then
        match rest with
        | d :: rest' =>
          match Pos.ofCode c.toNat with
          | some p => (decodeItems n rest').map (fun l => .apparatus (u16 a b) p (flagsOfByte d) :: l)
          | none => none
        | [] => none
      else if ty.toNat = 2 then
        (decodeItems n rest).map (fun l => .presence a.toNat (u16 b c) :: l)
      else none
    | _ => none

/-- POSITION REPORT: a count of 1 to 16, then the items (R164, R186). -/
def decodeReport : List Byte → Option (List ReportItem)
  | [] => none
  | n :: rest => if 1 ≤ n.toNat ∧ n.toNat ≤ Config.maxItems then decodeItems n.toNat rest else none

/-- The steps of a PROGRAMME REQUEST, 4 bytes each; bits 2 to 7 of the flags are not read. -/
def decodeSteps : Nat → List Byte → Option (List Step)
  | 0, [] => some []
  | 0, _ :: _ => none
  | n + 1, bytes =>
    match bytes with
    | a :: b :: t :: f :: rest =>
      match Target.ofCode t.toNat with
      | some x =>
        (decodeSteps n rest).map (fun l =>
          { apparatus := u16 a b, target := x, skipIfThere := f.getLsbD 0, coupled := f.getLsbD 1 } :: l)
      | none => none
    | _ => none

/-- PROGRAMME REQUEST: any count that the body length matches, then the steps. -/
def decodeProgramme : List Byte → Option (List Step)
  | [] => none
  | n :: rest => decodeSteps n.toNat rest

/-- LOAD YARD: an operation byte, then its record (11.5). The reporting port of a node record is numeric, FFh absent. -/
def decodeYard (body : List Byte) : Option YardOp :=
  match body with
  | op :: rest =>
    match op.toNat, rest with
    | 0x01, [n1, n2, k, m, p] =>
      match NodeKind.ofCode k.toNat, boolOfCode m.toNat with
      | some kind, some measured => some (.writeNode (u16 n1 n2) kind measured p.toNat)
      | _, _ => none
    | 0x02, [n1, n2] => some (.removeNode (u16 n1 n2))
    | 0x03, [n1, n2, k, a1, a2, b1, b2, p, s1, s2, t1, t2, m] =>
      (AppKind.ofCode k.toNat).map (fun kind => .writeApparatus
        { number := u16 n1 n2, kind := kind, a := u16 a1 a2, b := u16 b1 b2, port := p.toNat,
          startWindow := u16 s1 s2, travelLimit := u16 t1 t2, latchedModes := flagsOfByte m })
    | 0x04, [n1, n2] => some (.removeApparatus (u16 n1 n2))
    | 0x05, [p, r, d, s1, s2] =>
      (Role.ofCode r.toNat).map (fun role => .writePort p.toNat
        { role := role, defaultPriority := d.toNat, silenceLimit := u16 s1 s2 })
    | 0x06, [l1, l2, d1, d2, c, s1, s2, f1, f2, g1, g2] =>
      some (.writeSettings
        { liveThreshold := u16 l1 l2, deadThreshold := u16 d1 d2, confirmCount := c.toNat,
          settleLimit := u16 s1 s2, deferralLimit := u16 f1 f2, gatheringLimit := u16 g1 g2 })
    | _, _ => none
  | [] => none

/-- The operation byte of a LOAD YARD body, where it is one of the six (11.5). -/
def yardOperation (body : List Byte) : Option Nat :=
  match body with
  | op :: _ => if 1 ≤ op.toNat ∧ op.toNat ≤ 6 then some op.toNat else none
  | [] => none

end Sys2Proof
end

