-- ==== Sys2Proof/Machine/Answers.lean ====
section
/-! DEFINITION. The bytes the engine sends: notices (11.4), the records an answer carries (R173 to R175, R146)
and whole frames (R187). Presence bytes and the order of leading fields are log 7's. -/

namespace Sys2Proof.Machine

def putBool (b : Bool) : List Byte := put8 b.toNat

/-- An optional byte whose zero is itself a value: a presence byte, then the byte or 00h (R187). -/
def putOpt8 : Option Nat → List Byte
  | some n => put8 1 ++ put8 n
  | none => put8 0 ++ put8 0

/-- An optional two-byte number whose zero is itself a value. -/
def putOpt16 : Option Nat → List Byte
  | some n => put8 1 ++ put16 n
  | none => put8 0 ++ put16 0

/-- R187: a set of nodes as a map of 32 bytes, node 0 in the least significant bit of byte 0. -/
def putNodes (set : List Nat) : List Byte :=
  (List.range 32).map (fun i => (List.range 8).foldl
    (fun acc j => if set.contains (8 * i + j) then acc ||| (1#8 <<< j) else acc) 0#8)

/-! ### Notices (11.4) -/

/-- 11.1: the notice kinds A1h to A6h. -/
def Notice.kind : Notice → Byte
  | .release .. => 0xA1#8
  | .revoke .. => 0xA2#8
  | .movementEnded .. => 0xA3#8
  | .programmeEnded .. => 0xA4#8
  | .unbidden .. => 0xA5#8
  | .modeChanged .. => 0xA6#8

/-- 11.2: the programme stop cause and the reason byte. -/
def putStopReason : Option StopReason → List Byte
  | none => put8 0 ++ put8 0
  | some (.outcome o) => put8 o.code ++ put8 o.reasonCode
  | some .noRoom => put8 0x10 ++ put8 0
  | some .substituted => put8 0x11 ++ put8 0
  | some .engaged => put8 0x12 ++ put8 0

/-- 11.4: the body of a notice. -/
def Notice.body : Notice → List Byte
  | .release t a g w => put16 t ++ put16 a ++ put8 g.code ++ put16 w
  | .revoke t a => put16 t ++ put16 a
  | .movementEnded t o time => put16 t ++ put8 o.code ++ put8 o.reasonCode ++ putOpt16 time
  | .programmeEnded t step stopped => put16 t ++ put8 stopped.isSome.toNat ++ put8 step ++ putStopReason stopped
  | .unbidden a x y => put16 a ++ put8 x.code ++ put8 y.code
  | .modeChanged x y => put8 x.code ++ put8 y.code

/-- R187: the bytes of a frame the engine sends; a notice carries tag 0. -/
def Outgoing.bytes : Outgoing → List Byte
  | .answer kind tag code fields => frameBytes kind tag (put8 code.code ++ fields)
  | .notice n => frameBytes n.kind 0 n.body

/-! ### Records (R173) -/

/-- 11.5: a node record. -/
def putNodeDesc (d : NodeDesc) : List Byte :=
  put16 d.number ++ put8 d.kind.code ++ putBool d.measured ++ put8 (d.port.getD 0xFF)

/-- 11.5: an apparatus record. -/
def putAppDesc (d : AppDesc) : List Byte :=
  put16 d.number ++ put8 d.kind.code ++ put16 d.a ++ put16 d.b ++ put8 d.port ++
    put16 d.startWindow ++ put16 d.travelLimit ++ put8 d.latchedModes.code

/-- A last outcome with its reason (R3, R117). -/
def putLastOutcome : Option LastOutcome → List Byte
  | none => put8 0 ++ put8 0
  | some .tripped => put8 0x0B ++ put8 0
  | some (.movement o) => put8 o.code ++ put8 o.reasonCode

/-- R173: every field of the live record of R3, in the table's order. -/
def putAppLive (r : AppLive) : List Byte :=
  put8 r.reported.code ++ putOpt8 (r.substituted.map Target.code) ++ put8 r.effective.code ++
    put8 r.present.code ++ put8 r.latched.code ++
    [r.latchNumbers.driveLockout, r.latchNumbers.localControl, r.latchNumbers.driveSupply, r.latchNumbers.gasPressure] ++
    putBool r.marker ++ put16 (r.ticket.getD 0) ++ putLastOutcome r.lastOutcome ++
    putOpt16 r.lastOperatingTime ++ putBool r.overflow

/-- The code of a node's last candidate and of its substituted class in a live record and in a held copy. DESIGN CHOICE,
unsafe (log 7): 11.2 names no value set for them, and the model sends those of the presence class, 00h LIVE and 01h DEAD. -/
def Cand.byte (c : Cand) : Nat := c.toCls.code

/-- R173: the live record of R4, in the table's order. -/
def putNodeLive (r : NodeLive) : List Byte :=
  put8 r.cls.code ++ putOpt8 (r.lastCandidate.map Cand.byte) ++ put8 r.counter ++ putOpt16 r.lastSample ++
    putOpt8 (r.substituted.map Cand.byte) ++ put8 r.effective.code ++ putBool r.marker

/-- The length of `putNodeLive`. -/
def nodeLiveLength : Nat := 11

/-! ### The live part of a record that has none yet (log 5)

Each field is a free value of those that R3 and R4 give it, so every code sent is one of 11.2 (R187). -/

/-- The free value that a byte chooses among those of a field. -/
def freeOf {α : Type} (b : Byte) (x : α) (others : List α) : α := (x :: others).getD (b.toNat % (others.length + 1)) x

/-- A free position. -/
def freePos (b : Byte) : Pos := freeOf b .opened [.closed, .travelling, .faulty, .unknown]

/-- A free candidate, or none. -/
def freeCand (b : Byte) : Option Cand := freeOf b none [some .live, some .dead]

/-- A free number of two bytes, or none. -/
def freeOpt16 (present high low : Byte) : Option Nat := if present.getLsbD 0 then some (u16 high low) else none

/-- Every reason (11.2). -/
def allReasons : List Reason :=
  [.alreadyThere, .positionUncertain, .restricted, .blocked, .liveAgainstEarth, .uncertainEarth, .noEquipotential, .loadPath,
   .nodeNotDead, .zoneEngaged, .unsettled, .portMuted, .queueFull]

/-- Every outcome of a movement (11.2). -/
def allOutcomes : List MoveOutcome :=
  [.completed, .skipped, .lapsed, .timedOut, .returned, .faulted, .cancelled, .portLost, .blockedAfterRelease] ++
    allReasons.map .refused

/-- A free last outcome, or none. -/
def freeLastOutcome (b : Byte) : Option LastOutcome :=
  freeOf b none (some .tripped :: allOutcomes.map (fun o => some (.movement o)))

/-- R3: the free live record of apparatus `a`, whose reporting port is ACTIVE or not; its effective position is derived from
the free values (R5). -/
def freeAppLive (a : Nat) (active : Bool) : AppLive :=
  let b := Config.freeLiveByte false a
  let reported := freePos (b 0)
  let substituted := freeOf (b 1) none [some .opened, some .closed]
  { number := a
    reported := reported
    substituted := substituted
    effective := effectivePosition substituted active reported
    present := flagsOfByte (b 2)
    latched := flagsOfByte (b 3)
    latchNumbers := ⟨b 4, b 5, b 6, b 7⟩
    marker := (b 8).getLsbD 0
    ticket := if u16 (b 9) (b 10) = 0 then none else some (u16 (b 9) (b 10))
    lastOutcome := freeLastOutcome (b 11)
    lastOperatingTime := freeOpt16 (b 12) (b 13) (b 14)
    overflow := (b 15).getLsbD 0 }

/-- R4: the free live record of measured node `n`; its effective class is derived from the free values (R6). -/
def freeNodeLive (n : Nat) : NodeLive :=
  let b := Config.freeLiveByte true n
  let cls := freeOf (b 0) .live [.dead, .unknown]
  let substituted := freeCand (b 1)
  { number := n
    cls := cls
    lastCandidate := freeCand (b 2)
    counter := (b 3).toNat % 8
    lastSample := (freeOpt16 (b 4) (b 5) (b 6)).map (· % (Config.maxSample + 1))
    substituted := substituted
    effective := effectiveClass substituted cls
    marker := (b 7).getLsbD 0 }

/-- R173: whether a held entry stands, and the values in its copy. -/
def putHeld : Option HeldEntry → List Byte
  | some { target := _, copy := .apparatus rep sub _ } => put8 1 ++ put8 rep.code ++ putOpt8 (sub.map Target.code)
  | some { target := _, copy := .node cls sub _ } => put8 1 ++ put8 cls.code ++ putOpt8 (sub.map Cand.byte)
  | none => put8 0 ++ put8 0 ++ putOpt8 none

/-- R173: the substitution standing, with its value and placing port. -/
def putSubst : Option Subst → List Byte
  | some x => put8 1 ++ put8 x.value.code ++ put8 x.port
  | none => put8 0 ++ put8 0 ++ put8 0

/-- R173: a node's published entry. -/
def putNodeEntry (e : NodeEntry) : List Byte := put8 e.sure ++ put8 e.possible ++ put8 e.colour.code

/-! ### Movements, programmes, restrictions (R174, R146) -/

/-- The place, from 1, of a ticket in a queue; 0 when it does not stand there. -/
def placeIn (t : Nat) : List Nat → Nat
  | [] => 0
  | x :: xs => if x = t then 1 else if placeIn t xs = 0 then 0 else placeIn t xs + 1

/-- R174: every field of R93, in the table's order, and the place in the queue (00h when not there). -/
def putEntry (e : Entry) (place : Nat) : List Byte :=
  put16 e.ticket ++ put8 e.owner ++ put16 e.apparatus ++ put8 e.target.code ++
    (match e.programme with
     | some (t, k) => put16 t ++ put8 k
     | none => put16 0 ++ put8 0) ++
    putBool e.coupled ++ put8 e.state.code ++ put8 (match e.cause with | some c => c.code | none => 0) ++
    put8 e.voidCount ++ putOpt16 e.deadline ++
    (match e.releaseTime with
     | some t => put8 1 ++ put16 (Config.freeReleaseTime t).toNat
     | none => put8 0 ++ put16 0) ++
    putNodes e.footprint ++
    (match e.reach with
     | some r => put8 1 ++ putNodes r
     | none => put8 0 ++ putNodes []) ++
    putOpt16 e.operatingTime ++ putBool e.cancelPending ++
    put8 (match e.flavour with | some f => f.code | none => 0) ++ put8 place

/-- R174, R95: an item of the ended-ticket list. -/
def putEnded (e : Ended) : List Byte :=
  put16 e.ticket ++ put8 e.owner ++ put16 e.apparatus ++ put8 e.outcome.code ++ put8 e.outcome.reasonCode ++
    putOpt16 e.operatingTime

/-- A programme step, 4 bytes as in the request. -/
def putStep (x : Step) : List Byte :=
  put16 x.apparatus ++ put8 x.target.code ++ put8 (x.skipIfThere.toNat + 2 * x.coupled.toNat)

/-- R174, R187: every field of R121, in the table's order. An absent carry is two empty maps, since no footprint is empty. -/
def putProgramme (p : Programme) : List Byte :=
  put16 p.ticket ++ put8 p.owner ++ put8 p.steps.length ++ p.steps.flatMap putStep ++ put8 p.current ++
    put8 p.state.code ++ put16 (p.movement.getD 0) ++ putOpt16 p.waiting ++
    (match p.carry with
     | some c => putNodes c.footprint ++ putNodes c.reach
     | none => putNodes [] ++ putNodes []) ++
    putStopReason p.stopReason

/-- R146, R136: a restriction. The two bytes of its target, a node number's among them, are the model's choice (log 7). -/
def putRestriction (r : Restriction) : List Byte :=
  put8 r.id ++ put8 r.kind.code ++ put16 r.target ++ putOpt8 r.port ++ put16 r.label ++ put8 (r.count.getD 0)

/-! ### The engine (R175) -/

/-- R175: the fields of QUERY ENGINE, in the table's order. -/
def putEngine (s : State) : List Byte :=
  put8 s.mode.code ++ putBool s.freezeCarried ++ putBool s.verified ++ put32 s.publicationCount.toNat ++
    put8 s.entries.length ++ put8 s.programmes.length ++ put8 s.held.length ++
    put8 s.restartRecord.cause.code ++ putOpt8 (s.restartRecord.modeAtReset.map Mode.code) ++ put8 s.restartRecord.count ++
    (List.range Config.nPorts).flatMap (fun p =>
      put8 (s.port p).role.code ++ put8 (s.port p).state.code ++ put8 (s.port p).priority)

end Sys2Proof.Machine
end

