-- ==== Sys2Proof/Machine/RestrictionTable.lean ====
section
/-! DEFINITION. The restriction table: what a restriction forbids (R57, R136), and its placing, lifting and storage
writes (R136, R137). -/

namespace Sys2Proof.Machine

/-- R57: a restriction forbids the movement of apparatus `a`, of a kind, to `t`, with a footprint. -/
def Restriction.forbids (r : Restriction) (kind : AppKind) (a : Nat) (t : Target) (footprint : List Nat) : Bool :=
  match r.kind with
  | .locked => r.target == a
  | .inspect => r.target == a
  | .holdOpen => r.target == a && t == .closed
  | .holdClosed => r.target == a && t == .opened
  | .workZone => footprint.contains r.target && !(kind == .earthSwitch && t == .closed)

/-- The overflow mark of an apparatus is set (R144). -/
def State.overflowMark (s : State) (a : Nat) : Bool :=
  match s.app a with
  | some r => r.overflow
  | none => false

/-- R57: check 3 forbids the movement, as the table and the mark stand. -/
def State.restricted (s : State) (a : Nat) (t : Target) (footprint : List Nat) : Bool :=
  s.overflowMark a ||
  match s.appDesc a with
  | some d => s.restrictions.any (fun r => r.forbids d.kind a t footprint)
  | none => false

/-- R58: check 4 finds a flag. -/
def State.blocked (s : State) (a : Nat) : Bool :=
  match s.app a with
  | some r => r.blocked
  | none => false

/-- R114, R139: the RELEASED entries that a restriction forbids. Their order, ascending by ticket, is the model's choice
(log 32). -/
def State.releasedForbidden (s : State) (r : Restriction) : List Nat :=
  (s.entries.filter (fun e => e.state == .released &&
    match s.appDesc e.apparatus with
    | some d => r.forbids d.kind e.apparatus e.target e.footprint
    | none => false)).map Entry.ticket

/-- R114, R144: the RELEASED entry of an apparatus, which an INSPECT or the overflow mark forbids. -/
def State.releasedOf (s : State) (a : Nat) : List Nat :=
  (s.entries.filter (fun e => e.state == .released && e.apparatus == a)).map Entry.ticket

/-- R136: the lowest id that no standing restriction holds. -/
def State.freeId (s : State) : Option Nat :=
  (List.range' 1 Config.maxRestrictions).find? (fun i => s.restrictions.all (fun r => r.id != i))

/-- R137: the table changes in the event, and its write joins the writes before it. -/
def State.changeTable (s : State) (c : TableChange) (q : Option Requester) : State :=
  { s with
    restrictions := (match c with
      | .put r => putBy Restriction.id r s.restrictions
      | .remove i => s.restrictions.filter (fun r => r.id ≠ i))
    writes := s.writes ++ [{ change := c, requester := q }] }

/-- R137: a completed write changes the storage's copy. -/
def TableChange.apply (c : TableChange) (l : List Restriction) : List Restriction :=
  match c with
  | .put r => putBy Restriction.id r l
  | .remove i => l.filter (fun r => r.id ≠ i)

/-- R142: the standing INSPECT of an apparatus. -/
def State.inspectOn (s : State) (a : Nat) : Option Restriction :=
  s.restrictions.find? (fun r => r.kind == .inspect && r.target == a)

/-- R143: the count raised by 1, saturating at 255. -/
def Restriction.raised (r : Restriction) : Restriction :=
  { r with count := some (min 255 (r.count.getD 0 + 1)) }

/-- R142: the automatic placing of an INSPECT, the first of four steps that applies. The Bool says that an INSPECT
was made or the mark set, so that it acts on RELEASED entries (R139, R144). That a placing which meets a count of 255 makes
a write too is the model's choice (log 15). -/
def State.placeInspect (s : State) (a : Nat) : State × Bool :=
  match s.inspectOn a with
  | some r => (s.changeTable (.put r.raised) none, false)
  | none =>
    if s.overflowMark a then (s, false)
    else if s.restrictions.length < Config.maxRestrictions then
      match s.freeId with
      | some i =>
        (s.changeTable (.put { id := i, kind := .inspect, target := a, port := none, label := 0, count := some 1 }) none, true)
      | none => (s, false)
    else (s.modApp a (fun r => { r with overflow := true }), true)

end Sys2Proof.Machine
end

