-- ==== Sys2Proof/Machine/Cascade.lean ====
section
/-! DEFINITION. What one event brings about in the movement, programme and restriction tables: the retirement of an
entry (R117) and all that follows from it, as tasks worked off last made first (log 3). -/

namespace Sys2Proof.Machine

/-- One part of an event. -/
inductive Task where
  /-- R117: entry `t` retires with an outcome. -/
  | retire (t : Nat) (o : MoveOutcome)
  /-- R22, R23: a change of an apparatus's effective position is judged at once. -/
  | judge (a : Nat) (before after : Pos)
  /-- R142: an automatic INSPECT. -/
  | inspect (a : Nat)
  /-- R113, R114: a RELEASED entry is revoked and ends BLOCKED_AFTER_RELEASE. -/
  | blockEnd (t : Nat)
  /-- R127: a programme takes the retirement of its current movement. -/
  | inform (programme t : Nat) (o : MoveOutcome) (held : Reservation)
  /-- R127, R134: a programme stops. -/
  | stop (programme : Nat) (reason : StopReason)
  /-- R124: a programme's current step, not COUPLED, starts. -/
  | start (programme : Nat)
  /-- R129: a programme's current step, COUPLED, starts. -/
  | startCoupled (programme : Nat)
  /-- R75, R151: an entry would become QUEUED. -/
  | enqueue (t : Nat)
  /-- R86: a re-offer event. -/
  | reoffer
  /-- R86: a re-offer event reaches one entry. -/
  | requeue (t : Nat)
  /-- R125: a WAITING programme retries its step. -/
  | retry (programme : Nat)
  /-- R155: the condition of FROZEN is tested. -/
  | testFrozen
  deriving DecidableEq, Repr

/-! ### Judging a change (R21 to R23) -/

/-- R22: the unbidden changes. -/
def isUnbidden (kind : AppKind) (before after : Pos) : Bool :=
  match kind, before, after with
  | .breaker, .opened, .closed => true
  | .breaker, .travelling, .closed => true
  | .breaker, _, _ => false
  | _, .opened, .closed => true
  | _, .opened, .travelling => true
  | _, .closed, .opened => true
  | _, .closed, .travelling => true
  | _, _, _ => false

/-- R23: the trips. -/
def isTrip (kind : AppKind) (before after : Pos) : Bool :=
  match kind, before, after with
  | .breaker, .closed, .opened => true
  | .breaker, .travelling, .opened => true
  | _, _, _ => false

/-- R22, R23: an unbidden change sends UNBIDDEN and places an automatic INSPECT; a trip sets the last outcome. -/
def State.judge (s : State) (a : Nat) (before after : Pos) : State × List Task :=
  match s.appDesc a with
  | none => (s, [])
  | some d =>
    if isUnbidden d.kind before after then (s.broadcast (.unbidden a before after), [.inspect a])
    else if isTrip d.kind before after then (s.modApp a (fun r => { r with lastOutcome := some .tripped }), [])
    else (s, [])

/-! ### Retirement (R117) -/

/-- R95: an item joins the ended-ticket list; of 17 the oldest is removed. -/
def appendEnded (l : List Ended) (x : Ended) : List Ended :=
  (l ++ [x]).drop ((l ++ [x]).length - Config.maxEnded)

/-- R117: the entry leaves the table, its queue and the coupled candidates; the apparatus record and the ended-ticket
list take the outcome; an evaluation of it is stopped (R80). -/
def State.takeOut (s : State) (e : Entry) (o : MoveOutcome) : State :=
  let s1 := s.queueLeave e.owner e.ticket
  let s2 := s1.modApp e.apparatus (fun r => { r with ticket := none, lastOutcome := some (.movement o) })
  { s2 with
    entries := s2.entries.filter (fun x => x.ticket ≠ e.ticket)
    coupled := s2.coupled.filter (· ≠ e.ticket)
    evaluation := (match s2.evaluation with
      | some v => if v.ticket = e.ticket then none else some v
      | none => none)
    ended := appendEnded s2.ended
      { ticket := e.ticket, owner := e.owner, apparatus := e.apparatus, outcome := o, operatingTime := e.operatingTime } }

/-- R130: the carry reservation of an entry's programme is dropped, where the entry is its coupled movement and has
not been released. The Bool says that a carry was dropped. -/
def State.dropCarry (s : State) (e : Entry) : State × Bool :=
  match e.programme with
  | none => (s, false)
  | some (pt, _) =>
    match s.programme pt with
    | none => (s, false)
    | some p =>
      if e.coupled ∧ p.movement = some e.ticket ∧ p.carry.isSome then
        (s.modProgramme pt (fun q => { q with carry := none }), true)
      else (s, false)

/-- R24: the final position of an entry retiring from SETTLING is judged against its target. -/
def State.settlingJudgement (s : State) (e : Entry) : List Task :=
  if e.state = .settling then
    match s.app e.apparatus with
    | some r => if r.effective = e.target.pos then [] else [.judge e.apparatus e.target.pos r.effective]
    | none => []
  else []

/-- R117: an entry retires, with everything that follows. -/
def State.retire (s : State) (t : Nat) (o : MoveOutcome) : State × List Task :=
  match s.entry t with
  | none => (s, [])
  | some e =>
    let c := if e.state.held then (s, false) else s.dropCarry e
    let s1 := (c.1.takeOut e o).notify e.owner (.movementEnded t o e.operatingTime)
    (s1,
      s.settlingJudgement e ++
      (match e.programme with
       | some (pt, _) => [.inform pt t o { footprint := e.footprint, reach := e.reach.getD [] }]
       | none => []) ++
      (if e.state.held && s.heldBack e then [.testFrozen] else []) ++
      (if c.2 then [.reoffer] else []) ++
      [.reoffer])

/-- R113, R114: REVOKE goes to the reporting port and the RELEASED entry ends BLOCKED_AFTER_RELEASE. -/
def State.blockEnd (s : State) (t : Nat) : State × List Task :=
  match s.entry t with
  | some e => if e.state = .released then (s.sendRevoke e, [.retire t .blockedAfterRelease]) else (s, [])
  | none => (s, [])

/-- R142, R144: the automatic INSPECT acts on the RELEASED entry of its apparatus. -/
def State.inspect (s : State) (a : Nat) : State × List Task :=
  let r := s.placeInspect a
  (r.1, if r.2 then (r.1.releasedOf a).map .blockEnd else [])

/-! ### Becoming QUEUED (R75, R86, R151) -/

/-- R75, R151: an entry that would become QUEUED ends REFUSED(PORT_MUTED) on a muted port, becomes SUSPENDED in
FREEZING and FROZEN when it is held back, and becomes QUEUED otherwise. -/
def State.enqueue (s : State) (t : Nat) : State × List Task :=
  match s.entry t with
  | none => (s, [])
  | some e =>
    if s.muted e.owner then (s, [.retire t (.refused .portMuted)])
    else if s.mode.isFreeze && s.heldBack e then (s.modEntry t (fun x => { x with state := .suspended }), [])
    else (s.modEntry t (fun x => { x with state := .queued }), [])

/-- R86: the tickets of the DEFERRED entries. -/
def State.deferredTickets (s : State) : List Nat :=
  (s.entries.filter (fun e => e.state == .deferred)).map Entry.ticket

/-- R86, R125: a re-offer event. -/
def State.reoffer (s : State) : State × List Task :=
  ({ s with evaluation := s.evaluation.map (fun v => { v with reoffer := true }) },
    s.deferredTickets.map .requeue ++ s.waitingOrder.map .retry)

/-- R86: one DEFERRED entry returns to QUEUED. -/
def State.requeue (s : State) (t : Nat) : State × List Task :=
  match s.entry t with
  | some e => if e.state = .deferred then s.enqueue t else (s, [])
  | none => (s, [])

/-! ### Making an entry (R92, R97) -/

/-- R96, R124: a substitution stands on the apparatus, or waits in its held entry. -/
def State.substitutionOn (s : State) (a : Nat) : Bool :=
  (s.subst (.apparatus a)).isSome ||
  match s.heldFor (.apparatus a) with
  | some { target := _, copy := .apparatus _ (some _) _ } => true
  | _ => false

/-- R96, R124: the apparatus's live movement ticket is present. -/
def State.engaged (s : State) (a : Nat) : Bool :=
  match s.app a with
  | some r => r.ticket.isSome
  | none => false

/-- R73: a port's request queue holds 4 tickets. -/
def State.queueFull (s : State) (p : Nat) : Bool := decide ((s.port p).queue.length ≥ Config.maxQueue)

/-- R92: the movement table holds 16 live entries. -/
def State.tableFull (s : State) : Bool := decide (s.entries.length ≥ Config.maxEntries)

/-- R97: the entry made for a request or a step. -/
def newEntry (t owner a : Nat) (target : Target) (prog : Option (Nat × Nat)) (coupled : Bool) (footprint : List Nat) : Entry :=
  { ticket := t, owner := owner, apparatus := a, target := target, programme := prog, coupled := coupled,
    state := .queued, cause := none, voidCount := 0, deadline := none, releaseTime := none,
    footprint := footprint, reach := none, operatingTime := none, cancelPending := false, flavour := none }

/-- R97, R124, R129: an entry is made with the next free ticket, written into the apparatus record, and placed at the
tail of its owner's queue or, coupled, among the coupled candidates. -/
def State.makeEntry (s : State) (owner a : Nat) (target : Target) (prog : Option (Nat × Nat)) (coupled : Bool) : State :=
  let t := s.freeTicket
  let s1 := (s.ticketIssued t).modApp a (fun r => { r with ticket := some t })
  let s2 := if coupled then { s1 with coupled := s1.coupled ++ [t] } else s1.queueTail owner t
  { s2 with entries := insertBy Entry.ticket (newEntry t owner a target prog coupled (s.footprintOf a)) s2.entries }

/-! ### Programmes (R124 to R129) -/

/-- R120, R128, R130: a programme is removed, its PROGRAMME ENDED goes to its owner, and the dropping of a carry it
holds is a re-offer event. -/
def State.endProgramme (s : State) (p : Programme) (stopped : Option StopReason) : State × List Task :=
  ({ s with
      programmes := s.programmes.filter (fun q => q.ticket ≠ p.ticket)
      waitingOrder := s.waitingOrder.filter (· ≠ p.ticket) }.notify p.owner
        (.programmeEnded p.ticket p.current stopped),
    if p.carry.isSome then [.reoffer] else [])

/-- A programme's current step. -/
def Programme.step (p : Programme) : Option Step := p.steps[p.current - 1]?

/-- R126: the published position equals the step's target and the apparatus's marker is clear. -/
def State.alreadyThere (s : State) (st : Step) : Bool :=
  s.published.position st.apparatus == st.target.pos &&
  match s.app st.apparatus with
  | some r => !r.marker
  | none => false

/-- R124, R129: the step's movement entry is made; on a muted port it ends, a SKIP_IF_THERE step that already stands
at its target is SKIPPED, and any other entry becomes a candidate. -/
def State.makeStep (s : State) (p : Programme) (st : Step) : State × List Task :=
  let t := s.freeTicket
  let s1 := s.makeEntry p.owner st.apparatus st.target (some (p.ticket, p.current)) st.coupled
  let s2 := s1.modProgramme p.ticket (fun q =>
    { q with movement := some t, waiting := none, state := if q.state = .stopping then .stopping else .running })
  let s3 := { s2 with waitingOrder := s2.waitingOrder.filter (· ≠ p.ticket) }
  if s.muted p.owner then (s3, [.retire t (.refused .portMuted)])
  else if st.skipIfThere && s.alreadyThere st then (s3, [.retire t .skipped])
  else (s3, [.enqueue t])

/-- R125: a programme becomes WAITING, or stops NO_ROOM when the deferral limit is 0. -/
def State.enterWaiting (s : State) (p : Programme) : State × List Task :=
  if p.state = .waiting then (s, [])
  else if p.waiting = none ∧ s.force.settings.deferralLimit = 0 then s.endProgramme p (some .noRoom)
  else
    ({ s.modProgramme p.ticket (fun q =>
        { q with state := .waiting, waiting := some (q.waiting.getD s.force.settings.deferralLimit) }) with
       waitingOrder := s.waitingOrder ++ [p.ticket] }, [])

/-- R124: a step that is not COUPLED starts. -/
def State.startStep (s : State) (pt : Nat) : State × List Task :=
  match s.programme pt with
  | none => (s, [])
  | some p =>
    match p.step with
    | none => (s, [])
    | some st =>
      if s.substitutionOn st.apparatus then s.endProgramme p (some .substituted)
      else if s.engaged st.apparatus || s.queueFull p.owner || s.tableFull then s.enterWaiting p
      else s.makeStep p st

/-- R129: a COUPLED step starts; it does not wait and needs no queue place. -/
def State.startCoupled (s : State) (pt : Nat) : State × List Task :=
  match s.programme pt with
  | none => (s, [])
  | some p =>
    match p.step with
    | none => (s, [])
    | some st =>
      if s.substitutionOn st.apparatus then s.endProgramme p (some .substituted)
      else if s.engaged st.apparatus then s.endProgramme p (some .engaged)
      else if s.tableFull then s.endProgramme p (some .noRoom)
      else s.makeStep p st

/-- R127, R129: a programme takes the retirement of its current movement. A programme whose owner port is LOST does
not take it: it stops PORT_LOST (R134). -/
def State.inform (s : State) (pt t : Nat) (o : MoveOutcome) (held : Reservation) : State × List Task :=
  match s.programme pt with
  | none => (s, [])
  | some p =>
    if p.movement ≠ some t then (s, [])
    else if (s.port p.owner).state = .lost then (s.modProgramme pt (fun q => { q with movement := none }), [])
    else if p.state = .stopping then s.endProgramme p (some (.outcome .cancelled))
    else if o = .completed ∨ o = .skipped then
      match p.steps[p.current]? with
      | none => s.endProgramme p none
      | some next =>
        (s.modProgramme pt (fun q =>
          { q with
            current := q.current + 1, movement := none
            carry := if next.coupled ∧ o = .completed then some held else q.carry }),
          if next.coupled then [.startCoupled pt] else [.start pt])
    else s.endProgramme p (some (.outcome o))

/-- R125: a WAITING programme retries; one whose owner port is LOST stops instead (R134). -/
def State.retry (s : State) (pt : Nat) : State × List Task :=
  match s.programme pt with
  | some p => if p.state = .waiting ∧ (s.port p.owner).state ≠ .lost then (s, [.start pt]) else (s, [])
  | none => (s, [])

/-- A programme stops with a reason (R125, R131, R133, R134). -/
def State.stopProgramme (s : State) (pt : Nat) (r : StopReason) : State × List Task :=
  match s.programme pt with
  | some p => s.endProgramme p (some r)
  | none => (s, [])

/-- R155: no held-back movement stands in RELEASED, REVOKING, TRAVELLING or SETTLING. -/
def State.noneHeldBack (s : State) : Bool := s.entries.all (fun e => !(e.state.held && s.heldBack e))

/-- R155: in FREEZING, the mode becomes FROZEN when the condition holds. -/
def State.testFrozen (s : State) : State :=
  if s.mode = .freezing ∧ s.noneHeldBack then s.changeMode .frozen else s

/-! ### Working off the tasks -/

/-- One task, and the tasks it brings about. -/
def State.runTask (s : State) : Task → State × List Task
  | .retire t o => s.retire t o
  | .judge a x y => s.judge a x y
  | .inspect a => s.inspect a
  | .blockEnd t => s.blockEnd t
  | .inform pt t o held => s.inform pt t o held
  | .stop pt r => s.stopProgramme pt r
  | .start pt => s.startStep pt
  | .startCoupled pt => s.startCoupled pt
  | .enqueue t => s.enqueue t
  | .reoffer => s.reoffer
  | .requeue t => s.requeue t
  | .retry pt => s.retry pt
  | .testFrozen => (s.testFrozen, [])

/-- At most `fuel` tasks, each taken whole with the tasks it brings about before the next (R107, R125). -/
def runTasks : Nat → List Task → State → State
  | 0, _, s => s
  | _ + 1, [], s => s
  | n + 1, t :: ts, s =>
    let r := s.runTask t
    runTasks n (r.2 ++ ts) r.1

/-- More tasks than an event can bring about (log 3): each entry retires once, each step makes one entry, and each of
the re-offers that follow reaches every entry and programme once. -/
def taskBound (s : State) (ts : List Task) : Nat :=
  let c := s.entries.length + (s.programmes.map (fun p => p.steps.length + 1)).sum + ts.length + 1
  32 * c * c

/-- Tasks and everything they bring about, in one event. -/
def State.run (s : State) (ts : List Task) : State := runTasks (taskBound s ts) ts s

end Sys2Proof.Machine
end

