-- ==== Sys2Proof/Machine/Predicates.lean ====
section
/-! DEFINITION. The interlock predicates (03): components, reaches, the five checks, and the bypass and stub searches,
each over one publication. -/

namespace Sys2Proof.Machine

/-! ### Components and adjacency (R33, R53) -/

/-- The described nodes with a property, in ascending order. Node 0 is no described node (R70). -/
def State.nodesWith (s : State) (f : Nat → Bool) : List Nat := (s.force.nodes.map NodeDesc.number).filter f

/-- R53: `m` lies in the possible component of `n`. -/
def Colouring.samePossible (c : Colouring) (n m : Nat) : Bool := (c.node n).possible == (c.node m).possible

/-- R53: `m` lies in the sure component of `n`. -/
def Colouring.sameSure (c : Colouring) (n m : Nat) : Bool := (c.node n).sure == (c.node m).sure

/-- R53: the possible component of `n`, without node 0. -/
def State.possibleComponent (s : State) (c : Colouring) (n : Nat) : List Nat := s.nodesWith (c.samePossible n)

/-- R53: the sure component of `n`, without node 0. -/
def State.sureComponent (s : State) (c : Colouring) (n : Nat) : List Nat := s.nodesWith (c.sameSure n)

/-- R70: the union of the possible components of a footprint's nodes, without node 0. -/
def State.possibleRegion (s : State) (c : Colouring) (footprint : List Nat) : List Nat :=
  s.nodesWith (fun m => footprint.any (fun n => c.samePossible n m))

/-- R33, R65, R66: the other ends of the published edges at `n` whose position passes `closed`, leaving out apparatus
`a`. The initial colouring has no edges (R49). -/
def State.neighbours (s : State) (c : Colouring) (closed : Pos → Bool) (a n : Nat) : List Nat :=
  if c.initial then []
  else (s.force.apparatus.filter (fun d => d.number != a && d.atNode n && closed (c.position d.number))).map
    (fun d => d.otherEnd n)

/-- R65: the nodes a step adds to the found set. -/
def newNodes (found : List Nat) : List Nat → List Nat
  | [] => []
  | x :: xs => if found.contains x then newNodes found xs else x :: newNodes (x :: found) xs

/-- R66: the node is a TERMINAL. -/
def State.isTerminal (s : State) (n : Nat) : Bool :=
  match s.nodeDesc n with
  | some d => d.kind == .terminal
  | none => false

/-! ### The topology check (R60 to R69) -/

/-- What the topology check finds: a permission with its reach, a refusal, or that a search is needed. -/
inductive Finding where
  | permit (reach : List Nat)
  | refuse (reason : Reason)
  | search
  deriving DecidableEq, Repr

/-- R61: a BREAKER closing. -/
def State.breakerClose (s : State) (c : Colouring) (d : AppDesc) : Finding :=
  let x := (c.node d.a).colour
  let y := (c.node d.b).colour
  if x = .contested ∨ y = .contested ∨ (x.pe ∧ y.pl) ∨ (y.pe ∧ x.pl) then .refuse .liveAgainstEarth
  else .permit (s.nodesWith (fun m =>
    (!x.pl && c.samePossible d.a m) || (!y.pl && c.samePossible d.b m)))

/-- R62, R63: a DISCONNECTOR closing. -/
def State.disconnectorClose (s : State) (c : Colouring) (d : AppDesc) : Finding :=
  let x := (c.node d.a).colour
  let y := (c.node d.b).colour
  if c.sameSure d.a d.b then .permit (s.sureComponent c d.a)
  else if x = .floating ∨ y = .floating then
    .permit (s.nodesWith (fun m =>
      (x == .floating && c.samePossible d.a m) || (y == .floating && c.samePossible d.b m)))
  else if (x = .live ∧ y = .earthed) ∨ (x = .earthed ∧ y = .live) then .refuse .liveAgainstEarth
  else if x = .contested ∨ x = .doubtfulEarth ∨ y = .contested ∨ y = .doubtfulEarth then .refuse .uncertainEarth
  else .refuse .noEquipotential

/-- R64: a DISCONNECTOR opening: permitted on the dead ground, or else a search is needed. -/
def State.disconnectorOpen (s : State) (c : Colouring) (d : AppDesc) : Finding :=
  if (c.node d.a).colour.pl then .search else .permit (s.possibleComponent c d.a)

/-- R68: an EARTH_SWITCH closing. -/
def State.earthClose (s : State) (c : Colouring) (d : AppDesc) : Finding :=
  if (c.node d.a).colour.pl then .refuse .nodeNotDead else .permit (s.possibleComponent c d.a)

/-- Check 5 of R55: the rule for the kind and the target. -/
def State.topology (s : State) (c : Colouring) (d : AppDesc) (t : Target) : Finding :=
  match d.kind, t with
  | .breaker, .opened => .permit []
  | .breaker, .closed => s.breakerClose c d
  | .disconnector, .closed => s.disconnectorClose c d
  | .disconnector, .opened => s.disconnectorOpen c d
  | .earthSwitch, .closed => s.earthClose c d
  | .earthSwitch, .opened => .permit d.footprint

/-! ### The ordered checks (R55 to R58) -/

/-- What one step of an evaluation leaves: its next stage, or a refusal, which closes it (R81). -/
inductive StepResult where
  | stage (st : Stage)
  | refuse (reason : Reason)
  deriving DecidableEq, Repr

/-- R55: check `n` of the movement of apparatus `d` to `t` with a footprint, over a publication. -/
def State.makeCheck (s : State) (c : Colouring) (d : AppDesc) (t : Target) (footprint : List Nat) (n : Nat) : StepResult :=
  let p := c.position d.number
  match n with
  | 1 => if p = t.pos then .refuse .alreadyThere else .stage (.check 2)
  | 2 => if p = .opened ∨ p = .closed then .stage (.check 3) else .refuse .positionUncertain
  | 3 => if s.restricted d.number t footprint then .refuse .restricted else .stage (.check 4)
  | 4 => if s.blocked d.number then .refuse .blocked else .stage (.check 5)
  | _ =>
    match s.topology c d t with
    | .permit r => .stage (.permitted r)
    | .refuse e => .refuse e
    | .search => .stage (.bypass [d.a] [d.a])

/-! ### The searches (R65, R66) -/

/-- R66: a stub search starts on side a, or on side b. -/
def stubStart (d : AppDesc) (sideB : Bool) : Stage :=
  if sideB then .stub true [d.b] [d.b] else .stub false [d.a] [d.a]

/-- R65: one step of the bypass search takes one node from the frontier. It succeeds when b is found, with the sure
component of a as its reach, and gives way to the stub search when the frontier is empty (log 22). -/
def State.bypassStep (s : State) (c : Colouring) (d : AppDesc) (found frontier : List Nat) : Stage :=
  match frontier with
  | [] => stubStart d false
  | n :: rest =>
    let fresh := newNodes found (s.neighbours c Pos.surelyClosed d.number n)
    if fresh.contains d.b then .permitted (s.sureComponent c d.a)
    else if (rest ++ fresh).isEmpty then stubStart d false
    else .bypass (found ++ fresh) (rest ++ fresh)

/-- R66, R67: a side has a TERMINAL in its found set: side b is searched next, and after side b the movement is
refused LOAD_PATH. -/
def stubFails (d : AppDesc) (sideB : Bool) : StepResult :=
  if sideB then .refuse .loadPath else .stage (stubStart d true)

/-- R66: one step of the stub search takes one node from the frontier. It fails for the side when a TERMINAL is in
the found set, and succeeds when the frontier is empty, with the found set as its reach (log 22). -/
def State.stubStep (s : State) (c : Colouring) (d : AppDesc) (sideB : Bool) (found frontier : List Nat) : StepResult :=
  if found.any s.isTerminal then stubFails d sideB
  else match frontier with
    | [] => .stage (.permitted (s.nodesWith found.contains))
    | n :: rest =>
      let fresh := newNodes found (s.neighbours c Pos.possiblyClosed d.number n)
      if fresh.any s.isTerminal then stubFails d sideB
      else if (rest ++ fresh).isEmpty then .stage (.permitted (s.nodesWith (found ++ fresh).contains))
      else .stage (.stub sideB (found ++ fresh) (rest ++ fresh))

/-! ### The reservation test (R83, R88) -/

/-- Two sets of nodes meet when they have a node in common. -/
def meet (x y : List Nat) : Bool := x.any y.contains

/-- R83: a movement conflicts with a held reservation. -/
def Reservation.conflicts (x y : Reservation) : Bool :=
  meet x.footprint y.footprint || meet x.footprint y.reach || meet x.reach y.footprint

/-- R88: the reservations of the entries in held states. -/
def State.entryReservations (s : State) : List Reservation :=
  (s.entries.filter (fun e => e.state.held)).map (fun e => { footprint := e.footprint, reach := e.reach.getD [] })

/-- R88, R90: the carry reservations, less that of programme `own`. -/
def State.carryReservations (s : State) (own : Option Nat) : List Reservation :=
  (s.programmes.filter (fun p => some p.ticket != own)).filterMap Programme.carry

/-- R83, R90: the reservation test finds a conflict for entry `e` with a reach. -/
def State.conflict (s : State) (e : Entry) (reach : List Nat) : Bool :=
  (s.entryReservations ++ s.carryReservations (e.programme.map Prod.fst)).any
    (fun y => ({ footprint := e.footprint, reach := reach } : Reservation).conflicts y)

end Sys2Proof.Machine
end

