-- ==== Sys2Proof/Machine/Arbiter.lean ====
section
/-! DEFINITION. The end of an evaluation (R79, R84, R85, R87, R99, R110, R152), the grant (R76 to R78) and the steps of
the evaluation in flight. -/

namespace Sys2Proof.Machine

/-- R87: the reason of an entry's last deferral cause; UNSETTLED where it has none (log 28). -/
def Entry.causeReason (e : Entry) : Reason :=
  match e.cause with
  | some c => c.reason
  | none => .unsettled

/-- R126: an entry of a SKIP_IF_THERE step. -/
def State.isSkipStep (s : State) (e : Entry) : Bool :=
  match e.programme with
  | some (pt, k) =>
    match s.programme pt with
    | some p => match p.steps[k - 1]? with
      | some st => st.skipIfThere
      | none => false
    | none => false
  | none => false

/-! ### Release (R84, R90, R99) -/

/-- R99: the entry's fields at its release. -/
def Entry.released (e : Entry) (reach : List Nat) (now startWindow : Time) : Entry :=
  { e with state := .released, reach := some reach, releaseTime := some now, deadline := some startWindow }

/-- The WAITING programmes of a port, oldest first, which retry when a ticket leaves that port's queue (R125). -/
def State.waitingOf (s : State) (p : Nat) : List Nat :=
  s.waitingOrder.filter (fun t => match s.programme t with
    | some q => q.owner == p
    | none => false)

/-- R99, R130, R125: a PERMIT releases the entry: its reservation is taken, its ticket leaves its queue, RELEASE goes to
the reporting port, its programme's carry is dropped (a re-offer event), and WAITING programmes of its owner retry. -/
def State.release (s : State) (e : Entry) (reach : List Nat) : State :=
  match s.appDesc e.apparatus with
  | none => s
  | some d =>
    let c := s.dropCarry e
    let s1 := (c.1.modEntry e.ticket (fun x => x.released reach s.now d.startWindow)).queueLeave e.owner e.ticket
    let s2 := s1.notify d.port (.release e.ticket e.apparatus e.target d.startWindow)
    s2.run ((if c.2 then [.reoffer] else []) ++ (if e.coupled then [] else (s2.waitingOf e.owner).map .retry))

/-! ### Deferral (R85, R152) -/

/-- R85, R86, R152: an entry is deferred with a cause: its clock is loaded if none runs, a deferral limit of 0 ends it,
under a freeze a held-back entry becomes SUSPENDED, and with the re-offer mark set it returns to QUEUED at once. -/
def State.defer (s : State) (e : Entry) (c : DeferralCause) (reoffer : Bool) : State :=
  if e.deadline = none ∧ s.force.settings.deferralLimit = 0 then s.run [.retire e.ticket (.refused c.reason)]
  else
    let held := s.mode.isFreeze && s.heldBack e
    let s1 := s.modEntry e.ticket (fun x =>
      { x with
        cause := some c
        deadline := some (x.deadline.getD s.force.settings.deferralLimit)
        state := if held then .suspended else .deferred })
    if reoffer && !held then s1.run [.enqueue e.ticket] else s1

/-! ### The end of an evaluation (R110, in the order of its second table) -/

/-- R87, R110, R75, R152: a deferral verdict. -/
def State.endDeferred (s : State) (e : Entry) (v : Evaluation) (c : DeferralCause) : State :=
  if s.muted e.owner then s.run [.retire e.ticket (.refused .portMuted)]
  else if v.expired then s.run [.retire e.ticket (.refused c.reason)]
  else s.defer e c v.reoffer

/-- R79, R87, R110, R75, R152: a void, which raises the void count. -/
def State.endVoided (s : State) (e : Entry) (v : Evaluation) : State :=
  let n := min 3 (e.voidCount + 1)
  let s1 := s.modEntry e.ticket (fun x => { x with voidCount := n })
  if s.muted e.owner then s1.run [.retire e.ticket (.refused .portMuted)]
  else if v.expired then s1.run [.retire e.ticket (.refused (if n = 3 then .unsettled else e.causeReason))]
  else if n < 3 then
    (if e.coupled then s1 else s1.queueHead e.owner e.ticket).run [.enqueue e.ticket]
  else s1.defer { e with voidCount := n } .unsettled v.reoffer

/-- R99, R110, R152: a PERMIT. -/
def State.endPermitted (s : State) (e : Entry) (v : Evaluation) (reach : List Nat) : State :=
  if s.mode.isFreeze && s.heldBack e then
    if v.expired then s.run [.retire e.ticket (.refused e.causeReason)]
    else s.modEntry e.ticket (fun x => { x with state := .suspended })
  else s.release e reach

/-- R81, R126: a refusal. -/
def State.endRefused (s : State) (e : Entry) (r : Reason) : State :=
  if r = .alreadyThere ∧ s.isSkipStep e then s.run [.retire e.ticket .skipped]
  else s.run [.retire e.ticket (.refused r)]

/-- R84, R110: the evaluation in flight ends with a verdict or a void, and the evaluator is free. -/
def State.endEvaluation (s : State) (verdict : Verdict) : State :=
  match s.evaluation with
  | none => s
  | some v =>
    let s1 := { s with evaluation := none }
    match s.entry v.ticket with
    | none => s1
    | some e =>
      if e.cancelPending then s1.run [.retire e.ticket .cancelled]
      else match verdict with
        | .permit reach => s1.endPermitted e v reach
        | .defer c => s1.endDeferred e v c
        | .refuse r => s1.endRefused e r
        | .void => s1.endVoided e v

/-! ### The grant (R76 to R78) -/

/-- R76: an entry is an eligible candidate. -/
def State.eligible (s : State) (e : Entry) : Bool :=
  e.state == .queued && !(s.mode.isFreeze && s.heldBack e) && !s.muted e.owner

/-- R77: the ticket is that of an eligible candidate. -/
def State.eligibleTicket (s : State) (t : Nat) : Bool :=
  match s.entry t with
  | some e => s.eligible e
  | none => false

/-- R77: the port of the highest current priority, and of these the lowest number, among those with an eligible queued
candidate. -/
def State.bestPort (s : State) : Option Nat :=
  (List.range Config.nPorts).foldl
    (fun best p =>
      if (s.port p).queue.any s.eligibleTicket then
        match best with
        | none => some p
        | some q => if (s.port p).priority > (s.port q).priority then some p else some q
      else best) none

/-- R77: the candidate the arbiter chooses. -/
def State.candidate (s : State) : Option Nat :=
  match s.coupled.find? s.eligibleTicket with
  | some t => some t
  | none =>
    match s.bestPort with
    | some p => (s.port p).queue.find? s.eligibleTicket
    | none => none

/-- R78: the evaluation that a grant starts. -/
def State.newEvaluation (s : State) (e : Entry) : Evaluation :=
  let reach := s.possibleRegion s.published e.footprint
  let region := e.footprint ++ reach
  { ticket := e.ticket
    publication := s.published
    candidateReach := reach
    markedApps := (s.apps.filter (fun r => r.marker && s.liesIn (.apparatus r.number) region)).map AppLive.number
    markedNodes := (s.nodes.filter (fun r => r.marker && s.liesIn (.node r.number) region)).map NodeLive.number
    reoffer := false
    expired := false
    stage := .check 1 }

/-- R77, R78: the arbiter grants the free evaluator to the chosen candidate. -/
def State.grant (s : State) : State :=
  match s.evaluation with
  | some _ => s
  | none =>
    match s.candidate with
    | none => s
    | some t =>
      match s.entry t with
      | none => s
      | some e =>
        { s.modEntry t (fun x => { x with state := .evaluating }) with evaluation := some (s.newEvaluation e) }

/-! ### The steps of an evaluation (R55, R65, R66, R70) -/

/-- R70: the evaluation at its next stage; after a permission the candidate reach is its reach. -/
def Evaluation.atStage (v : Evaluation) (st : Stage) : Evaluation :=
  { v with
    stage := st
    candidateReach := (match st with
      | .permitted r => r
      | _ => v.candidateReach) }

/-- A step's result: the next stage, or a refusal delivered at once (R81). -/
def State.takeResult (s : State) (v : Evaluation) (r : StepResult) : State :=
  match r with
  | .stage st => { s with evaluation := some (v.atStage st) }
  | .refuse e => s.endEvaluation (.refuse e)

/-- The evaluation in flight with its entry and apparatus. -/
def State.inFlight (s : State) : Option (Evaluation × Entry × AppDesc) :=
  match s.evaluation with
  | none => none
  | some v =>
    match s.entry v.ticket with
    | none => none
    | some e =>
      match s.appDesc e.apparatus with
      | none => none
      | some d => some (v, e, d)

/-- R55: the next ordered check. -/
def State.predicateCheck (s : State) : State :=
  match s.inFlight with
  | some (v, e, d) =>
    match v.stage with
    | .check n => s.takeResult v (s.makeCheck v.publication d e.target e.footprint n)
    | _ => s
  | none => s

/-- R65: one step of the bypass search. -/
def State.bypassSearch (s : State) : State :=
  match s.inFlight with
  | some (v, _, d) =>
    match v.stage with
    | .bypass found frontier => s.takeResult v (.stage (s.bypassStep v.publication d found frontier))
    | _ => s
  | none => s

/-- R66: one step of the stub search. -/
def State.stubSearch (s : State) : State :=
  match s.inFlight with
  | some (v, _, d) =>
    match v.stage with
    | .stub sideB found frontier => s.takeResult v (s.stubStep v.publication d sideB found frontier)
    | _ => s
  | none => s

/-- R82: no grant mark lies in footprint ∪ reach. -/
def State.settledAtGrant (s : State) (v : Evaluation) (region : List Nat) : Bool :=
  v.markedApps.all (fun a => !s.liesIn (.apparatus a) region) &&
  v.markedNodes.all (fun n => !s.liesIn (.node n) region)

/-- R82: the verdict of the closing event. -/
def State.closingVerdict (s : State) (v : Evaluation) (e : Entry) (reach : List Nat) : Verdict :=
  if !s.settledAtGrant v (e.footprint ++ reach) then .defer .unsettled
  else if s.conflict e reach then .defer .reserved
  else if s.restricted e.apparatus e.target e.footprint then .refuse .restricted
  else if s.blocked e.apparatus then .refuse .blocked
  else .permit reach

/-- R82: the closing event of a permitted evaluation. -/
def State.closing (s : State) : State :=
  match s.inFlight with
  | some (v, e, _) =>
    match v.stage with
    | .permitted reach => s.endEvaluation (s.closingVerdict v e reach)
    | _ => s
  | none => s

/-- R79, R41: a change of a record, or a held-entry marker set on it, voids the evaluation in flight when the record
lies in its region. -/
def State.evaluatorSees (s : State) (id : RecordId) : State :=
  match s.evaluation with
  | none => s
  | some v =>
    match s.entry v.ticket with
    | none => s
    | some e => if s.liesIn id (e.footprint ++ v.candidateReach) then s.endEvaluation .void else s

end Sys2Proof.Machine
end

