-- ==== Sys2Proof/Machine/Topology.lean ====
section
/-! DEFINITION. The topology unit (02): passes, take-ups, components, spoiling, publication and its hand-on. -/

namespace Sys2Proof.Machine

/-! ### Starting and spoiling (R34, R38, R39) -/

/-- R34: a pass with an empty read set, no taken-up nodes and no draft, beginning at node 0 (R35). -/
def Pass.start (held : Bool) : Pass :=
  { held := held, takenUp := [], reached := [0], readApps := [], readNodes := [], draft := [] }

/-- R34: a pass starts. -/
def State.startPass (s : State) (held : Bool) : State := { s with pass := some (Pass.start held) }

/-- R38, R44: the record is in the pass's read set. -/
def Pass.hasRead (w : Pass) : RecordId → Bool
  | .apparatus a => w.readApps.any (fun r => r.number == a)
  | .node n => w.readNodes.any (fun r => r.number == n)

/-- R44: an image change of the record was taken after the pass read it. -/
def Pass.makeStale (w : Pass) : RecordId → Pass
  | .apparatus a => { w with readApps := w.readApps.map (fun r => if r.number = a then { r with stale := true } else r) }
  | .node n => { w with readNodes := w.readNodes.map (fun r => if r.number = n then { r with stale := true } else r) }

/-- R38, R39: an ordinary pass is spoiled, and the next begins at once, held when the count after the spoil is 3. -/
def State.spoil (s : State) : State :=
  { s with spoils := s.spoils + 1 }.startPass (decide (s.spoils + 1 ≥ 3))

/-- R13, R34, R38, R42: an image change wakes the topology unit. With `wake` false a unit that is IDLE starts no pass
(R46, step 2). -/
def State.topologySees (s : State) (wake : Bool) (id : RecordId) : State :=
  match s.pass with
  | none => if wake && s.mode.runsPasses then s.startPass false else s
  | some w =>
    if w.hasRead id then
      if w.held then { s with pass := some (w.makeStale id) } else s.spoil
    else s

/-! ### Taking up a node (R35, R36) -/

/-- R36: the next node of the reached list that has not been taken up. -/
def Pass.next (w : Pass) : Option Nat := w.reached.find? (fun n => !w.takenUp.contains n)

/-- R43: the pass has taken up every described node. -/
def Pass.complete (w : Pass) : Bool := w.next.isNone

/-- R36: the effective position a pass reads. -/
def State.positionOf (s : State) (a : Nat) : Pos :=
  match s.app a with
  | some r => r.effective
  | none => .unknown

/-- R36: the apparatus with a terminal at the node, in ascending number. -/
def State.appsAt (s : State) (n : Nat) : List AppDesc := s.force.apparatus.filter (fun d => d.atNode n)

/-- R36: the first read of a take-up: a measured node enters the read set with its effective class. -/
def State.readNode (s : State) (n : Nat) (w : Pass) : Pass :=
  match s.nodeDesc n, s.node n with
  | some d, some r =>
    if d.measured then { w with readNodes := w.readNodes ++ [{ number := n, cls := r.effective, stale := false }] } else w
  | _, _ => w

/-- R36: the second read: an apparatus not yet read enters the read set, and a possibly closed one reaches its other
terminal. -/
def State.readApp (s : State) (n : Nat) (w : Pass) (d : AppDesc) : Pass :=
  if w.hasRead (.apparatus d.number) then w
  else
    let p := s.positionOf d.number
    { w with
      readApps := w.readApps ++ [{ number := d.number, position := p, stale := false }]
      reached := if p.possiblyClosed && !w.reached.contains (d.otherEnd n) then w.reached ++ [d.otherEnd n] else w.reached }

/-! ### Components (R30, R31, R37) -/

/-- The smallest number of a list, from `x` on. -/
def smallest (x : Nat) (l : List Nat) : Nat := l.foldl min x

/-- One growth of a set along edges. -/
def growOnce (edges : List (Nat × Nat)) (set : List Nat) : List Nat :=
  edges.foldl (fun acc e =>
    if acc.contains e.1 && !acc.contains e.2 then acc ++ [e.2]
    else if acc.contains e.2 && !acc.contains e.1 then acc ++ [e.1]
    else acc) set

/-- `k` growths. -/
def grow (edges : List (Nat × Nat)) : Nat → List Nat → List Nat
  | 0, set => set
  | k + 1, set => grow edges k (growOnce edges set)

/-- R37: the sure edges read, as pairs of terminals. -/
def State.sureEdges (s : State) (w : Pass) : List (Nat × Nat) :=
  w.readApps.filterMap (fun r =>
    if r.position.surelyClosed then (s.appDesc r.number).map (fun d => (d.a, d.b)) else none)

/-- R31: PL, a measured node of the component was read LIVE or UNKNOWN. -/
def Pass.componentLive (w : Pass) : Bool :=
  w.readNodes.any (fun r => w.reached.contains r.number && r.cls != .dead)

/-- R37: a node's draft entry. Growing as often as the component has nodes reaches the whole sure component. -/
def State.draftEntry (s : State) (w : Pass) (n : Nat) : NodeEntry :=
  let sure := smallest n (grow (s.sureEdges w) w.reached.length [n])
  { sure := sure
    possible := smallest n w.reached
    colour := if n = 0 then .earthed else colourOf w.componentLive (w.reached.contains 0) (sure == 0) }

/-- R35: the lowest-numbered described node not yet taken up begins the next component. -/
def State.nextComponent (s : State) (w : Pass) : List Nat :=
  match (s.force.nodes.map NodeDesc.number).find? (fun n => !w.takenUp.contains n) with
  | some n => [n]
  | none => []

/-- R37: an explored component is written into the draft, and the next one begins (log 23). -/
def State.explored (s : State) (w : Pass) : Pass :=
  if w.next.isSome then w
  else { w with
    draft := w.draft ++ w.reached.map (fun n => (n, s.draftEntry w n))
    reached := s.nextComponent w }

/-- R36: a pass takes up the next node. -/
def State.takeUpNode (s : State) (w : Pass) (n : Nat) : Pass :=
  let w1 := (s.appsAt n).foldl (s.readApp n) (s.readNode n w)
  s.explored { w1 with takenUp := w1.takenUp ++ [n] }

/-- R36: the running pass takes up the next node. -/
def State.takeUp (s : State) : State :=
  match s.pass with
  | none => s
  | some w =>
    match w.next with
    | none => s
    | some n => { s with pass := some (s.takeUpNode w n) }

/-! ### Publication (R43 to R45) -/

/-- R44: the publication clears the marker of a record that the pass has read, that was not changed since, and for which
no held entry stands. -/
def State.clears (s : State) (w : Pass) (id : RecordId) : Bool :=
  (match id with
   | .apparatus a => w.readApps.any (fun r => r.number == a && !r.stale)
   | .node n => w.readNodes.any (fun r => r.number == n && !r.stale)) &&
  (s.heldFor id).isNone

/-- R107: the SETTLING entries whose apparatus's marker the publication clears, in ascending order of ticket. -/
def State.completing (s : State) (w : Pass) : List Nat :=
  (s.entries.filter (fun e => e.state == .settling && s.clears w (.apparatus e.apparatus) &&
    match s.app e.apparatus with
    | some r => r.marker
    | none => false)).map Entry.ticket

/-- R43: the published colouring that a pass's result makes. -/
def Pass.result (w : Pass) : Colouring :=
  { initial := false, nodes := w.draft, positions := w.readApps.map (fun r => (r.number, r.position)) }

/-- R43, R44: the publication itself: colouring, counts and markers change together, and the unit is IDLE. -/
def State.publish (s : State) (w : Pass) : State :=
  { s with
    published := w.result
    publicationCount := s.publicationCount + 1
    spoils := 0
    pass := none
    apps := s.apps.map (fun r => if s.clears w (.apparatus r.number) then { r with marker := false } else r)
    nodes := s.nodes.map (fun r => if s.clears w (.node r.number) then { r with marker := false } else r) }

/-- R180: the yard is known at a publication. -/
def State.known (s : State) (w : Pass) : Bool :=
  s.force.apparatus.all (fun d => w.readApps.any (fun r => r.number == d.number && r.position != .unknown)) &&
  s.force.nodes.all (fun d => !d.measured || w.readNodes.any (fun r => r.number == d.number && r.cls != .unknown))

/-- R180, R160: gathering ends, in FROZEN when the freeze-carried mark is set and in SERVICE when it is clear. -/
def State.endGathering (s : State) : State :=
  { s with gatheringTimer := none, freezeCarried := false }.changeMode (if s.freezeCarried then .frozen else .service)

/-- R45: the publication is handed on: a re-offer event, the entries that complete (each retirement taken whole, in
ascending order of ticket), and the end of gathering. -/
def State.handOn (s : State) (known : Bool) (completing : List Nat) : State :=
  let s1 := s.run (.reoffer :: completing.map (fun t => .retire t .completed))
  if s1.mode = .gathering ∧ known then s1.endGathering else s1

/-- R43, R45: a publication with its hand-on. -/
def State.publishAndHandOn (s : State) (w : Pass) : State :=
  (s.publish w).handOn (s.known w) (s.completing w)

/-- R43, R46: any unpublished marker is set. -/
def State.anyMarker (s : State) : Bool := s.apps.any AppLive.marker || s.nodes.any NodeLive.marker

/-- R43, R46: an ordinary pass starts when a marker is set. -/
def State.startIfMarked (s : State) : State := if s.anyMarker then s.startPass false else s

/-- R43: the publication of a complete ordinary pass. -/
def State.ordinaryPublication (s : State) : State :=
  match s.pass with
  | some w => if !w.held && w.complete then (s.publishAndHandOn w).startIfMarked else s
  | none => s

end Sys2Proof.Machine
end

