-- ==== Sys2Proof/Machine/Supervisor.lean ====
section
/-! DEFINITION. The movement supervisor (05): what image changes, blocking events and port losses do to a live entry,
and the return of an entry revoked by a freeze (R154). -/

namespace Sys2Proof.Machine

/-- Where an image change comes from (R13, R25). -/
inductive Source where
  | report | substitution | portLoss
  deriving DecidableEq, Repr

/-- R101, R104, R111: an entry becomes TRAVELLING, its travel deadline loaded. -/
def State.travel (s : State) (e : Entry) : State :=
  match s.appDesc e.apparatus with
  | none => s
  | some d => s.modEntry e.ticket (fun x =>
      { x with state := .travelling, flavour := none, deadline := some d.travelLimit })

/-- R105: the operating time, saturating at 655.35 s. -/
def operatingTime (now : Time) (e : Entry) : Time := min Config.maxOperatingTime (now - e.releaseTime.getD now)

/-- R101, R102, R105, R111: an entry becomes SETTLING, and its operating time is captured. -/
def State.settle (s : State) (e : Entry) : State :=
  (s.modEntry e.ticket (fun x =>
    { x with state := .settling, flavour := none, deadline := none, operatingTime := some (operatingTime s.now e) })).modApp
      e.apparatus (fun r => { r with lastOperatingTime := some (operatingTime s.now e) })

/-- R116: an entry ends FAULTED with an automatic INSPECT. -/
def State.faulted (s : State) (e : Entry) : State := s.run [.retire e.ticket .faulted, .inspect e.apparatus]

/-- R101, R102, R111: an image change of the entry's apparatus, by the state the entry had when it was taken and the
effective position after it. A port loss is acted on by R115 instead (R98). -/
def State.supervise (s : State) (e : Entry) (src : Source) (after : Pos) : State :=
  match e.state with
  | .released | .revoking =>
    if after = .travelling then s.travel e
    else if after = e.target.pos then s.settle e
    else if after = .faulty then s.faulted e
    else if after = .unknown ∧ src ≠ .portLoss then s.faulted e
    else s
  | .travelling =>
    if after = e.target.pos then s.settle e
    else if after = e.target.opposite then s.run [.retire e.ticket .returned]
    else if after = .faulty then s.faulted e
    else if after = .unknown ∧ src ≠ .portLoss then s.faulted e
    else s
  | _ => s

/-- R21: whether a change of an apparatus is judged at once, by the state of its live entry. -/
def judgedAtOnce (e : Option Entry) : Bool :=
  match e with
  | none => true
  | some x => match x.state with
    | .queued | .deferred | .evaluating | .suspended => true
    | _ => false

/-- R13: an image change of an apparatus: its marker, the topology unit, the evaluator, the movement supervisor, and
the unbidden judgement, both by the entry as it stood when the change was taken (R21). -/
def State.appChanged (s : State) (wake : Bool) (src : Source) (a : Nat) (before after : Pos) : State :=
  let e := s.entryOf a
  let s1 := ((s.setMarker (.apparatus a)).topologySees wake (.apparatus a)).evaluatorSees (.apparatus a)
  let s2 := match e with
    | some x => s1.supervise x src after
    | none => s1
  if src = .report ∧ judgedAtOnce e then s2.run [.judge a before after] else s2

/-- R13: an image change of a measured node. -/
def State.nodeChanged (s : State) (wake : Bool) (n : Nat) : State :=
  ((s.setMarker (.node n)).topologySees wake (.node n)).evaluatorSees (.node n)

/-- R20, R113: a blocking event acts on the apparatus's RELEASED entry. -/
def State.blockingEvent (s : State) (a : Nat) : State := s.run ((s.releasedOf a).map .blockEnd)

/-- R154: the fields of an entry that returns. -/
def Entry.returned (e : Entry) : Entry :=
  { e with state := .queued, reach := none, deadline := none, releaseTime := none, flavour := none, voidCount := 0, cause := none }

/-- R154, R158: a freeze-flavoured REVOKING entry returns: its reservation is freed (a re-offer event), and it takes the
head of its queue, or ends REFUSED(QUEUE_FULL) when that holds 4 tickets (log 16); a coupled movement needs no place. That
it takes the place before the re-offer lets WAITING programmes retry for it is the model's choice (log 34). -/
def State.freezeReturn (s : State) (e : Entry) : State :=
  let s1 := s.modEntry e.ticket Entry.returned
  let frozen : List Task := if s.heldBack e then [.testFrozen] else []
  if e.coupled then s1.run (.enqueue e.ticket :: frozen ++ [.reoffer])
  else if s.queueFull e.owner then s1.run (.retire e.ticket (.refused .queueFull) :: frozen ++ [.reoffer])
  else (s1.queueHead e.owner e.ticket).run (.enqueue e.ticket :: frozen ++ [.reoffer])

/-! ### Port loss (R115, R134) -/

/-- R115: the entries that a port's loss ends: owned by it, or of apparatus it reports, and not SETTLING. -/
def State.lostEntries (s : State) (p : Nat) : List Entry :=
  s.entries.filter (fun e => (e.owner == p || s.reportingPort e.apparatus == some p) && e.state != .settling)

/-- R115: a RELEASED entry whose owner port is lost is revoked at its reporting port. -/
def State.loseEntry (s : State) (p : Nat) (e : Entry) : State :=
  (if e.state = .released ∧ e.owner = p then s.sendRevoke e else s).run [.retire e.ticket .portLost]

/-- R134: the programmes a port owns. -/
def State.programmesOf (s : State) (p : Nat) : List Nat :=
  (s.programmes.filter (fun q => q.owner == p)).map Programme.ticket

/-- R115, R134: entries end PORT_LOST, and then the port's programmes stop PORT_LOST. The order among the entries, ascending by
ticket, and among the programmes, that of their table, is the model's choice (log 14). -/
def State.loseOwner (s : State) (p : Nat) : State :=
  let s1 := (s.lostEntries p).foldl (fun acc e => acc.loseEntry p e) s
  s1.run ((s1.programmesOf p).map (fun t => .stop t (.outcome .portLost)))

end Sys2Proof.Machine
end

