-- ==== Sys2Proof/Machine/Image.lean ====
section
/-! DEFINITION. The yard image (01): report items, substitutions, the held change queue, port loss, and the end of a
held pass (R46). -/

namespace Sys2Proof.Machine

/-! ### The inputs of a record and their effective value -/

/-- R5: the reporting port of an apparatus is ACTIVE. -/
def State.reporterActive (s : State) (d : AppDesc) : Bool := (s.port d.port).state == .active

/-- R3, R5, R13: the inputs of an apparatus record are written and its effective position is derived again; a change is
an image change. -/
def State.setAppInputs (s : State) (wake : Bool) (src : Source) (d : AppDesc) (reported : Pos) (sub : Option Target) : State :=
  match s.app d.number with
  | none => s
  | some r =>
    let eff := effectivePosition sub (s.reporterActive d) reported
    let s1 := s.modApp d.number (fun x => { x with reported := reported, substituted := sub, effective := eff })
    if eff = r.effective then s1 else s1.appChanged wake src d.number r.effective eff

/-- R4, R6, R13: the inputs of a node record are written and its effective class is derived again. -/
def State.setNodeInputs (s : State) (wake : Bool) (n : Nat) (cls : Cls) (sub : Option Cand) : State :=
  match s.node n with
  | none => s
  | some r =>
    let eff := effectiveClass sub cls
    let s1 := s.modNode n (fun x => { x with cls := cls, substituted := sub, effective := eff })
    if eff = r.effective then s1 else s1.nodeChanged wake n

/-! ### The substitution table (01, 1.7) -/

/-- The substitution table with the entry of a target made, replaced or removed. -/
def State.setSubst (s : State) (id : RecordId) (x : Option (SubstValue × Nat)) : State :=
  match x with
  | none => { s with substs := s.substs.filter (fun y => y.target ≠ id) }
  | some (v, p) =>
    if (s.subst id).isSome then
      { s with substs := s.substs.map (fun y => if y.target = id then { y with value := v, port := p } else y) }
    else { s with substs := s.substs ++ [{ target := id, value := v, port := p }] }

/-- R15, R16: the table as new inputs for an apparatus leave it: a report leaves it alone. -/
def State.setAppSubst (s : State) (a : Nat) (sub : Option (Option Target × Nat)) : State :=
  match sub with
  | some (x, p) => s.setSubst (.apparatus a) (x.map (fun t => (SubstValue.position t, p)))
  | none => s

/-- R15, R16: the table as a new substituted class for a node leaves it. -/
def State.setNodeSubst (s : State) (n : Nat) (sub : Option Cand) (p : Nat) : State :=
  s.setSubst (.node n) (sub.map (fun c => (SubstValue.cls c, p)))

/-! ### The held change queue (R14, R40, R41) -/

/-- R40: the held change queue holds 32 entries. -/
def State.heldFull (s : State) : Bool := decide (s.held.length ≥ Config.maxHeld)

/-- R14, R41: a held entry is made at the tail, and its target's marker is set and seen by the evaluator. -/
def State.makeHeld (s : State) (id : RecordId) (copy : HeldCopy) : State :=
  (State.setMarker { s with held := s.held ++ [{ target := id, copy := copy }] } id).evaluatorSees id

/-- The port of the substitution standing on a target, 0 where none stands. -/
def State.substPort (s : State) (id : RecordId) : Nat :=
  match s.subst id with
  | some x => x.port
  | none => 0

/-- What a change of a record's inputs comes to (R14): applied, or refused because the queue is full. -/
inductive Taken where
  | applied (s : State)
  | heldFull

/-- R14, R15, R16: new inputs for an apparatus: to its held entry while a held pass runs and one stands or the change would
be an image change, and otherwise to the record, the substitution table with it and before what the image change brings
about. `port` placed the substitution in the new inputs. -/
def State.changeApp (s : State) (src : Source) (d : AppDesc) (reported : Option Pos) (sub : Option (Option Target × Nat)) : Taken :=
  let id := RecordId.apparatus d.number
  match s.app d.number with
  | none => .applied s
  | some r =>
    if s.heldPassRunning then
      match s.heldFor id with
      | some _ =>
        .applied (s.modHeld id (fun c => match c with
          | .apparatus rep x p =>
            .apparatus (reported.getD rep) (match sub with | some y => y.1 | none => x) (match sub with | some y => y.2 | none => p)
          | .node .. => c))
      | none =>
        let newRep := reported.getD r.reported
        let newSub := match sub with | some y => y.1 | none => r.substituted
        if effectivePosition newSub (s.reporterActive d) newRep = r.effective then
          .applied ((s.setAppSubst d.number sub).setAppInputs true src d newRep newSub)
        else if s.heldFull then .heldFull
        else .applied (s.makeHeld id (.apparatus newRep newSub (match sub with | some y => y.2 | none => s.substPort id)))
    else
      .applied ((s.setAppSubst d.number sub).setAppInputs true src d (reported.getD r.reported)
        (match sub with | some y => y.1 | none => r.substituted))

/-- R14, R15, R16: a new substituted class for a node, in the same way. -/
def State.changeNodeSubst (s : State) (n : Nat) (sub : Option Cand) (port : Nat) : Taken :=
  let id := RecordId.node n
  match s.node n with
  | none => .applied s
  | some r =>
    if s.heldPassRunning then
      match s.heldFor id with
      | some _ =>
        .applied (s.modHeld id (fun c => match c with
          | .node cls _ _ => .node cls sub port
          | .apparatus .. => c))
      | none =>
        if effectiveClass sub r.cls = r.effective then .applied ((s.setNodeSubst n sub port).setNodeInputs true n r.cls sub)
        else if s.heldFull then .heldFull
        else .applied (s.makeHeld id (.node r.cls sub port))
    else .applied ((s.setNodeSubst n sub port).setNodeInputs true n r.cls sub)

/-! ### Report items (R7 to R12, R17, R18, R20) -/

/-- R17, R18, R20: the blocking part of an item, and the blocking event it may make. -/
def State.applyBlocking (s : State) (d : AppDesc) (flags : Flags4) : State :=
  match s.app d.number with
  | none => s
  | some r =>
    let s1 := s.modApp d.number (fun x => x.withBlocking d.latchedModes flags)
    if r.blockingEvent flags then s1.blockingEvent d.number else s1

/-- R8, R9: an apparatus item, position first and blocking flags second. -/
def State.applyAppItem (s : State) (p a : Nat) (pos : Pos) (flags : Flags4) : State × Option AnswerCode :=
  match s.appDesc a with
  | none => (s, some .notYourItem)
  | some d =>
    if d.port ≠ p then (s, some .notYourItem)
    else match s.changeApp .report d (some pos) none with
      | .heldFull => (s, some .heldFull)
      | .applied s1 => (s1.applyBlocking d flags, none)

/-- R12: the current class of a measured node: the pending class of its held entry while a held pass runs. -/
def State.currentClass (s : State) (r : NodeLive) : Cls :=
  if s.heldPassRunning then
    match s.heldFor (.node r.number) with
    | some { target := _, copy := .node c _ _ } => c
    | _ => r.cls
  else r.cls

/-- R10, R11: the record's counter, last candidate and last sample after a sample. -/
def NodeLive.sampled (r : NodeLive) (counter : Nat) (cand : Cand) (v : Nat) : NodeLive :=
  { r with counter := counter, lastCandidate := some cand, lastSample := some v }

/-- R8, R10 to R12: a presence item. -/
def State.applyPresence (s : State) (p n sample : Nat) : State × Option AnswerCode :=
  match s.nodeDesc n, s.node n with
  | some d, some r =>
    if d.measured = false ∨ d.port ≠ some p then (s, some .notYourItem)
    else
      let v := clampSample sample
      let c := s.currentClass r
      let cand := Sys2Proof.candidate s.force.settings c v
      let k := classify s.force.settings c r.counter r.lastCandidate cand
      let s1 := s.modNode n (fun x => x.sampled k.1 cand v)
      if s.heldPassRunning then
        match s.heldFor (.node n) with
        | some _ =>
          (s1.modHeld (.node n) (fun copy => match copy with
            | .node _ x q => .node k.2 x q
            | .apparatus .. => copy), none)
        | none =>
          if k.2 = r.cls ∨ r.substituted.isSome then (s1.setNodeInputs true n k.2 r.substituted, none)
          else if s.heldFull then (s, some .heldFull)
          else (s1.makeHeld (.node n) (.node k.2 r.substituted (s.substPort (.node n))), none)
      else (s1.setNodeInputs true n k.2 r.substituted, none)
  | _, _ => (s, some .notYourItem)

/-- R7: one item is refused with a reason, or applied. -/
def State.applyItem (s : State) (p : Nat) : ReportItem → State × Option AnswerCode
  | .apparatus a pos flags => s.applyAppItem p a pos flags
  | .presence n sample => s.applyPresence p n sample

/-- What a report has come to so far: items applied, and the first refusal with its place, from 1. -/
structure ReportResult where
  applied : Nat
  refused : Option (Nat × AnswerCode)
  deriving DecidableEq, Repr

/-- R7: the items are taken one after the other, `i` being the place of the first, each complete before the next. -/
def State.applyItems (s : State) (p : Nat) : List ReportItem → Nat → ReportResult → State × ReportResult
  | [], _, r => (s, r)
  | x :: xs, i, r =>
    let y := s.applyItem p x
    match y.2 with
    | none => State.applyItems y.1 p xs (i + 1) { r with applied := r.applied + 1 }
    | some c => State.applyItems y.1 p xs (i + 1) { r with refused := some (r.refused.getD (i, c)) }

/-! ### Substitutions (R15, R16) -/

/-- R15: the target is a described apparatus or a measured described node. -/
def State.substitutable (s : State) : RecordId → Bool
  | .apparatus a => (s.appDesc a).isSome
  | .node n => match s.nodeDesc n with
    | some d => d.measured
    | none => false

/-- R15: the value belongs to the target's kind. -/
def SubstValue.fits : SubstValue → RecordId → Bool
  | .position _, .apparatus _ => true
  | .cls _, .node _ => true
  | _, _ => false

/-- A held copy holds a substitution. -/
def HeldCopy.substitutes : HeldCopy → Bool
  | .apparatus _ x _ => x.isSome
  | .node _ x _ => x.isSome

/-- R15, R16: a substitution stands on the target in the table, or in the target's held entry (log 26). -/
def State.substStands (s : State) (id : RecordId) : Bool :=
  (s.subst id).isSome ||
  match s.heldFor id with
  | some h => h.copy.substitutes
  | none => false

/-- R15: the entries of the table, placings waiting in held entries among them. -/
def State.substCount (s : State) : Nat :=
  s.substs.length + (s.held.filter (fun h => h.copy.substitutes && (s.subst h.target).isNone)).length

/-- R15, R16: a substitution of a target is placed or replaced (`some`), or ended (`none`), by port `p`. -/
def State.changeSubst (s : State) (id : RecordId) (value : Option SubstValue) (p : Nat) : Taken :=
  match id with
  | .apparatus a =>
    match s.appDesc a with
    | some d => s.changeApp .substitution d none
        (some ((match value with | some (.position t) => some t | _ => none), p))
    | none => .applied s
  | .node n => s.changeNodeSubst n (match value with | some (.cls c) => some c | _ => none) p

/-! ### Port loss (R25) -/

/-- R25: the copy of a held entry takes UNKNOWN. -/
def HeldCopy.lost : HeldCopy → HeldCopy
  | .apparatus _ x p => .apparatus .unknown x p
  | .node _ x p => .node .unknown x p

/-- R25: the loss reaches one apparatus. -/
def State.loseApp (s : State) (d : AppDesc) : State :=
  let s1 := s.modHeld (.apparatus d.number) HeldCopy.lost
  match s1.app d.number with
  | some r => s1.setAppInputs true .portLoss d .unknown r.substituted
  | none => s1

/-- R25: the loss reaches one measured node. -/
def State.loseNode (s : State) (n : Nat) : State :=
  let s1 := (s.modHeld (.node n) HeldCopy.lost).modNode n (fun x => { x with counter := 0, lastCandidate := none })
  match s1.node n with
  | some r => s1.setNodeInputs true n .unknown r.substituted
  | none => s1

/-- R25: a BAY port becomes LOST: the apparatus and measured nodes it reports become UNKNOWN. -/
def State.loseImage (s : State) (p : Nat) : State :=
  let s1 := (s.force.apparatus.filter (fun d => d.port == p)).foldl State.loseApp s
  (s.force.nodes.filter (fun d => d.measured && d.port == some p)).foldl (fun acc d => acc.loseNode d.number) s1

/-! ### The end of a held pass (R46) -/

/-- R14, R46: a held entry is applied: the record's inputs take its copy, the substitution table follows it, and a
change is an image change that starts no pass. A change of the substituted value is made by substitution (log 13). -/
def State.applyHeld (s : State) (h : HeldEntry) : State :=
  let s0 := { s with held := s.held.drop 1 }
  match h.target, h.copy with
  | .apparatus a, .apparatus rep sub port =>
    match s0.appDesc a, s0.app a with
    | some d, some r =>
      let src := if sub = r.substituted then Source.report else Source.substitution
      (s0.setAppSubst a (some (sub, port))).setAppInputs false src d rep sub
    | _, _ => s0
  | .node n, .node cls sub port =>
    (s0.setNodeSubst n sub port).setNodeInputs false n cls sub
  | _, _ => s0

/-- R46: at the end of a held pass it publishes, applies the held entries from the head, and starts an ordinary pass
when a marker is set. -/
def State.heldPassEnd (s : State) : State :=
  match s.pass with
  | some w =>
    if w.held && w.complete then
      let s1 := s.publishAndHandOn w
      (s1.held.foldl State.applyHeld s1).startIfMarked
    else s
  | none => s

end Sys2Proof.Machine
end

