-- ==== Sys2Proof/Machine/Links.lean ====
section
/-! DEFINITION. The link ports (09): frames received and sent, the checks of R164 and R165, the loss of a port (R170),
KEEPALIVE, SET PORT PRIORITY, and the queries (R146, R173 to R175). -/

namespace Sys2Proof

/-! ### Roles and modes (R165) -/

/-- R165, first table: the request kinds a role may send. -/
def Role.maySend : Role → RequestKind → Bool
  | .unused, _ => false
  | .bay, k =>
    match k with
    | .positionReport | .moveRequest | .programmeRequest | .cancel | .amend | .extend | .revokeAnswer
    | .queryApparatus | .queryNode | .queryMovement | .queryProgramme | .queryEngine | .keepalive => true
    | .placeRestriction | .liftRestriction | .queryRestrictions | .liftInspectOverflow
    | .substitute | .endSubstitution | .acknowledgeBlock | .setPortPriority
    | .freeze | .thaw | .enterMaintenance | .leaveMaintenance | .loadYard | .commitYard | .restart => false
  | .supervisory, k =>
    match k with
    | .positionReport | .revokeAnswer => false
    | .moveRequest | .programmeRequest | .cancel | .amend | .extend
    | .queryApparatus | .queryNode | .queryMovement | .queryProgramme | .queryEngine | .keepalive
    | .placeRestriction | .liftRestriction | .queryRestrictions | .liftInspectOverflow
    | .substitute | .endSubstitution | .acknowledgeBlock | .setPortPriority
    | .freeze | .thaw | .enterMaintenance | .leaveMaintenance | .loadYard | .commitYard | .restart => true

/-- GATHERING, SERVICE, FREEZING or FROZEN. -/
def Mode.yardOpen : Mode → Bool
  | .gathering | .service | .freezing | .frozen => true
  | .restarting | .maintenance => false

/-- SERVICE, FREEZING or FROZEN. -/
def Mode.working : Mode → Bool
  | .service | .freezing | .frozen => true
  | .restarting | .gathering | .maintenance => false

/-- R165, second table: the modes in which a kind is taken. -/
def RequestKind.takenIn : RequestKind → Mode → Bool
  | .positionReport, m => m.yardOpen
  | .moveRequest, m => m.working
  | .programmeRequest, m => m == .service
  | .cancel, m => m != .restarting
  | .amend, m => m != .restarting
  | .extend, m => m != .restarting
  | .revokeAnswer, m => m != .restarting
  | .queryApparatus, m => m != .restarting
  | .queryNode, m => m != .restarting
  | .queryMovement, m => m != .restarting
  | .queryProgramme, m => m != .restarting
  | .queryEngine, _ => true
  | .keepalive, _ => true
  | .placeRestriction, m => m.yardOpen
  | .liftInspectOverflow, m => m.yardOpen
  | .liftRestriction, m => m != .restarting
  | .queryRestrictions, m => m != .restarting
  | .substitute, m => m.yardOpen
  | .endSubstitution, m => m.yardOpen
  | .acknowledgeBlock, m => m.yardOpen
  | .setPortPriority, m => m != .restarting
  | .freeze, m => m.working
  | .thaw, m => m.working
  | .enterMaintenance, m => m == .service || m == .frozen
  | .leaveMaintenance, m => m == .maintenance
  | .loadYard, m => m == .maintenance
  | .commitYard, m => m == .maintenance
  | .restart, m => m != .restarting

namespace Machine

/-! ### Requests (R163, R164) -/

/-- An answer without fields. -/
def Reply.code (c : AnswerCode) : Reply := .now c []

/-- R164: the three checks, in order, and then the owning rule. That a POSITION REPORT refused by one of them carries the
code alone, as every request does, is the model's choice (log 7). -/
def State.checked {α : Type} (p : Nat) (k : RequestKind) (decode : List Byte → Option α)
    (handle : α → Frame → State → State × Reply) (f : Frame) (s : State) : State × Reply :=
  match decode f.body with
  | none => (s, .code .malformed)
  | some x =>
    if (s.port p).role.maySend k = false then (s, .code .portRole)
    else if k.takenIn s.mode = false then (s, .code .mode)
    else handle x f s

/-- R163, R164, R187: port `p` takes a request of kind `k` from the head of its inbound list. -/
def State.request {α : Type} (s : State) (p : Nat) (k : RequestKind) (decode : List Byte → Option α)
    (handle : α → Frame → State → State × Reply) : State :=
  s.takeFrame p (fun f => f.isKind k) (· + 0x80#8) (State.checked p k decode handle)

/-- R164, R187: a frame whose kind is no request kind is answered MALFORMED with kind 80h. -/
def State.unknownKind (s : State) (p : Nat) : State :=
  s.takeFrame p (fun f => !f.isRequest) (fun _ => 0x80#8) (fun _ s1 => (s1, .code .malformed))

/-! ### Frames received and sent (R161, R163, R166, R169, R171) -/

/-- R163: a valid frame joins the inbound list at its tail; a ninth is discarded. -/
def Port.join (q : Port) (f : Frame) : Port :=
  if q.inbound.length < Config.maxInbound then { q with inbound := q.inbound ++ [f] } else q

/-- R169: a valid frame makes the port ACTIVE and loads its silence timer, before it joins the inbound list. -/
def Port.hear (q : Port) (f : Frame) : Port :=
  ({ q with state := .active, silenceTimer := some q.silenceLimit } : Port).join f

/-- R161, R171: the bytes between two idle gaps of port `p`'s line. -/
def State.receive (s : State) (p : Nat) (bytes : List Byte) (framingError : Bool) : State :=
  if (s.port p).role = .unused then s
  else match checkFrame bytes framingError with
    | none => s
    | some f => s.modPort p (fun q => q.hear f)

/-- R163: the request in progress ends, and its frame leaves the inbound list. -/
def Port.endRequest (q : Port) : Port :=
  match q.inProgress with
  | none => q
  | some r => { q with inProgress := none, inbound := if r.inList then q.inbound.drop 1 else q.inbound }

/-- R185: the request in progress on a port is a RESTART that was taken. -/
def Port.restarting (q : Port) : Bool :=
  match q.inProgress with
  | some r => r.restart
  | none => false

/-- R163, R166, R185: the last byte of the frame at the head of port `p`'s transmit list is sent. With an answer its
request ends, and with a RESTART's answer the commanded reset falls due. -/
def State.sent (s : State) (p : Nat) : State :=
  match (s.port p).transmit with
  | [] => s
  | .notice _ :: rest => s.modPort p (fun q => { q with transmit := rest })
  | .answer .. :: rest =>
    State.modPort { s with commandedDue := s.commandedDue || (s.port p).restarting } p
      (fun q => Port.endRequest { q with transmit := rest })

/-! ### Port loss (R170) -/

/-- R170: the port becomes LOST with its lists empty. -/
def Port.lost (q : Port) : Port :=
  { q with state := .lost, silenceTimer := none, inbound := [], inProgress := none, transmit := [] }

/-- R170: the port-loss event at the port itself. -/
def State.losePort (s : State) (p : Nat) : State := (s.modPort p Port.lost).dropRequester p

/-- R170: the loss handed to its owners: movement supervisor, programme table, and the image for a BAY port (log 14). -/
def State.portLost (s : State) (p : Nat) : State :=
  let s1 := (s.losePort p).loseOwner p
  if (s.port p).role = .bay then s1.loseImage p else s1

/-! ### SET PORT PRIORITY (R74, R75, R133) -/

/-- R133: the WAITING programmes of a port. -/
def State.waitingProgrammes (s : State) (p : Nat) : List Nat :=
  (s.programmes.filter (fun q => q.owner == p && q.state == .waiting)).map Programme.ticket

/-- R75: the QUEUED and DEFERRED entries of a port. -/
def State.mutedEntries (s : State) (p : Nat) : List Nat :=
  (s.entries.filter (fun e => e.owner == p && (e.state == .queued || e.state == .deferred))).map Entry.ticket

/-- R75, R133: priority 0 stops the WAITING programmes of the port and ends its QUEUED and DEFERRED entries (log 17). -/
def State.mute (s : State) (p : Nat) : State :=
  s.run ((s.waitingProgrammes p).map (fun t => .stop t (.outcome (.refused .portMuted))) ++
    (s.mutedEntries p).map (fun t => .retire t (.refused .portMuted)))

/-- R74: SET PORT PRIORITY of port `n` to `v`. -/
def State.setPriority (n v : Nat) (s : State) : State × Reply :=
  if n ≥ Config.nPorts then (s, .code .outOfRange)
  else if (s.port n).role = .unused then (s, .code .notApplicable)
  else
    let s1 := s.modPort n (fun q => { q with priority := min v 15 })
    (if v = 0 then s1.mute n else s1, .code (if v > 15 then .clamped else .done))

/-! ### Queries (R146, R173 to R175) -/

/-- R173: QUERY APPARATUS. A live record that does not stand yet is sent as a free one (log 5). -/
def State.queryApparatus (s : State) (a : Nat) : Reply :=
  match s.store.apparatus.find? (fun d => d.number == a) with
  | none => .code .unknownApparatus
  | some d =>
    .now .done (putAppDesc d ++
      putAppLive ((s.app a).getD (freeAppLive a (s.reporterActive d))) ++
      put8 (s.published.position a).code ++
      putHeld (s.heldFor (.apparatus a)) ++ putSubst (s.subst (.apparatus a)))

/-- R173: the live record of a node, led by a byte that says whether the node is measured (log 7); one that does not stand yet
is sent as a free one (log 5). -/
def State.putNodeRecord (s : State) (d : NodeDesc) : List Byte :=
  putBool d.measured ++
  if d.measured then putNodeLive ((s.node d.number).getD (freeNodeLive d.number))
  else List.replicate nodeLiveLength 0

/-- R173: QUERY NODE. -/
def State.queryNode (s : State) (n : Nat) : Reply :=
  if n = 0 then .now .done (putNodeEntry (s.published.node 0))
  else match s.store.nodes.find? (fun d => d.number == n) with
    | none => .code .unknownTarget
    | some d =>
      .now .done (putNodeDesc d ++ s.putNodeRecord d ++
        putHeld (s.heldFor (.node n)) ++ putSubst (s.subst (.node n)) ++ putNodeEntry (s.published.node n))

/-- R174: QUERY MOVEMENT. An ended item is followed by a byte that marks it as ended (log 7). -/
def State.queryMovement (s : State) (t : Nat) : Reply :=
  match s.entry t with
  | some e => .now .done (putEntry e (placeIn t (s.port e.owner).queue))
  | none =>
    match s.endedItem t with
    | some x => .now .done (putEnded x ++ putBool true)
    | none => if (s.programme t).isSome then .code .notApplicable else .code .unknownTicket

/-- R174: QUERY PROGRAMME. -/
def State.queryProgramme (s : State) (t : Nat) : Reply :=
  match s.programme t with
  | some p => .now .done (putProgramme p)
  | none =>
    if (s.entry t).isSome || (s.endedItem t).isSome then .code .notApplicable else .code .unknownTicket

/-- R146: QUERY RESTRICTIONS from id `i`. -/
def State.queryRestrictions (s : State) (i : Nat) : Reply :=
  if i = 0 ∨ i > Config.maxRestrictions then .code .outOfRange
  else
    let l := s.restrictions.filter (fun r => decide (i ≤ r.id))
    let shown := l.take Config.maxListed
    .now .done (put8 s.restrictions.length ++ put8 shown.length ++ shown.flatMap putRestriction ++
      put8 (match l[Config.maxListed]? with
        | some r => r.id
        | none => 0))

end Machine

end Sys2Proof
end

