-- ==== Sys2Proof/Machine/Movements.lean ====
section
/-! DEFINITION. The requests of movement entries (05) and programmes (06): MOVE REQUEST, CANCEL, AMEND, EXTEND, REVOKE
ANSWER, PROGRAMME REQUEST; and the expiries of their timers. -/

namespace Sys2Proof.Machine

/-! ### MOVE REQUEST (R96, R97) -/

/-- R96: check 2, and R122's, for one apparatus: a BAY port names an apparatus that is not its own. -/
def State.notOwn (s : State) (p a : Nat) : Bool :=
  (s.port p).role == .bay && s.reportingPort a != some p

/-- R96: the first check that fails, in the table's order. RESTARTING, GATHERING and MAINTENANCE have failed R164. -/
def State.moveCheck (s : State) (p a : Nat) (t : Target) : Option AnswerCode :=
  if s.mode.isFreeze && !s.isBreakerOpening a t then some .mode
  else if s.notOwn p a then some .portRole
  else if s.muted p then some .portMuted
  else if (s.appDesc a).isNone then some .unknownApparatus
  else if s.substitutionOn a then some .substituted
  else if s.engaged a then some .engaged
  else if s.queueFull p then some .queueFull
  else if s.tableFull then some .tableFull
  else none

/-- R96, R97: MOVE REQUEST. -/
def State.moveRequest (p : Nat) (x : Nat × Target) (s : State) : State × Reply :=
  match s.moveCheck p x.1 x.2 with
  | some c => (s, .code c)
  | none => (s.makeEntry p x.1 x.2 none false, .now .accepted (put16 s.freeTicket))

/-! ### Requests that name a ticket (5.2) -/

/-- What a ticket names. -/
inductive Named where
  | nothing
  | programme (p : Programme)
  | ended (x : Ended)
  | entry (e : Entry)
  deriving DecidableEq, Repr

/-- 5.2: what a ticket names. -/
def State.named (s : State) (t : Nat) : Named :=
  match s.entry t with
  | some e => .entry e
  | none =>
    match s.programme t with
    | some p => .programme p
    | none =>
      match s.endedItem t with
      | some x => .ended x
      | none => .nothing

/-- 5.2: CANCEL and EXTEND: the owner port or any SUPERVISORY port has authority. -/
def State.ownerOrSupervisory (s : State) (p owner : Nat) : Bool :=
  owner == p || (s.port p).role == .supervisory

/-- R110: the part of a CANCEL that acts on a live entry. -/
def State.cancelEntry (s : State) (e : Entry) : State :=
  match e.state with
  | .queued | .deferred | .suspended => s.run [.retire e.ticket .cancelled]
  | .evaluating => s.modEntry e.ticket (fun x => { x with cancelPending := true })
  | .released =>
    (s.sendRevoke e).modEntry e.ticket (fun x => { x with state := .revoking, flavour := some .cancel })
  | .revoking => s.modEntry e.ticket (fun x => { x with flavour := some .cancel })
  | .travelling | .settling => s

/-- R110: the state that a CANCEL leaves its entry in, absent when the entry has retired (log 8). -/
def State.entryStateField (s : State) (t : Nat) : List Byte :=
  putOpt8 ((s.entry t).map (fun e => e.state.code))

/-- R131, R187: the state that a CANCEL leaves a programme in: its state, or STOPPED. It is never absent. -/
def State.programmeStateField (s : State) (t : Nat) : List Byte :=
  match s.programme t with
  | some p => put8 p.state.code
  | none => put8 stoppedCode

/-- R131: a CANCEL of a programme. That a RUNNING programme which becomes STOPPING has no stop reason yet is the model's
choice (log 31). -/
def State.cancelProgramme (s : State) (p : Programme) : State :=
  match p.state with
  | .waiting => s.run [.stop p.ticket (.outcome .cancelled)]
  | .stopping => s
  | .running =>
    let s1 := s.modProgramme p.ticket (fun q => { q with state := .stopping })
    match p.movement with
    | none => s1
    | some m =>
      match s1.entry m with
      | some e => s1.cancelEntry e
      | none => s1

/-- R110, R131: CANCEL. -/
def State.cancel (p t : Nat) (s : State) : State × Reply :=
  match s.named t with
  | .nothing => (s, .code .unknownTicket)
  | .programme g =>
    if s.ownerOrSupervisory p g.owner then
      let s1 := s.cancelProgramme g
      (s1, .now .done (s1.programmeStateField t))
    else (s, .code .portRole)
  | .ended x => (s, .code (if s.ownerOrSupervisory p x.owner then .tooLate else .portRole))
  | .entry e =>
    if s.ownerOrSupervisory p e.owner then
      if e.state = .travelling ∨ e.state = .settling then (s, .code .tooLate)
      else
        let s1 := s.cancelEntry e
        (s1, .now .done (s1.entryStateField t))
    else (s, .code .portRole)

/-- R108: an entry with its new target, its earlier deferrals forgotten. -/
def Entry.amended (e : Entry) (t : Target) : Entry :=
  { e with target := t, voidCount := 0, cause := none, deadline := none }

/-- R108, R109: the part of an AMEND that acts on a live entry with a new target. -/
def State.amendEntry (s : State) (e : Entry) (t : Target) : State × Reply :=
  match e.state with
  | .queued | .deferred =>
    ((s.modEntry e.ticket (fun x => x.amended t)).run [.enqueue e.ticket], .code .done)
  | .suspended => (s.modEntry e.ticket (fun x => x.amended t), .code .done)
  | .evaluating =>
    ((State.queueHead
      { s.modEntry e.ticket (fun x => x.amended t) with evaluation := none } e.owner e.ticket).run [.enqueue e.ticket],
      .code .done)
  | .released | .revoking | .travelling | .settling => (s, .code .tooLate)

/-- R108: AMEND. -/
def State.amend (p : Nat) (x : Nat × Target) (s : State) : State × Reply :=
  match s.named x.1 with
  | .nothing => (s, .code .unknownTicket)
  | .programme _ => (s, .code .notApplicable)
  | .ended y => (s, .code (if y.owner = p then .tooLate else .portRole))
  | .entry e =>
    if e.owner ≠ p then (s, .code .portRole)
    else if e.programme.isSome then (s, .code .notApplicable)
    else if e.state = .evaluating ∧ e.cancelPending then (s, .code .tooLate)
    else if e.target = x.2 then (s, .code .done)
    else s.amendEntry e x.2

/-- R106: the remaining time that an EXTEND leaves: amount and sum are clamped. -/
def extended (remaining amount : Time) : Time :=
  min Config.maxTravelRemaining (remaining + min Config.maxExtend amount)

/-- R106: the amount or the sum was clamped. -/
def extendClamped (remaining amount : Time) : Bool :=
  decide (amount > Config.maxExtend ∨ remaining + min Config.maxExtend amount > Config.maxTravelRemaining)

/-- R106: the part of an EXTEND that acts on a live entry. -/
def State.extendEntry (s : State) (e : Entry) (amount : Time) : State × Reply :=
  if amount = 0 then (s, .code .outOfRange)
  else if e.state = .travelling then
    let r := e.deadline.getD 0
    (s.modEntry e.ticket (fun x => { x with deadline := some (extended r amount) }),
      .now (if extendClamped r amount then .clamped else .done) (put16 (extended r amount)))
  else (s, .code .notTravelling)

/-- R106: EXTEND. -/
def State.extend (p : Nat) (x : Nat × Time) (s : State) : State × Reply :=
  match s.named x.1 with
  | .nothing => (s, .code .unknownTicket)
  | .programme _ => (s, .code .notApplicable)
  | .ended y => (s, .code (if s.ownerOrSupervisory p y.owner then .tooLate else .portRole))
  | .entry e => if s.ownerOrSupervisory p e.owner then s.extendEntry e x.2 else (s, .code .portRole)

/-- R112: the part of a REVOKE ANSWER that acts on a live entry. -/
def State.revokeEntry (s : State) (e : Entry) (r : RevokeReply) : State × Reply :=
  if e.state = .revoking then
    match r with
    | .started => (s.travel e, .code .done)
    | .withdrawn =>
      if e.flavour = some .freeze then (s.freezeReturn e, .code .done)
      else (s.run [.retire e.ticket .cancelled], .code .done)
  else (s, .code .notApplicable)

/-- R112: REVOKE ANSWER. -/
def State.revokeAnswer (p : Nat) (x : Nat × RevokeReply) (s : State) : State × Reply :=
  match s.named x.1 with
  | .nothing => (s, .code .unknownTicket)
  | .programme _ => (s, .code .notApplicable)
  | .ended y => (s, .code (if s.reportingPort y.apparatus = some p then .notApplicable else .portRole))
  | .entry e => if s.reportingPort e.apparatus = some p then s.revokeEntry e x.2 else (s, .code .portRole)

/-! ### PROGRAMME REQUEST (R122, R123) -/

/-- R122, check 4: no step, more than 8 steps, or step 1 COUPLED. -/
def badSteps (steps : List Step) : Bool :=
  match steps with
  | [] => true
  | st :: _ => st.coupled || decide (steps.length > Config.maxSteps)

/-- R122: the first check that fails, in the table's order. Modes other than SERVICE have failed R164. -/
def State.programmeCheck (s : State) (p : Nat) (steps : List Step) : Option AnswerCode :=
  if steps.any (fun st => s.notOwn p st.apparatus) then some .portRole
  else if s.muted p then some .portMuted
  else if badSteps steps then some .malformed
  else if steps.any (fun st => (s.appDesc st.apparatus).isNone) then some .unknownApparatus
  else if s.programmes.length ≥ Config.maxProgrammes then some .tableFull
  else none

/-- R123: the programme made for a request. -/
def newProgramme (t owner : Nat) (steps : List Step) : Programme :=
  { ticket := t, owner := owner, steps := steps, current := 1, state := .running, movement := none,
    waiting := none, carry := none, stopReason := none }

/-- R122, R123: PROGRAMME REQUEST. -/
def State.programmeRequest (p : Nat) (steps : List Step) (s : State) : State × Reply :=
  match s.programmeCheck p steps with
  | some c => (s, .code c)
  | none =>
    let t := s.freeTicket
    (State.run { s.ticketIssued t with programmes := s.programmes ++ [newProgramme t p steps] } [.start t],
      .now .accepted (put16 t))

/-! ### Expiries (R87, R100, R103, R125) -/

/-- The timer of a live entry has run out. -/
def Entry.due (e : Entry) : Bool := e.deadline == some 0

/-- R87: the deferral clock of an entry expires. -/
def State.deferralExpiry (s : State) (t : Nat) : State :=
  match s.entry t with
  | none => s
  | some e =>
    if e.due then
      match e.state with
      | .queued | .deferred => s.run [.retire t (.refused e.causeReason)]
      | .evaluating => { s with evaluation := s.evaluation.map (fun v => { v with expired := true }) }
      | .suspended | .released | .revoking | .travelling | .settling => s
    else s

/-- R100, R154: the start window of an entry expires. -/
def State.startWindowExpiry (s : State) (t : Nat) : State :=
  match s.entry t with
  | none => s
  | some e =>
    if e.due then
      match e.state with
      | .released => (s.sendRevoke e).run [.retire t .lapsed]
      | .revoking =>
        if e.flavour = some .freeze then s.freezeReturn e else s.run [.retire t .cancelled]
      | .queued | .deferred | .evaluating | .suspended | .travelling | .settling => s
    else s

/-- R103: the travel deadline of an entry expires. -/
def State.travelExpiry (s : State) (t : Nat) : State :=
  match s.entry t with
  | none => s
  | some e =>
    if e.due ∧ e.state = .travelling then s.run [.retire t .timedOut, .inspect e.apparatus] else s

/-- R125: the waiting remaining of a programme expires. -/
def State.waitingExpiry (s : State) (t : Nat) : State :=
  match s.programme t with
  | none => s
  | some p => if p.waiting = some 0 then s.run [.stop t .noRoom] else s

/-! ### The commands -/

/-- MOVE_REQUEST (R96). -/
def execMoveRequest (port : Nat) (s : State) : Host.Outcome State Fault Refusal :=
  .next (s.whenRunning (fun s0 =>
    s0.request port .moveRequest decodeNumberTarget (fun x _ s1 => s1.moveRequest port x)))

/-- PROGRAMME_REQUEST (R122). -/
def execProgrammeRequest (port : Nat) (s : State) : Host.Outcome State Fault Refusal :=
  .next (s.whenRunning (fun s0 =>
    s0.request port .programmeRequest decodeProgramme (fun x _ s1 => s1.programmeRequest port x)))

/-- CANCEL (R110, R131). -/
def execCancel (port : Nat) (s : State) : Host.Outcome State Fault Refusal :=
  .next (s.whenRunning (fun s0 => s0.request port .cancel decodeNumber16 (fun x _ s1 => s1.cancel port x)))

/-- AMEND (R108). -/
def execAmend (port : Nat) (s : State) : Host.Outcome State Fault Refusal :=
  .next (s.whenRunning (fun s0 => s0.request port .amend decodeNumberTarget (fun x _ s1 => s1.amend port x)))

/-- EXTEND (R106). -/
def execExtend (port : Nat) (s : State) : Host.Outcome State Fault Refusal :=
  .next (s.whenRunning (fun s0 => s0.request port .extend decodeExtend (fun x _ s1 => s1.extend port x)))

/-- REVOKE_ANSWER (R112). -/
def execRevokeAnswer (port : Nat) (s : State) : Host.Outcome State Fault Refusal :=
  .next (s.whenRunning (fun s0 =>
    s0.request port .revokeAnswer decodeRevokeAnswer (fun x _ s1 => s1.revokeAnswer port x)))

/-- DEFERRAL_CLOCK_EXPIRY (R87). -/
def execDeferralClockExpiry (ticket : Nat) (s : State) : Host.Outcome State Fault Refusal :=
  .next (s.whenRunning (fun s0 => s0.deferralExpiry ticket))

/-- START_WINDOW_EXPIRY (R100). -/
def execStartWindowExpiry (ticket : Nat) (s : State) : Host.Outcome State Fault Refusal :=
  .next (s.whenRunning (fun s0 => s0.startWindowExpiry ticket))

/-- TRAVEL_DEADLINE_EXPIRY (R103). -/
def execTravelDeadlineExpiry (ticket : Nat) (s : State) : Host.Outcome State Fault Refusal :=
  .next (s.whenRunning (fun s0 => s0.travelExpiry ticket))

/-- WAITING_REMAINING_EXPIRY (R125). -/
def execWaitingRemainingExpiry (ticket : Nat) (s : State) : Host.Outcome State Fault Refusal :=
  .next (s.whenRunning (fun s0 => s0.waitingExpiry ticket))

end Sys2Proof.Machine
end

