-- ==== Sys2Proof/Machine/Reset.lean ====
section
/-! DEFINITION. Resets (10.1, R178; R27, R49, R91, R119, R135, R137, R160, R172), the end of RESTARTING (R179), and the
two ends of gathering. -/

namespace Sys2Proof.Machine

/-! ### Live records after a reset (R27, R28) -/

/-- R27: an apparatus record after POWER_ON. -/
def AppLive.fresh (n : Nat) : AppLive :=
  { number := n, reported := .unknown, substituted := none, effective := .unknown,
    present := Flags4.clear, latched := Flags4.clear, latchNumbers := LatchNumbers.zero,
    marker := true, ticket := none, lastOutcome := none, lastOperatingTime := none, overflow := false }

/-- R27: an apparatus record after RESET_LINE or COMMANDED. -/
def AppLive.rested (r : AppLive) : AppLive :=
  { AppLive.fresh r.number with
    latched := r.latched, latchNumbers := r.latchNumbers, lastOutcome := r.lastOutcome,
    lastOperatingTime := r.lastOperatingTime, overflow := r.overflow }

/-- R27: a node record after any reset. -/
def NodeLive.fresh (n : Nat) : NodeLive :=
  { number := n, cls := .unknown, lastCandidate := none, counter := 0, lastSample := none,
    substituted := none, effective := .unknown, marker := true }

/-- R27, R28: the apparatus records of a description; `keep` keeps what RESET_LINE keeps of a standing record. -/
def State.appsOf (s : State) (y : Yard) (keep : Bool) : List AppLive :=
  y.apparatus.map (fun d =>
    match s.app d.number with
    | some r => if keep then r.rested else AppLive.fresh d.number
    | none => AppLive.fresh d.number)

/-- R27, R28: the node records of a description, for its measured nodes. -/
def nodesOf (y : Yard) : List NodeLive :=
  (y.nodes.filter NodeDesc.measured).map (fun d => NodeLive.fresh d.number)

/-- R28, R179: the records of the written list are cleared. -/
def AppLive.clearWritten (written : List Nat) (r : AppLive) : AppLive :=
  if written.contains r.number then
    { r with
      latched := Flags4.clear, latchNumbers := LatchNumbers.zero, lastOutcome := none
      lastOperatingTime := none, overflow := false }
  else r

/-! ### The reset event (R178) -/

/-- R178: the restart record that a reset writes. -/
def State.recordReset (s : State) (c : ResetCause) : RestartRecord :=
  match c with
  | .powerOn => { cause := c, modeAtReset := none, count := 0 }
  | .resetLine | .commanded => { cause := c, modeAtReset := some s.mode, count := min 255 (s.restartRecord.count + 1) }

/-- R160: the freeze-carried mark after a reset. -/
def State.carriedAfter (s : State) (c : ResetCause) : Bool :=
  match c with
  | .powerOn => false
  | .resetLine | .commanded => s.freezeCarried || s.mode.isFreeze

/-- R178: a reset, taken whole: every block takes the values of its chapter for the cause. The description mark stays as it is,
also where a validation that began with it verified is cut off (log 24). DESIGN CHOICE, unsafe (log 36): it stays verified, too,
where the reset undoes a lift (R137) that a passed validation went by, so that a target not declared may stand outside
MAINTENANCE against R147. -/
def State.resetTo (s : State) (c : ResetCause) : State :=
  { s with
    commandedDue := false
    mode := .restarting
    restartTimer := some s.store.settings.settleLimit
    gatheringTimer := none
    freezeCarried := s.carriedAfter c
    restartRecord := s.recordReset c
    validation := none
    ports := s.store.ports.map Port.afterReset
    apps := s.appsOf s.store (c != .powerOn)
    nodes := nodesOf s.store
    substs := []
    held := []
    pass := none
    spoils := 0
    publicationCount := 0
    published := Colouring.start
    evaluation := none
    coupled := []
    entries := []
    ticketCounter := 1
    ended := []
    programmes := []
    waitingOrder := []
    restrictions := s.stored
    writes := [] }

/-- R178: POWER_ON: supply is applied. -/
def State.powerOn (s : State) : State := State.resetTo { s with supplyGood := true } .powerOn

/-- R178: supply falls below its working level: the engine is held in a reset, which POWER_ON ends (log 11). -/
def State.supplyBelow (s : State) : State := State.resetTo { s with supplyGood := false } .powerOn

/-- R178: the reset line is asserted. Without supply the assertion alone is kept (log 11). -/
def State.assertLine (s : State) : State :=
  if s.lineAsserted then s
  else if s.supplyGood then State.resetTo { s with lineAsserted := true } .resetLine
  else { s with lineAsserted := true }

/-- R178: the reset line is released: with supply good RESTARTING begins, its timer loaded from its start (log 11). -/
def State.releaseLine (s : State) : State :=
  if s.lineAsserted then
    { s with
      lineAsserted := false
      restartTimer := if s.supplyGood then some s.store.settings.settleLimit else s.restartTimer }
  else s

/-- R185: the commanded reset is taken when it has fallen due. -/
def State.commandedReset (s : State) : State := if s.commandedDue then s.resetTo .commanded else s

/-- R170, R185: the silence timer of port `p` expires. With a RESTART's answer unsent the reset is taken in the event;
that it comes after what the loss does is the model's choice (log 35). -/
def State.portLossEvent (s : State) (p : Nat) : State :=
  if (s.port p).state = .active ∧ (s.port p).silenceTimer = some 0 then
    if (s.port p).restarting then (s.portLost p).resetTo .commanded else s.portLost p
  else s

/-! ### The end of RESTARTING and of gathering (R162, R179, R180) -/

/-- R162: a port takes the role and limits of a record; a change of role makes it SILENT with its lists emptied. -/
def Port.takeRole (q : Port) (d : PortDesc) : Port :=
  if q.role = d.role then { q with silenceLimit := d.silenceLimit, defaultPriority := d.defaultPriority }
  else
    { q with
      role := d.role, silenceLimit := d.silenceLimit, defaultPriority := d.defaultPriority
      state := .silent, silenceTimer := none, inbound := [], inProgress := none, transmit := [] }

/-- R162: the roles in force are taken from port records. -/
def takeRoles (ports : List Port) (records : List PortDesc) : List Port := List.zipWith Port.takeRole ports records

/-- R162: the record that port 0 falls back to. -/
def fallbackPort : PortDesc := { role := .supervisory, defaultPriority := 0, silenceLimit := 500 }

/-- R162, R179: the port records taken at the end of RESTARTING with an unverified description. -/
def unverifiedRecords (records : List PortDesc) : List PortDesc :=
  if records.any (fun d => d.role == .supervisory) then records else records.set 0 fallbackPort

/-- R180: gathering begins: the mode with its notice, the timer, and a pass. -/
def State.beginGathering (s : State) : State :=
  (State.changeMode { s with gatheringTimer := some s.force.settings.gatheringLimit } .gathering).startPass false

/-- R179: RESTARTING ends, in GATHERING or MAINTENANCE. -/
def State.restartExpiry (s : State) : State :=
  if s.mode = .restarting ∧ s.restartTimer = some 0 then
    if s.verified then
      State.beginGathering
        { s with
          restartTimer := none
          force := s.store
          ports := takeRoles s.ports s.store.ports
          apps := s.apps.map (AppLive.clearWritten s.written)
          written := [] }
    else
      State.changeMode
        { s with
          restartTimer := none
          force := s.store
          ports := takeRoles s.ports (unverifiedRecords s.store.ports) } .maintenance
  else s

/-- R180: the gathering timer expires. -/
def State.gatheringExpiry (s : State) : State :=
  if s.mode = .gathering ∧ s.gatheringTimer = some 0 then s.endGathering else s

/-! ### The commands -/

/-- POWER_ON (R178). -/
def execPowerOn (s : State) : Host.Outcome State Fault Refusal := .next s.powerOn

/-- SUPPLY_BELOW_WORKING_LEVEL (R178). -/
def execSupplyBelowWorkingLevel (s : State) : Host.Outcome State Fault Refusal := .next s.supplyBelow

/-- RESET_LINE (R178). -/
def execResetLine (s : State) : Host.Outcome State Fault Refusal := .next s.assertLine

/-- RESET_LINE_RELEASED (R178). -/
def execResetLineReleased (s : State) : Host.Outcome State Fault Refusal := .next s.releaseLine

/-- COMMANDED (R178, R185). -/
def execCommanded (s : State) : Host.Outcome State Fault Refusal := .next (s.whenRunning State.commandedReset)

/-- PORT_LOSS (R170). -/
def execPortLoss (port : Nat) (s : State) : Host.Outcome State Fault Refusal :=
  .next (s.whenRunning (fun s0 => s0.portLossEvent port))

/-- RESTART_TIMER_EXPIRY (R179). -/
def execRestartTimerExpiry (s : State) : Host.Outcome State Fault Refusal :=
  .next (s.whenRunning State.restartExpiry)

/-- GATHERING_TIMER_EXPIRY (R180). -/
def execGatheringTimerExpiry (s : State) : Host.Outcome State Fault Refusal :=
  .next (s.whenRunning State.gatheringExpiry)

end Sys2Proof.Machine
end

