-- ==== Sys2Proof/Machine/Clock.lean ====
section
/-! DEFINITION. The passing of time: what an idle step does (log 2). -/

namespace Sys2Proof.Machine

/-- A running timer falls by 0.01 s. -/
def fall (t : Option Time) : Option Time := t.map (fun x => x - 1)

/-- R153: the deadline of an entry falls, except in SUSPENDED, where the deferral clock is paused. -/
def Entry.fall (e : Entry) : Entry :=
  if e.state = .suspended then e else { e with deadline := Sys2Proof.Machine.fall e.deadline }

/-- The clock goes on by 0.01 s, and with it every timer that runs; held in the reset, the clock alone. -/
def State.tick (s : State) : State :=
  if s.heldInReset then { s with now := s.now + 1 }
  else { s with
    now := s.now + 1
    restartTimer := fall s.restartTimer
    gatheringTimer := fall s.gatheringTimer
    ports := s.ports.map (fun q => { q with silenceTimer := fall q.silenceTimer })
    entries := s.entries.map Entry.fall
    programmes := s.programmes.map (fun p => { p with waiting := fall p.waiting }) }

/-- The expiry that an entry's deadline at 0.00 makes, by the state of the entry (R93). -/
def State.entryExpiry (s : State) (e : Entry) : Option Instr :=
  if e.due then
    match e.state with
    | .queued | .deferred => some (.deferralClockExpiry e.ticket)
    | .evaluating =>
      match s.evaluation with
      | some v => if v.ticket = e.ticket ∧ v.expired = false then some (.deferralClockExpiry e.ticket) else none
      | none => none
    | .released | .revoking => some (.startWindowExpiry e.ticket)
    | .travelling => some (.travelDeadlineExpiry e.ticket)
    | .suspended | .settling => none
  else none

/-- The port whose silence timer has run out first in order of number (R170). -/
def State.silentPort (s : State) : Option Nat :=
  (List.range Config.nPorts).find? (fun p =>
    (s.port p).state == .active && (s.port p).silenceTimer == some 0)

/-- The first expiry that is due: restart, gathering, silence by port, entries by ticket, programmes (log 2). -/
def State.firstDue (s : State) : Option Instr :=
  if s.mode = .restarting ∧ s.restartTimer = some 0 then some .restartTimerExpiry
  else if s.mode = .gathering ∧ s.gatheringTimer = some 0 then some .gatheringTimerExpiry
  else match s.silentPort with
    | some p => some (.portLoss p)
    | none =>
      match s.entries.findSome? s.entryExpiry with
      | some c => some c
      | none => (s.programmes.find? (fun p => p.waiting == some 0)).map (fun p => .waitingRemainingExpiry p.ticket)

end Sys2Proof.Machine
end

