-- ==== Sys2Proof/Machine/Freeze.lean ====
section
/-! DEFINITION. FREEZE and THAW (08). -/

namespace Sys2Proof.Machine

/-- R150: what a FREEZE does to one live entry. -/
def State.freezeEntry (s : State) (e : Entry) : State :=
  if s.heldBack e then
    match e.state with
    | .queued | .deferred => s.modEntry e.ticket (fun x => { x with state := .suspended })
    | .released =>
      (s.sendRevoke e).modEntry e.ticket (fun x => { x with state := .revoking, flavour := some .freeze })
    | .evaluating | .suspended | .revoking | .travelling | .settling => s
  else s

/-- R149, R150: a FREEZE taken in SERVICE: the mode, the entries, and the condition of FROZEN. -/
def State.freezeYard (s : State) : State :=
  (s.entries.foldl State.freezeEntry (s.changeMode .freezing)).testFrozen

/-- R149: FREEZE. -/
def State.freeze (s : State) : State × Reply :=
  if s.mode.isFreeze then (s, .code .already)
  else
    let s1 := s.freezeYard
    (s1, .now .done (put8 s1.mode.code))

/-- R157: the tickets of the SUSPENDED entries. That a THAW takes them in ascending order is the model's choice (log 33). -/
def State.suspendedTickets (s : State) : List Nat :=
  (s.entries.filter (fun e => e.state == .suspended)).map Entry.ticket

/-- R157: a THAW taken: the mode, and every SUSPENDED entry becomes QUEUED or ends REFUSED(PORT_MUTED). -/
def State.thawYard (s : State) : State := (s.changeMode .service).run (s.suspendedTickets.map .enqueue)

/-- R157: THAW. -/
def State.thaw (s : State) : State × Reply :=
  if s.mode.isFreeze then (s.thawYard, .code .done) else (s, .code .already)

/-- FREEZE (R149). -/
def execFreeze (port : Nat) (s : State) : Host.Outcome State Fault Refusal :=
  .next (s.whenRunning (fun s0 => s0.request port .freeze decodeEmpty (fun _ _ s1 => s1.freeze)))

/-- THAW (R157). -/
def execThaw (port : Nat) (s : State) : Host.Outcome State Fault Refusal :=
  .next (s.whenRunning (fun s0 => s0.request port .thaw decodeEmpty (fun _ _ s1 => s1.thaw)))

end Sys2Proof.Machine
end

