-- ==== Sys2Proof/Machine/ImageRequests.lean ====
section
/-! DEFINITION. The requests of the yard image (01): POSITION REPORT, SUBSTITUTE, END SUBSTITUTION and ACKNOWLEDGE
BLOCK. -/

namespace Sys2Proof.Machine

/-! ### POSITION REPORT (R7) -/

/-- R7, R187: the fields of the answer, absent ones as zero and FFh. -/
def ReportResult.fields (r : ReportResult) : List Byte :=
  match r.refused with
  | none => put8 r.applied ++ put8 0 ++ put8 0xFF
  | some (i, c) => put8 r.applied ++ put8 i ++ put8 c.code

/-- R7: the code of the answer. -/
def ReportResult.code (r : ReportResult) : AnswerCode :=
  match r.refused with
  | none => .done
  | some (_, c) => c

/-- R7: POSITION REPORT. -/
def State.positionReport (p : Nat) (items : List ReportItem) (s : State) : State × Reply :=
  let x := s.applyItems p items 1 { applied := 0, refused := none }
  (x.1, .now x.2.code x.2.fields)

/-! ### Substitutions (R15, R16) -/

/-- R15, check 3: the target is an apparatus whose live movement ticket is present. -/
def State.engagedTarget (s : State) : RecordId → Bool
  | .apparatus a => s.engaged a
  | .node _ => false

/-- R15: the first of checks 1 to 4 that fails, in order. -/
def State.substituteCheck (s : State) (id : RecordId) (v : SubstValue) : Option AnswerCode :=
  if s.substitutable id = false then some .unknownTarget
  else if SubstValue.fits v id = false then some .outOfRange
  else if s.engagedTarget id then some .engaged
  else if s.substStands id = false ∧ s.substCount ≥ Config.maxSubsts then some .tableFull
  else none

/-- R15: SUBSTITUTE. -/
def State.substitute (p : Nat) (x : RecordId × SubstValue) (s : State) : State × Reply :=
  match s.substituteCheck x.1 x.2 with
  | some c => (s, .code c)
  | none =>
    match s.changeSubst x.1 (some x.2) p with
    | .applied s1 => (s1, .code .done)
    | .heldFull => (s, .code .heldFull)

/-- R16: END SUBSTITUTION. -/
def State.endSubstitution (p : Nat) (id : RecordId) (s : State) : State × Reply :=
  if s.substitutable id = false then (s, .code .unknownTarget)
  else if s.substStands id = false then (s, .code .notApplicable)
  else
    match s.changeSubst id none p with
    | .applied s1 => (s1, .code .done)
    | .heldFull => (s, .code .heldFull)

/-! ### ACKNOWLEDGE BLOCK (R19) -/

/-- R19: the record with a condition's latched flag cleared. -/
def AppLive.acknowledged (r : AppLive) (c : Condition) : AppLive := { r with latched := r.latched.cleared c }

/-- R19: ACKNOWLEDGE BLOCK. -/
def State.acknowledge (x : Nat × Condition × BitVec 8) (s : State) : State × Reply :=
  match s.appDesc x.1, s.app x.1 with
  | some _, some r =>
    if r.latched.get x.2.1 = false then (s, .code .notApplicable)
    else if r.present.get x.2.1 then (s, .code .stillPresent)
    else if r.latchNumbers.get x.2.1 ≠ x.2.2 then (s, .code .staleAck)
    else ((s.modApp x.1 (fun y => y.acknowledged x.2.1)).run [.reoffer], .code .done)
  | _, _ => (s, .code .unknownApparatus)

/-! ### The commands -/

/-- POSITION_REPORT (R7). -/
def execPositionReport (port : Nat) (s : State) : Host.Outcome State Fault Refusal :=
  .next (s.whenRunning (fun s0 =>
    s0.request port .positionReport decodeReport (fun x _ s1 => s1.positionReport port x)))

/-- SUBSTITUTE (R15). -/
def execSubstitute (port : Nat) (s : State) : Host.Outcome State Fault Refusal :=
  .next (s.whenRunning (fun s0 =>
    s0.request port .substitute decodeSubstitute (fun x _ s1 => s1.substitute port x)))

/-- END_SUBSTITUTION (R16). -/
def execEndSubstitution (port : Nat) (s : State) : Host.Outcome State Fault Refusal :=
  .next (s.whenRunning (fun s0 =>
    s0.request port .endSubstitution decodeEndSubstitution (fun x _ s1 => s1.endSubstitution port x)))

/-- ACKNOWLEDGE_BLOCK (R19). -/
def execAcknowledgeBlock (port : Nat) (s : State) : Host.Outcome State Fault Refusal :=
  .next (s.whenRunning (fun s0 =>
    s0.request port .acknowledgeBlock decodeAcknowledge (fun x _ s1 => s1.acknowledge x)))

end Sys2Proof.Machine
end

