-- ==== Sys2Proof/Machine/Line.lean ====
section
/-! DEFINITION. The commands of the link ports: frames received, sent and of unknown kind, KEEPALIVE, SET PORT PRIORITY,
and the queries (09). -/

namespace Sys2Proof.Machine

/-- FRAME_RECEIVED (R161). -/
def execFrameReceived (port : Nat) (bytes : List Byte) (framingError : Bool) (s : State) :
    Host.Outcome State Fault Refusal :=
  .next (s.whenRunning (fun s0 => s0.receive port bytes framingError))

/-- FRAME_SENT (R166). -/
def execFrameSent (port : Nat) (s : State) : Host.Outcome State Fault Refusal :=
  .next (s.whenRunning (fun s0 => s0.sent port))

/-- UNKNOWN_KIND_FRAME (R187). -/
def execUnknownKindFrame (port : Nat) (s : State) : Host.Outcome State Fault Refusal :=
  .next (s.whenRunning (fun s0 => s0.unknownKind port))

/-- KEEPALIVE (R175): answered DONE with the mode. -/
def execKeepalive (port : Nat) (s : State) : Host.Outcome State Fault Refusal :=
  .next (s.whenRunning (fun s0 =>
    s0.request port .keepalive decodeEmpty (fun _ _ s1 => (s1, .now .done (put8 s1.mode.code)))))

/-- SET_PORT_PRIORITY (R74). -/
def execSetPortPriority (port : Nat) (s : State) : Host.Outcome State Fault Refusal :=
  .next (s.whenRunning (fun s0 =>
    s0.request port .setPortPriority decodePriority (fun x _ s1 => s1.setPriority x.1 x.2)))

/-- QUERY_APPARATUS (R173). -/
def execQueryApparatus (port : Nat) (s : State) : Host.Outcome State Fault Refusal :=
  .next (s.whenRunning (fun s0 =>
    s0.request port .queryApparatus decodeNumber16 (fun x _ s1 => (s1, s1.queryApparatus x))))

/-- QUERY_NODE (R173). -/
def execQueryNode (port : Nat) (s : State) : Host.Outcome State Fault Refusal :=
  .next (s.whenRunning (fun s0 =>
    s0.request port .queryNode decodeNumber8 (fun x _ s1 => (s1, s1.queryNode x))))

/-- QUERY_MOVEMENT (R174). -/
def execQueryMovement (port : Nat) (s : State) : Host.Outcome State Fault Refusal :=
  .next (s.whenRunning (fun s0 =>
    s0.request port .queryMovement decodeNumber16 (fun x _ s1 => (s1, s1.queryMovement x))))

/-- QUERY_PROGRAMME (R174). -/
def execQueryProgramme (port : Nat) (s : State) : Host.Outcome State Fault Refusal :=
  .next (s.whenRunning (fun s0 =>
    s0.request port .queryProgramme decodeNumber16 (fun x _ s1 => (s1, s1.queryProgramme x))))

/-- QUERY_ENGINE (R175). -/
def execQueryEngine (port : Nat) (s : State) : Host.Outcome State Fault Refusal :=
  .next (s.whenRunning (fun s0 =>
    s0.request port .queryEngine decodeEmpty (fun _ _ s1 => (s1, .now .done (putEngine s1)))))

end Sys2Proof.Machine
end

