-- ==== Sys2Proof/Machine/Maintenance.lean ====
section
/-! DEFINITION. MAINTENANCE (10.3, 10.4): ENTER and LEAVE MAINTENANCE, the six operations of LOAD YARD, COMMIT YARD with
its validation, and RESTART. -/

namespace Sys2Proof.Machine

/-! ### ENTER MAINTENANCE (R181, R48) -/

/-- R48, R160, R181: ENTER MAINTENANCE taken. -/
def State.enterMaintenance (s : State) : State :=
  State.changeMode
    { s with pass := none, spoils := 0, held := [], freezeCarried := s.freezeCarried || s.mode == .frozen } .maintenance

/-- R181: ENTER MAINTENANCE. -/
def State.enter (s : State) : State × Reply :=
  if s.entries.isEmpty && s.programmes.isEmpty then (s.enterMaintenance, .code .done) else (s, .code .engaged)

/-! ### LEAVE MAINTENANCE (R184) -/

/-- R163, R162: the request of port `p` in progress once its lists have been emptied: its answer is still sent (log 9). -/
def InProgress.detached (r : InProgress) : InProgress := { r with inList := false }

/-- R162, R74: a port at LEAVE MAINTENANCE; `asking` for the port whose LEAVE MAINTENANCE this is, whose request stays in
progress whatever role the port takes. -/
def Port.leave (q : Port) (d : PortDesc) (asking : Bool) : Port :=
  let r := q.takeRole d
  { r with
    priority := d.defaultPriority
    inProgress := if asking && q.role != d.role then q.inProgress.map InProgress.detached else r.inProgress }

/-- R162: the ports at LEAVE MAINTENANCE, numbered from `i`. -/
def leavePorts (asking : Nat) : Nat → List Port → List PortDesc → List Port
  | i, q :: qs, d :: ds => q.leave d (i == asking) :: leavePorts asking (i + 1) qs ds
  | _, _, _ => []

/-- The ports whose role in force changes (R162). -/
def State.roleChanged (s : State) (p : Nat) : Bool :=
  match s.store.ports[p]? with
  | some d => (s.port p).role != d.role
  | none => false

/-- R162, R163, R185: requests of ports whose lists are emptied are answered no more; with a RESTART among them the
commanded reset falls due (log 9). -/
def State.dropChanged (s : State) : State :=
  let ps := (List.range Config.nPorts).filter s.roleChanged
  ps.foldl State.dropRequester { s with commandedDue := s.commandedDue || ps.any (fun p => (s.port p).restarting) }

/-- R28, R50, R162, R184: LEAVE MAINTENANCE taken from port `p`. -/
def State.leaveMaintenance (s : State) (p : Nat) : State :=
  let s1 := s.dropChanged
  State.beginGathering
    { s1 with
      force := s.store
      ports := leavePorts p 0 s.ports s.store.ports
      apps := (s.appsOf s.store true).map (AppLive.clearWritten s.written)
      nodes := nodesOf s.store
      substs := []
      held := []
      written := []
      published := Colouring.start
      spoils := 0 }

/-- R184: LEAVE MAINTENANCE. -/
def State.leave (p : Nat) (s : State) : State × Reply :=
  if s.verified = false ∨ s.validation.isSome then (s, .code .unverified)
  else (s.leaveMaintenance p, .code .done)

/-! ### LOAD YARD (R182) -/

/-- A field clamped into a range. -/
def clamp (lo hi x : Nat) : Nat := max lo (min hi x)

/-- R182: a port number, or FFh for an absent reporting port. -/
def reportingPortOk (p : Nat) : Bool := decide (p < Config.nPorts) || p == 0xFF

/-- R182: the structural fields of a node record. -/
def nodeFieldsOk (number port : Nat) : Bool := decide (1 ≤ number ∧ number ≤ 255) && reportingPortOk port

/-- R182: the node record stored: an unmeasured node stores no reporting port, FFh is absent. -/
def nodeRecord (number : Nat) (kind : NodeKind) (measured : Bool) (port : Nat) : NodeDesc :=
  { number := number, kind := kind, measured := measured
    port := if measured ∧ port ≠ 0xFF then some port else none }

/-- R182: an apparatus number. -/
def appNumberOk (n : Nat) : Bool := decide (1 ≤ n ∧ n ≤ 512)

/-- R182: the structural fields of an apparatus record. -/
def appFieldsOk (d : AppDesc) : Bool :=
  appNumberOk d.number && decide (d.a ≤ 255 ∧ d.b ≤ 255 ∧ d.port < Config.nPorts)

/-- R182: an apparatus record clamped: start window 0.50–30.00 s, travel limit 1.00–300.00 s. -/
def AppDesc.clamped (d : AppDesc) : AppDesc :=
  { d with startWindow := clamp 50 3000 d.startWindow, travelLimit := clamp 100 30000 d.travelLimit }

/-- R182: a port record clamped: default priority 0–15, silence limit 1.00–60.00 s. -/
def PortDesc.clamped (d : PortDesc) : PortDesc :=
  { d with defaultPriority := clamp 0 15 d.defaultPriority, silenceLimit := clamp 100 6000 d.silenceLimit }

/-- R182: the settings record clamped. -/
def Settings.clamped (x : Settings) : Settings :=
  { liveThreshold := clamp 300 900 x.liveThreshold
    deadThreshold := clamp 50 250 x.deadThreshold
    confirmCount := clamp 1 8 x.confirmCount
    settleLimit := clamp 10 1000 x.settleLimit
    deferralLimit := clamp 0 12000 x.deferralLimit
    gatheringLimit := clamp 1000 12000 x.gatheringLimit }

/-- R182, R183: the mark becomes unverified, and a validation in progress is disturbed. -/
def State.unverify (s : State) : State :=
  { s with verified := false, validation := s.validation.map (fun v => { v with disturbed := true }) }

/-- R182: an apparatus number joins the written list, if it is not there. -/
def State.addWritten (s : State) (a : Nat) : State :=
  if s.written.contains a then s else { s with written := s.written ++ [a] }

/-- R182: CLAMPED when a field was clamped, DONE otherwise. -/
def loadCode (clamped : Bool) : Reply := .code (if clamped then .clamped else .done)

/-- R182: write node. -/
def State.writeNode (s : State) (number : Nat) (kind : NodeKind) (measured : Bool) (port : Nat) : State × Reply :=
  if nodeFieldsOk number port then
    (State.unverify
      { s with store := { s.store with
          nodes := putBy NodeDesc.number (nodeRecord number kind measured port) s.store.nodes } }, loadCode false)
  else (s, .code .outOfRange)

/-- R182: remove node. -/
def State.removeNode (s : State) (number : Nat) : State × Reply :=
  if number = 0 ∨ number > 255 then (s, .code .outOfRange)
  else if s.store.nodes.any (fun d => d.number == number) then
    (State.unverify
      { s with store := { s.store with nodes := s.store.nodes.filter (fun d => d.number ≠ number) } }, loadCode false)
  else (s, .code .notApplicable)

/-- R182: write apparatus. -/
def State.writeApparatus (s : State) (d : AppDesc) : State × Reply :=
  if appFieldsOk d then
    (State.addWritten (State.unverify
      { s with store := { s.store with
          apparatus := putBy AppDesc.number (AppDesc.clamped d) s.store.apparatus } }) d.number,
      loadCode (AppDesc.clamped d != d))
  else (s, .code .outOfRange)

/-- R182: remove apparatus. -/
def State.removeApparatus (s : State) (number : Nat) : State × Reply :=
  if appNumberOk number = false then (s, .code .outOfRange)
  else if s.store.apparatus.any (fun d => d.number == number) then
    (State.addWritten (State.unverify
      { s with store := { s.store with
          apparatus := s.store.apparatus.filter (fun d => d.number ≠ number) } }) number, loadCode false)
  else (s, .code .notApplicable)

/-- R182: write port. -/
def State.writePort (s : State) (p : Nat) (d : PortDesc) : State × Reply :=
  if p < Config.nPorts then
    (State.unverify { s with store := { s.store with ports := s.store.ports.set p (PortDesc.clamped d) } },
      loadCode (PortDesc.clamped d != d))
  else (s, .code .outOfRange)

/-- R182: write settings. -/
def State.writeSettings (s : State) (x : Settings) : State × Reply :=
  (State.unverify { s with store := { s.store with settings := Settings.clamped x } }, loadCode (Settings.clamped x != x))

/-- R182: one operation of LOAD YARD. -/
def State.loadYard (op : YardOp) (s : State) : State × Reply :=
  match op with
  | .writeNode n k m p => s.writeNode n k m p
  | .removeNode n => s.removeNode n
  | .writeApparatus d => s.writeApparatus d
  | .removeApparatus n => s.removeApparatus n
  | .writePort p d => s.writePort p d
  | .writeSettings x => s.writeSettings x

/-- R182: port `p` takes a LOAD YARD request whose operation is `op`. A frame of no known operation is taken by each of
the six commands and answered MALFORMED (R164, R186, log 10). -/
def State.loadRequest (s : State) (p op : Nat) : State :=
  s.takeFrame p
    (fun f => f.isKind .loadYard && (yardOperation f.body == some op || (yardOperation f.body).isNone))
    (· + 0x80#8) (State.checked p .loadYard decodeYard (fun x _ s1 => s1.loadYard x))

/-! ### COMMIT YARD (R183) -/

/-- R183: a validation begins at port record 0; while one is in progress a second is NOT_APPLICABLE. -/
def State.commit (p : Nat) (f : Frame) (s : State) : State × Reply :=
  if s.validation.isSome then (s, .code .notApplicable)
  else ({ s with validation := some { cursor := .ports 0, failure := none, disturbed := false
                                      requester := some { port := p, kind := f.kind, tag := f.tag } } }, .later)

/-- R183: the port is a BAY port of the stored description. -/
def State.storedBay (s : State) (p : Nat) : Bool :=
  match s.store.ports[p]? with
  | some d => d.role == .bay
  | none => false

/-- R183: the stored description has a node record of the number. -/
def State.storedNode (s : State) (n : Nat) : Bool := s.store.nodes.any (fun d => d.number == n)

/-- R183: the stored description has an apparatus record of the number. -/
def State.storedApparatus (s : State) (a : Nat) : Bool := s.store.apparatus.any (fun d => d.number == a)

/-- R183: the checks of a node record, in the table's order. -/
def State.checkNode (s : State) (d : NodeDesc) : Option FailReason :=
  if d.kind = .terminal ∧ d.measured = false then some .unmeasuredTerminal
  else if d.measured ∧ (match d.port with | some p => s.storedBay p | none => false) = false then some .notBayPort
  else none

/-- R183: the terminal rules of an apparatus record. -/
def AppDesc.terminalsOk (d : AppDesc) : Bool :=
  (match d.kind with
   | .earthSwitch => d.b == 0
   | .breaker | .disconnector => d.a != 0 && d.b != 0) && d.a != d.b

/-- R183: the checks of an apparatus record, in the table's order. -/
def State.checkApparatus (s : State) (d : AppDesc) : Option FailReason :=
  if s.storedNode d.a = false ∨ (d.b ≠ 0 ∧ s.storedNode d.b = false) then some .undeclaredNode
  else if AppDesc.terminalsOk d = false then some .terminalRule
  else if s.storedBay d.port = false then some .notBayPort
  else none

/-- R183: the check of a restriction. -/
def State.checkRestriction (s : State) (r : Restriction) : Option FailReason :=
  if (match r.kind with
      | .workZone => s.storedNode r.target
      | .locked | .holdOpen | .holdClosed | .inspect => s.storedApparatus r.target) then none
  else some .unknownTarget

/-- R183: a record that a validation checks. -/
inductive CheckedRecord where
  | port (n : Nat)
  | node (d : NodeDesc)
  | apparatus (d : AppDesc)
  | restriction (r : Restriction)
  deriving DecidableEq, Repr

/-- R183: the next restriction above an id. -/
def State.restrictionAbove (s : State) (i : Nat) : Option CheckedRecord :=
  (s.restrictions.find? (fun r => decide (i < r.id))).map .restriction

/-- R183: the next apparatus record above a number, or the first restriction. -/
def State.apparatusAbove (s : State) (a : Nat) : Option CheckedRecord :=
  match s.store.apparatus.find? (fun d => decide (a < d.number)) with
  | some d => some (.apparatus d)
  | none => s.restrictionAbove 0

/-- R183: the next node record above a number, or what follows the node records. -/
def State.nodeAbove (s : State) (n : Nat) : Option CheckedRecord :=
  match s.store.nodes.find? (fun d => decide (n < d.number)) with
  | some d => some (.node d)
  | none => s.apparatusAbove 0

/-- R183: the record that a validation checks next: ports 0 to 23, nodes, apparatus, restrictions. -/
def State.nextRecord (s : State) : Cursor → Option CheckedRecord
  | .ports n => if n < Config.nPorts then some (.port n) else s.nodeAbove 0
  | .nodes n => s.nodeAbove n
  | .apparatus a => s.apparatusAbove a
  | .restrictions i => s.restrictionAbove i

/-- R183: where a validation stands after a record. -/
def CheckedRecord.cursor : CheckedRecord → Cursor
  | .port n => .ports (n + 1)
  | .node d => .nodes d.number
  | .apparatus d => .apparatus d.number
  | .restriction r => .restrictions r.id

/-- R183: the failure of a record. Port records are judged together at port 23. -/
def State.failureOf (s : State) : CheckedRecord → Option Failure
  | .port n =>
    if n = 23 ∧ !s.store.ports.any (fun d => d.role == .supervisory) then
      some { kind := .port, number := 23, reason := .noSupervisoryPort }
    else none
  | .node d => (s.checkNode d).map (fun x => { kind := .node, number := d.number, reason := x })
  | .apparatus d => (s.checkApparatus d).map (fun x => { kind := .apparatus, number := d.number, reason := x })
  | .restriction r => (s.checkRestriction r).map (fun x => { kind := .restriction, number := r.id, reason := x })

/-- R183: the validation in progress checks its next record; after a failure there is none. -/
def State.checkRecord (s : State) : State :=
  match s.validation with
  | none => s
  | some v =>
    if v.failure.isSome then s
    else match s.nextRecord v.cursor with
      | none => s
      | some r => { s with validation := some { v with cursor := r.cursor, failure := s.failureOf r } }

/-- R183: the answer of a validation that ends. -/
def Validation.answer (v : Validation) : AnswerCode × List Byte :=
  if v.disturbed then (.unverified, [])
  else match v.failure with
    | some x => (.invalidDescription, put8 x.kind.code ++ put16 x.number ++ put8 x.reason.code)
    | none => (.done, [])

/-- R183: the validation has met a failure or checked every record. -/
def State.validated (s : State) (v : Validation) : Bool := v.failure.isSome || (s.nextRecord v.cursor).isNone

/-- R183: the validation ends: the mark becomes verified when it passed undisturbed, and COMMIT YARD is answered. A failing
validation leaves the mark unverified, even if it was verified before (log 24). -/
def State.validationComplete (s : State) : State :=
  match s.validation with
  | none => s
  | some v =>
    if s.validated v then
      State.answerRequester
        { s with validation := none, verified := !v.disturbed && v.failure.isNone }
        v.requester v.answer.1 v.answer.2
    else s

/-! ### RESTART (R185) -/

/-- R185: RESTART is answered DONE; the request stays in progress, and its reset follows the answer's last byte. -/
def State.restart (p : Nat) (s : State) : State × Reply :=
  (s.modPort p (fun q => { q with inProgress := q.inProgress.map (fun r => { r with restart := true }) }), .code .done)

/-! ### The commands -/

/-- ENTER_MAINTENANCE (R181). -/
def execEnterMaintenance (port : Nat) (s : State) : Host.Outcome State Fault Refusal :=
  .next (s.whenRunning (fun s0 => s0.request port .enterMaintenance decodeEmpty (fun _ _ s1 => s1.enter)))

/-- LEAVE_MAINTENANCE (R184). -/
def execLeaveMaintenance (port : Nat) (s : State) : Host.Outcome State Fault Refusal :=
  .next (s.whenRunning (fun s0 => s0.request port .leaveMaintenance decodeEmpty (fun _ _ s1 => s1.leave port)))

/-- WRITE_NODE (R182). -/
def execWriteNode (port : Nat) (s : State) : Host.Outcome State Fault Refusal :=
  .next (s.whenRunning (fun s0 => s0.loadRequest port 0x01))

/-- REMOVE_NODE (R182). -/
def execRemoveNode (port : Nat) (s : State) : Host.Outcome State Fault Refusal :=
  .next (s.whenRunning (fun s0 => s0.loadRequest port 0x02))

/-- WRITE_APPARATUS (R182). -/
def execWriteApparatus (port : Nat) (s : State) : Host.Outcome State Fault Refusal :=
  .next (s.whenRunning (fun s0 => s0.loadRequest port 0x03))

/-- REMOVE_APPARATUS (R182). -/
def execRemoveApparatus (port : Nat) (s : State) : Host.Outcome State Fault Refusal :=
  .next (s.whenRunning (fun s0 => s0.loadRequest port 0x04))

/-- WRITE_PORT (R182). -/
def execWritePort (port : Nat) (s : State) : Host.Outcome State Fault Refusal :=
  .next (s.whenRunning (fun s0 => s0.loadRequest port 0x05))

/-- WRITE_SETTINGS (R182). -/
def execWriteSettings (port : Nat) (s : State) : Host.Outcome State Fault Refusal :=
  .next (s.whenRunning (fun s0 => s0.loadRequest port 0x06))

/-- COMMIT_YARD (R183). -/
def execCommitYard (port : Nat) (s : State) : Host.Outcome State Fault Refusal :=
  .next (s.whenRunning (fun s0 => s0.request port .commitYard decodeEmpty (fun _ f s1 => s1.commit port f)))

/-- VALIDATION_RECORD_CHECK (R183). -/
def execValidationRecordCheck (s : State) : Host.Outcome State Fault Refusal :=
  .next (s.whenRunning State.checkRecord)

/-- VALIDATION_COMPLETE (R183). -/
def execValidationComplete (s : State) : Host.Outcome State Fault Refusal :=
  .next (s.whenRunning State.validationComplete)

/-- RESTART (R185). -/
def execRestart (port : Nat) (s : State) : Host.Outcome State Fault Refusal :=
  .next (s.whenRunning (fun s0 => s0.request port .restart decodeEmpty (fun _ _ s1 => s1.restart port)))

end Sys2Proof.Machine
end

