-- ==== Sys2Proof/Machine/Restrictions.lean ====
section
/-! DEFINITION. The requests of the restriction table (07) and the end of its storage writes (R137). -/

namespace Sys2Proof.Machine

/-- The request of a frame taken on a port, whose answer will come later (R163). -/
def Frame.requester (f : Frame) (p : Nat) : Requester := { port := p, kind := f.kind, tag := f.tag }

/-- R138, check 2: the target of a kind is described. -/
def State.restrictable (s : State) (k : RestrictionKind) (target : Nat) : Bool :=
  match k with
  | .workZone => (s.nodeDesc target).isSome && target != 0
  | .locked | .holdOpen | .holdClosed | .inspect => (s.appDesc target).isSome

/-- R138, check 3: a standing restriction has the same kind, target and permit label. -/
def State.duplicated (s : State) (k : RestrictionKind) (target label : Nat) : Bool :=
  s.restrictions.any (fun r => r.kind == k && r.target == target && r.label == label)

/-- R138: the first check that fails, in the table's order. -/
def State.placeCheck (s : State) (k : RestrictionKind) (target label : Nat) : Option AnswerCode :=
  if k = .inspect then some .outOfRange
  else if s.restrictable k target = false then some .unknownTarget
  else if s.duplicated k target label then some .duplicate
  else if s.restrictions.length ≥ Config.maxRestrictions then some .tableFull
  else none

/-- R136, R138: the restriction made for a request. -/
def newRestriction (i : Nat) (k : RestrictionKind) (target p label : Nat) : Restriction :=
  { id := i, kind := k, target := target, port := some p, label := label, count := none }

/-- R138, R139: PLACE RESTRICTION. Its answer comes when its write is complete (R137). -/
def State.placeRestriction (p : Nat) (x : RestrictionKind × Nat × Nat) (f : Frame) (s : State) : State × Reply :=
  match s.placeCheck x.1 x.2.1 x.2.2 with
  | some c => (s, .code c)
  | none =>
    match s.freeId with
    | none => (s, .code .tableFull)
    | some i =>
      let r := newRestriction i x.1 x.2.1 p x.2.2
      let s1 := s.changeTable (.put r) (some (Frame.requester f p))
      (s1.run ((s1.releasedForbidden r).map .blockEnd), .later)

/-- R140, R141: LIFT RESTRICTION. Its answer comes when its write is complete (R137). -/
def State.liftRestriction (p i : Nat) (f : Frame) (s : State) : State × Reply :=
  if i = 0 ∨ i > Config.maxRestrictions then (s, .code .outOfRange)
  else if s.restrictions.any (fun r => r.id == i) then
    ((s.changeTable (.remove i) (some (Frame.requester f p))).run [.reoffer], .later)
  else (s, .code .notApplicable)

/-- R145: LIFT INSPECT OVERFLOW. -/
def State.liftOverflow (a : Nat) (s : State) : State × Reply :=
  if (s.appDesc a).isNone then (s, .code .unknownApparatus)
  else if s.overflowMark a then
    ((s.modApp a (fun r => { r with overflow := false })).run [.reoffer], .code .done)
  else (s, .code .notApplicable)

/-- R138: the fields of the answer to a request whose write is complete: a placing carries its id. -/
def TableChange.fields : TableChange → List Byte
  | .put r => put8 r.id
  | .remove _ => []

/-- R137: the write in progress is complete: the storage takes it, its request is answered, and the next begins. -/
def State.writeComplete (s : State) : State :=
  match s.writes with
  | [] => s
  | w :: rest =>
    State.answerRequester { s with stored := w.change.apply s.stored, writes := rest } w.requester .done w.change.fields

/-! ### The commands -/

/-- PLACE_RESTRICTION (R138). -/
def execPlaceRestriction (port : Nat) (s : State) : Host.Outcome State Fault Refusal :=
  .next (s.whenRunning (fun s0 =>
    s0.request port .placeRestriction decodePlace (fun x f s1 => s1.placeRestriction port x f)))

/-- LIFT_RESTRICTION (R140). -/
def execLiftRestriction (port : Nat) (s : State) : Host.Outcome State Fault Refusal :=
  .next (s.whenRunning (fun s0 =>
    s0.request port .liftRestriction decodeNumber8 (fun x f s1 => s1.liftRestriction port x f)))

/-- QUERY_RESTRICTIONS (R146). -/
def execQueryRestrictions (port : Nat) (s : State) : Host.Outcome State Fault Refusal :=
  .next (s.whenRunning (fun s0 =>
    s0.request port .queryRestrictions decodeNumber8 (fun x _ s1 => (s1, s1.queryRestrictions x))))

/-- LIFT_INSPECT_OVERFLOW (R145). -/
def execLiftInspectOverflow (port : Nat) (s : State) : Host.Outcome State Fault Refusal :=
  .next (s.whenRunning (fun s0 =>
    s0.request port .liftInspectOverflow decodeNumber16 (fun x _ s1 => s1.liftOverflow x)))

/-- RESTRICTION_WRITE_COMPLETE (R137). -/
def execRestrictionWriteComplete (s : State) : Host.Outcome State Fault Refusal :=
  .next (s.whenRunning State.writeComplete)

end Sys2Proof.Machine
end

