-- ==== Sys2Proof/Machine/Units.lean ====
section
/-! DEFINITION. The commands of the topology unit, the arbiter and the evaluator (02, 03, 04): their steps. -/

namespace Sys2Proof.Machine

/-- PASS_TAKE_UP (R36). -/
def execPassTakeUp (s : State) : Host.Outcome State Fault Refusal := .next (s.whenRunning State.takeUp)

/-- PUBLICATION (R43). -/
def execPublication (s : State) : Host.Outcome State Fault Refusal := .next (s.whenRunning State.ordinaryPublication)

/-- END_OF_HELD_PASS (R46). -/
def execEndOfHeldPass (s : State) : Host.Outcome State Fault Refusal := .next (s.whenRunning State.heldPassEnd)

/-- GRANT (R78). -/
def execGrant (s : State) : Host.Outcome State Fault Refusal := .next (s.whenRunning State.grant)

/-- PREDICATE_CHECK (R55). -/
def execPredicateCheck (s : State) : Host.Outcome State Fault Refusal := .next (s.whenRunning State.predicateCheck)

/-- BYPASS_SEARCH_STEP (R65). -/
def execBypassSearchStep (s : State) : Host.Outcome State Fault Refusal := .next (s.whenRunning State.bypassSearch)

/-- STUB_SEARCH_STEP (R66). -/
def execStubSearchStep (s : State) : Host.Outcome State Fault Refusal := .next (s.whenRunning State.stubSearch)

/-- CLOSING_EVENT (R82). -/
def execClosingEvent (s : State) : Host.Outcome State Fault Refusal := .next (s.whenRunning State.closing)

end Sys2Proof.Machine
end

