-- ==== Sys2Proof/Machine/Dispatch.lean ====
section
/-! DEFINITION. The meaning of each command, one arm for each row of spec/opcode_table.json. -/

namespace Sys2Proof.Machine

def exec (i : Instr) (s : State) : Host.Outcome State Fault Refusal :=
  match i with
  | .frameReceived port bytes framingError => Sys2Proof.Machine.execFrameReceived port bytes framingError s
  | .frameSent port => Sys2Proof.Machine.execFrameSent port s
  | .unknownKindFrame port => Sys2Proof.Machine.execUnknownKindFrame port s
  | .positionReport port => Sys2Proof.Machine.execPositionReport port s
  | .moveRequest port => Sys2Proof.Machine.execMoveRequest port s
  | .programmeRequest port => Sys2Proof.Machine.execProgrammeRequest port s
  | .cancel port => Sys2Proof.Machine.execCancel port s
  | .amend port => Sys2Proof.Machine.execAmend port s
  | .extend port => Sys2Proof.Machine.execExtend port s
  | .revokeAnswer port => Sys2Proof.Machine.execRevokeAnswer port s
  | .queryApparatus port => Sys2Proof.Machine.execQueryApparatus port s
  | .queryNode port => Sys2Proof.Machine.execQueryNode port s
  | .queryMovement port => Sys2Proof.Machine.execQueryMovement port s
  | .queryProgramme port => Sys2Proof.Machine.execQueryProgramme port s
  | .queryEngine port => Sys2Proof.Machine.execQueryEngine port s
  | .keepalive port => Sys2Proof.Machine.execKeepalive port s
  | .placeRestriction port => Sys2Proof.Machine.execPlaceRestriction port s
  | .liftRestriction port => Sys2Proof.Machine.execLiftRestriction port s
  | .queryRestrictions port => Sys2Proof.Machine.execQueryRestrictions port s
  | .liftInspectOverflow port => Sys2Proof.Machine.execLiftInspectOverflow port s
  | .substitute port => Sys2Proof.Machine.execSubstitute port s
  | .endSubstitution port => Sys2Proof.Machine.execEndSubstitution port s
  | .acknowledgeBlock port => Sys2Proof.Machine.execAcknowledgeBlock port s
  | .setPortPriority port => Sys2Proof.Machine.execSetPortPriority port s
  | .freeze port => Sys2Proof.Machine.execFreeze port s
  | .thaw port => Sys2Proof.Machine.execThaw port s
  | .enterMaintenance port => Sys2Proof.Machine.execEnterMaintenance port s
  | .leaveMaintenance port => Sys2Proof.Machine.execLeaveMaintenance port s
  | .writeNode port => Sys2Proof.Machine.execWriteNode port s
  | .removeNode port => Sys2Proof.Machine.execRemoveNode port s
  | .writeApparatus port => Sys2Proof.Machine.execWriteApparatus port s
  | .removeApparatus port => Sys2Proof.Machine.execRemoveApparatus port s
  | .writePort port => Sys2Proof.Machine.execWritePort port s
  | .writeSettings port => Sys2Proof.Machine.execWriteSettings port s
  | .commitYard port => Sys2Proof.Machine.execCommitYard port s
  | .validationComplete => Sys2Proof.Machine.execValidationComplete s
  | .restart port => Sys2Proof.Machine.execRestart port s
  | .commanded => Sys2Proof.Machine.execCommanded s
  | .powerOn => Sys2Proof.Machine.execPowerOn s
  | .resetLine => Sys2Proof.Machine.execResetLine s
  | .restartTimerExpiry => Sys2Proof.Machine.execRestartTimerExpiry s
  | .gatheringTimerExpiry => Sys2Proof.Machine.execGatheringTimerExpiry s
  | .portLoss port => Sys2Proof.Machine.execPortLoss port s
  | .passTakeUp => Sys2Proof.Machine.execPassTakeUp s
  | .publication => Sys2Proof.Machine.execPublication s
  | .endOfHeldPass => Sys2Proof.Machine.execEndOfHeldPass s
  | .grant => Sys2Proof.Machine.execGrant s
  | .predicateCheck => Sys2Proof.Machine.execPredicateCheck s
  | .bypassSearchStep => Sys2Proof.Machine.execBypassSearchStep s
  | .stubSearchStep => Sys2Proof.Machine.execStubSearchStep s
  | .closingEvent => Sys2Proof.Machine.execClosingEvent s
  | .restrictionWriteComplete => Sys2Proof.Machine.execRestrictionWriteComplete s
  | .deferralClockExpiry ticket => Sys2Proof.Machine.execDeferralClockExpiry ticket s
  | .startWindowExpiry ticket => Sys2Proof.Machine.execStartWindowExpiry ticket s
  | .travelDeadlineExpiry ticket => Sys2Proof.Machine.execTravelDeadlineExpiry ticket s
  | .waitingRemainingExpiry ticket => Sys2Proof.Machine.execWaitingRemainingExpiry ticket s
  | .resetLineReleased => Sys2Proof.Machine.execResetLineReleased s
  | .supplyBelowWorkingLevel => Sys2Proof.Machine.execSupplyBelowWorkingLevel s
  | .validationRecordCheck => Sys2Proof.Machine.execValidationRecordCheck s

end Sys2Proof.Machine
end

