-- ==== Sys2Proof/Machine/Step.lean ====
section
/-! DEFINITION. One step: the command at the front of the queue, or what an idle engine does (log 2). -/

namespace Sys2Proof.Machine

/-- An idle step: the first expiry that is due, and otherwise 0.01 s of time. -/
def idle (s : State) : Host.Outcome State Fault Refusal :=
  if s.heldInReset then .next s.tick
  else match s.firstDue with
    | some c => exec c s
    | none => .next s.tick

/-- The engine takes the command at the front of its queue; with none waiting it idles. -/
def step (s : State) : Host.Outcome State Fault Refusal :=
  match s.pending with
  | c :: rest => exec c { s with pending := rest }
  | [] => idle s

/-- The command that a word spells, at the front of the queue. spec/opcode_table.json gives no row any bits, so no word
spells one and the state is unchanged (log 20). -/
def State.withFetchWord (s : State) (nbits w : Nat) : State :=
  match Sys2Proof.decodeTableWord nbits w with
  | some c => { s with pending := c :: s.pending }
  | none => s

end Sys2Proof.Machine
end

