-- ==== Sys2Proof/Safety.lean ====
section
/-! DEFINITION. The terms the statements use: what it is for a port to offer and to take a request, the state a request
that changes nothing leaves, what a retirement, an automatic INSPECT and a reset leave, and the laws that every step
keeps. -/

namespace Sys2Proof.Machine

/-! ### Requests -/

/-- Port `p` has a frame at the head of its inbound list that it may take now (R163, R171, R178). -/
structure State.Offers (s : State) (p : Nat) (f : Frame) : Prop where
  running : s.heldInReset = false
  listed : p < s.ports.length
  used : (s.port p).role ≠ .unused
  free : (s.port p).inProgress = none
  head : (s.port p).inbound.head? = some f

/-- Port `p` offers a request of kind `k` that its role may send and the mode takes (R165). -/
structure State.Takes (s : State) (p : Nat) (k : RequestKind) (f : Frame) : Prop extends State.Offers s p f where
  kind : f.isKind k = true
  role : (s.port p).role.maySend k = true
  mode : k.takenIn s.mode = true

/-- The request of a frame in progress (R163). -/
def Frame.started (f : Frame) : InProgress := { kind := f.kind, tag := f.tag, inList := true, restart := false }

/-- The answer to a frame of a request kind (R187). -/
def Frame.answer (f : Frame) (c : AnswerCode) (fields : List Byte) : Outgoing :=
  .answer (f.kind + 0x80#8) f.tag c fields

/-- The state in which nothing has changed but that port `p` has taken a request and answered it. -/
def State.answered (s : State) (p : Nat) (f : Frame) (c : AnswerCode) (fields : List Byte) : State :=
  s.modPort p (fun q =>
    { q with inProgress := some (Frame.started f), transmit := q.transmit ++ [Frame.answer f c fields] })

/-- The request of port `p` is answered in `t` after the frames that stood in its list in `s` (R166). -/
def State.answers (s t : State) (p : Nat) (f : Frame) (c : AnswerCode) (fields : List Byte) : Prop :=
  (t.port p).transmit[(s.port p).transmit.length]? = some (Frame.answer f c fields) ∧
  (t.port p).transmit.take (s.port p).transmit.length = (s.port p).transmit

/-- The commands that take a frame at the head of port `p`'s inbound list, by its kind and, for LOAD YARD, its operation
(log 10). -/
def commandsFor (p : Nat) (f : Frame) : List Instr :=
  if f.isRequest = false then [.unknownKindFrame p]
  else if f.isKind .loadYard then
    match yardOperation f.body with
    | some 1 => [.writeNode p]
    | some 2 => [.removeNode p]
    | some 3 => [.writeApparatus p]
    | some 4 => [.removeApparatus p]
    | some 5 => [.writePort p]
    | some 6 => [.writeSettings p]
    | _ => [.writeNode p, .removeNode p, .writeApparatus p, .removeApparatus p, .writePort p, .writeSettings p]
  else
    (([.positionReport, .moveRequest, .programmeRequest, .cancel, .amend, .extend, .revokeAnswer,
       .queryApparatus, .queryNode, .queryMovement, .queryProgramme, .queryEngine, .keepalive,
       .placeRestriction, .liftRestriction, .queryRestrictions, .liftInspectOverflow,
       .substitute, .endSubstitution, .acknowledgeBlock, .setPortPriority,
       .freeze, .thaw, .enterMaintenance, .leaveMaintenance, .commitYard, .restart] : List RequestKind).zip
      [.positionReport p, .moveRequest p, .programmeRequest p, .cancel p, .amend p, .extend p, .revokeAnswer p,
       .queryApparatus p, .queryNode p, .queryMovement p, .queryProgramme p, .queryEngine p, .keepalive p,
       .placeRestriction p, .liftRestriction p, .queryRestrictions p, .liftInspectOverflow p,
       .substitute p, .endSubstitution p, .acknowledgeBlock p, .setPortPriority p,
       .freeze p, .thaw p, .enterMaintenance p, .leaveMaintenance p, .commitYard p, .restart p]).filterMap
      (fun x => if f.isKind x.1 then some x.2 else none)

/-- The commands that take a request or a frame of unknown kind from port `p`. -/
def requestCommands (p : Nat) : List Instr :=
  [.unknownKindFrame p, .positionReport p, .moveRequest p, .programmeRequest p, .cancel p, .amend p, .extend p,
   .revokeAnswer p, .queryApparatus p, .queryNode p, .queryMovement p, .queryProgramme p, .queryEngine p, .keepalive p,
   .placeRestriction p, .liftRestriction p, .queryRestrictions p, .liftInspectOverflow p,
   .substitute p, .endSubstitution p, .acknowledgeBlock p, .setPortPriority p,
   .freeze p, .thaw p, .enterMaintenance p, .leaveMaintenance p,
   .writeNode p, .removeNode p, .writeApparatus p, .removeApparatus p, .writePort p, .writeSettings p,
   .commitYard p, .restart p]

/-- The body of a frame decodes by the layout of its kind (R164, R186). -/
def requestDecodes (k : RequestKind) (body : List Byte) : Bool :=
  match k with
  | .positionReport => (decodeReport body).isSome
  | .moveRequest | .amend => (decodeNumberTarget body).isSome
  | .programmeRequest => (decodeProgramme body).isSome
  | .cancel | .queryMovement | .queryProgramme | .queryApparatus | .liftInspectOverflow => (decodeNumber16 body).isSome
  | .extend => (decodeExtend body).isSome
  | .revokeAnswer => (decodeRevokeAnswer body).isSome
  | .queryNode | .liftRestriction | .queryRestrictions => (decodeNumber8 body).isSome
  | .placeRestriction => (decodePlace body).isSome
  | .substitute => (decodeSubstitute body).isSome
  | .endSubstitution => (decodeEndSubstitution body).isSome
  | .acknowledgeBlock => (decodeAcknowledge body).isSome
  | .setPortPriority => (decodePriority body).isSome
  | .loadYard => (decodeYard body).isSome
  | .queryEngine | .keepalive | .freeze | .thaw | .enterMaintenance | .leaveMaintenance | .commitYard | .restart =>
    body.isEmpty

/-! ### Quiet states and retirement -/

/-- A re-offer event finds no entry but `t` to return, and no programme to retry (R86, R125). -/
def State.calmBut (s : State) (t : Nat) : Prop :=
  (∀ e ∈ s.entries, e.state = .deferred → e.ticket = t) ∧ s.waitingOrder = []

/-- A re-offer event finds no entry to return, and no programme but `t` to retry (R86, R125). -/
def State.calmButProgramme (s : State) (t : Nat) : Prop :=
  (∀ e ∈ s.entries, e.state ≠ .deferred) ∧ ∀ x ∈ s.waitingOrder, x = t

/-- A re-offer event finds no entry to return and no programme to retry (R86, R125). -/
def State.calm (s : State) : Prop :=
  (∀ e ∈ s.entries, e.state ≠ .deferred) ∧ s.waitingOrder = []

/-- The state after a re-offer event that finds nothing to return (R86). -/
def State.marked (s : State) : State :=
  { s with evaluation := s.evaluation.map (fun v => { v with reoffer := true }) }

/-- The fields of an apparatus record that only reports, substitutions, losses and acknowledgements change. -/
def AppLive.inputs (r : AppLive) : Pos × Option Target × Pos × Flags4 × Flags4 × LatchNumbers :=
  (r.reported, r.substituted, r.effective, r.present, r.latched, r.latchNumbers)

/-- The item that a retirement appends to the ended-ticket list (R95). -/
def Entry.endedItem (e : Entry) (o : MoveOutcome) : Ended :=
  { ticket := e.ticket, owner := e.owner, apparatus := e.apparatus, outcome := o, operatingTime := e.operatingTime }

/-- Entry `e` of `s` has retired in `t` with an outcome (R117). Its notice is promised where two notice places are free,
since a REVOKE may take one before it. -/
structure State.Retired (s t : State) (e : Entry) (o : MoveOutcome) : Prop where
  entries : t.entries = s.entries.filter (fun x => x.ticket ≠ e.ticket)
  ended : t.ended = (s.ended ++ [Entry.endedItem e o]).drop (s.ended.length + 1 - 16)
  queues : ∀ p, (t.port p).queue =
    if p = e.owner then (s.port p).queue.filter (· ≠ e.ticket) else (s.port p).queue
  coupled : t.coupled = s.coupled.filter (· ≠ e.ticket)
  record : (t.app e.apparatus).map (fun r => (r.ticket, r.lastOutcome)) =
    (s.app e.apparatus).map (fun _ => (none, some (.movement o)))
  inputs : t.apps.map AppLive.inputs = s.apps.map AppLive.inputs
  notice : (s.port e.owner).state = .active → noticeCount (s.port e.owner).transmit < 31 →
    Outgoing.notice (.movementEnded e.ticket o e.operatingTime) ∈ (t.port e.owner).transmit
  nodes : t.nodes = s.nodes
  programmes : t.programmes = s.programmes
  published : t.published = s.published
  force : t.force = s.force
  stored : t.stored = s.stored

/-- R136: `i` is the lowest id that no standing restriction holds. -/
def State.lowestFree (s : State) (i : Nat) : Prop :=
  1 ≤ i ∧ i ≤ 64 ∧ (∀ r ∈ s.restrictions, r.id ≠ i) ∧ ∀ j, 1 ≤ j → j < i → ∃ r ∈ s.restrictions, r.id = j

/-- R137: restriction `r` stands in the table of `t`, and its write joins the writes of `s`, answered to nobody. -/
def State.putIn (s t : State) (r : Restriction) : Prop :=
  t.restrictions = putBy Restriction.id r s.restrictions ∧ t.writes = s.writes ++ [{ change := .put r, requester := none }]

/-- R142, R143: an INSPECT has been placed automatically on apparatus `a` between `s` and `t`, by the first of the four
steps that applies. -/
structure State.Inspected (s t : State) (a : Nat) : Prop where
  again : ∀ r, s.inspectOn a = some r → s.putIn t { r with count := some (min 255 (r.count.getD 0 + 1)) }
  marked : s.inspectOn a = none → s.overflowMark a = true →
    t.restrictions = s.restrictions ∧ t.writes = s.writes ∧ t.overflowMark a = true
  made : s.inspectOn a = none → s.overflowMark a = false → s.restrictions.length < 64 →
    ∃ i, s.lowestFree i ∧
      s.putIn t { id := i, kind := .inspect, target := a, port := none, label := 0, count := some 1 }
  full : s.inspectOn a = none → s.overflowMark a = false → 64 ≤ s.restrictions.length → (s.app a).isSome = true →
    t.restrictions = s.restrictions ∧ t.writes = s.writes ∧ t.overflowMark a = true

/-- R22: the unbidden changes of an apparatus of a kind. -/
def Unbidden (kind : AppKind) (before after : Pos) : Prop :=
  (kind = .breaker ∧ (before = .opened ∨ before = .travelling) ∧ after = .closed) ∨
  (kind ≠ .breaker ∧ before = .opened ∧ (after = .closed ∨ after = .travelling)) ∨
  (kind ≠ .breaker ∧ before = .closed ∧ (after = .opened ∨ after = .travelling))

/-- R23: the trips. -/
def Trip (kind : AppKind) (before after : Pos) : Prop :=
  kind = .breaker ∧ (before = .closed ∨ before = .travelling) ∧ after = .opened

/-- R167: every SUPERVISORY port that is ACTIVE in `s` with more than `used` notice places free has the notice in `t`. -/
def State.Announced (s t : State) (used : Nat) (n : Notice) : Prop :=
  ∀ q, q < 24 → (s.port q).role = .supervisory → (s.port q).state = .active →
    noticeCount (s.port q).transmit + used < 32 → Outgoing.notice n ∈ (t.port q).transmit

/-- A port without its request in progress and its transmit list: the fields that a request of no port's own changes
nothing of. -/
def Port.still (q : Port) : Port := { q with inProgress := none, transmit := [] }

/-- The ports of `t` are those of `s` but for the request of port `p` in progress, answered, and the notices sent. -/
def State.PortsStill (s t : State) (p : Nat) (f : Frame) : Prop :=
  t.ports.map Port.still = s.ports.map Port.still ∧ (t.port p).inProgress = some (Frame.started f) ∧
  ∀ q, q ≠ p → (t.port q).inProgress = (s.port q).inProgress

/-- No two live entries have the same ticket (R94). -/
def State.distinct (s : State) : Prop := (s.entries.map Entry.ticket).Nodup

/-- A pass that has read nothing, at node 0 (R34, R35). -/
def freshPass (held : Bool) : Pass :=
  { held := held, takenUp := [], reached := [0], readApps := [], readNodes := [], draft := [] }

/-! ### Passes (R31, R36, R37) -/

/-- R37: nodes joined by apparatus that a pass has read as CLOSED. -/
inductive State.SureJoined (s : State) (w : Pass) : Nat → Nat → Prop where
  | refl (n : Nat) : State.SureJoined s w n n
  | step {n m k : Nat} {r : ReadApp} {d : AppDesc} : State.SureJoined s w n m → r ∈ w.readApps → r.position = .closed →
      s.appDesc r.number = some d → (d.a = m ∧ d.b = k ∨ d.b = m ∧ d.a = k) → State.SureJoined s w n k

/-- R31, R32, R37: the entry of node `n` in an explored possible component `c`. -/
structure State.DraftedAs (s : State) (w : Pass) (c : List Nat) (n : Nat) (x : NodeEntry) : Prop where
  possible : x.possible ∈ c ∧ ∀ m ∈ c, x.possible ≤ m
  sure : State.SureJoined s w n x.sure ∧ ∀ m, State.SureJoined s w n m → x.sure ≤ m
  ground : n = 0 → x.colour = .earthed
  live : n ≠ 0 → (∃ r ∈ w.readNodes, r.number ∈ c ∧ r.cls ≠ .dead) →
    x.colour = (if 0 ∈ c then .contested else .live)
  dead : n ≠ 0 → (∀ r ∈ w.readNodes, r.number ∈ c → r.cls = .dead) →
    x.colour = (if 0 ∈ c then (if x.sure = 0 then .earthed else .doubtfulEarth) else .floating)

/-! ### Resets -/

/-- R178: `t` has the values that every reset of `s` gives, whatever its cause. -/
structure State.ResetOf (s t : State) : Prop where
  mode : t.mode = .restarting ∧ t.restartTimer = some s.store.settings.settleLimit ∧ t.gatheringTimer = none
  movements : t.entries = [] ∧ t.ended = [] ∧ t.ticketCounter = 1 ∧ t.coupled = [] ∧ t.evaluation = none
  programmes : t.programmes = [] ∧ t.waitingOrder = []
  image : t.substs = [] ∧ t.held = []
  passes : t.pass = none ∧ t.spoils = 0 ∧ t.publicationCount = 0 ∧ t.published = Colouring.start
  restrictions : t.restrictions = s.stored ∧ t.stored = s.stored ∧ t.writes = []
  store : t.store = s.store ∧ t.verified = s.verified ∧ t.written = s.written ∧ t.validation = none
  due : t.commandedDue = false
  ports : t.ports = s.store.ports.map (fun d =>
    { role := d.role, silenceLimit := d.silenceLimit, defaultPriority := d.defaultPriority, state := .silent,
      silenceTimer := none, priority := d.defaultPriority, queue := [], inbound := [], inProgress := none,
      transmit := [] })
  apps : t.apps.map AppLive.number = s.store.apparatus.map AppDesc.number
  appValues : ∀ x ∈ t.apps, x.reported = .unknown ∧ x.substituted = none ∧ x.effective = .unknown ∧
    x.present = Flags4.clear ∧ x.marker = true ∧ x.ticket = none
  nodes : t.nodes.map NodeLive.number = (s.store.nodes.filter NodeDesc.measured).map NodeDesc.number
  nodeValues : ∀ x ∈ t.nodes, x.cls = .unknown ∧ x.effective = .unknown ∧ x.counter = 0 ∧ x.lastCandidate = none ∧
    x.lastSample = none ∧ x.substituted = none ∧ x.marker = true

/-- R27, R160, R178: what a RESET_LINE or a COMMANDED keeps: latches, outcomes, marks, and a freeze in its mark. -/
structure State.Kept (s t : State) (c : ResetCause) : Prop where
  carried : t.freezeCarried = (s.freezeCarried || s.mode == .freezing || s.mode == .frozen)
  record : t.restartRecord =
    { cause := c, modeAtReset := some s.mode, count := min 255 (s.restartRecord.count + 1) }
  apps : ∀ x ∈ t.apps, ∀ r, s.app x.number = some r → x.latched = r.latched ∧ x.latchNumbers = r.latchNumbers ∧
    x.lastOutcome = r.lastOutcome ∧ x.lastOperatingTime = r.lastOperatingTime ∧ x.overflow = r.overflow

/-! ### Laws of the device -/

/-- R136: ids ascend, lie in 1 to 64, and no apparatus bears two INSPECT restrictions. -/
def goodTable (l : List Restriction) : Prop :=
  (l.map Restriction.id).Pairwise (· < ·) ∧ (∀ r ∈ l, 1 ≤ r.id ∧ r.id ≤ Config.maxRestrictions) ∧
  ((l.filter (fun r => r.kind == .inspect)).map Restriction.target).Nodup

/-- R137: the storage, and the storage after each write that is still to come, are good tables, and after the last it is
the table that acts. -/
def storageGood : List Restriction → List StorageWrite → List Restriction → Prop
  | stored, [], table => goodTable stored ∧ stored = table
  | stored, w :: ws, table => goodTable stored ∧ storageGood (w.change.apply stored) ws table

/-- R136, R137: the laws of the restriction table and its storage. -/
def State.restrictionLaw (s : State) : Prop := storageGood s.stored s.writes s.restrictions

/-- R104, R106, R182: travel limits are at most 300.00 s, and the remaining time of a travel deadline never exceeds
600.00 s. -/
def State.travelLaw (s : State) : Prop :=
  (∀ e ∈ s.entries, e.state = .travelling → ∀ d, e.deadline = some d → d ≤ 60000) ∧
  (∀ d ∈ s.force.apparatus, d.travelLimit ≤ 30000) ∧ (∀ d ∈ s.store.apparatus, d.travelLimit ≤ 30000)

/-- R119: the movement table and the programme table are empty in RESTARTING, GATHERING and MAINTENANCE. -/
def State.idleLaw (s : State) : Prop :=
  s.mode = .restarting ∨ s.mode = .gathering ∨ s.mode = .maintenance → s.entries = [] ∧ s.programmes = []

/-- What holds of one port: its lists within their places (R163, R166), its priority at most 15 (R74), its silence timer
running exactly while it is ACTIVE (9.5), and, while UNUSED, SILENT (R171). -/
def Port.good (q : Port) : Prop :=
  q.inbound.length ≤ 8 ∧ noticeCount q.transmit ≤ 32 ∧ q.priority ≤ 15 ∧
  (q.state = .active ↔ q.silenceTimer ≠ none) ∧ (q.role = .unused → q.state = .silent)

/-- R163, R166, R171, R74: the laws of the ports. -/
def State.portLaw (s : State) : Prop :=
  s.ports.length = 24 ∧ s.store.ports.length = 24 ∧
  (∀ d ∈ s.store.ports, d.defaultPriority ≤ 15) ∧ (∀ q ∈ s.ports, q.good)

/-- R92, R95, R120, R40: the tables within their places. -/
def State.tableLaw (s : State) : Prop :=
  s.entries.length ≤ 16 ∧ s.ended.length ≤ 16 ∧ s.programmes.length ≤ 8 ∧ s.held.length ≤ 32

/-- R183: a description with every record valid. -/
def State.described (s : State) : Prop :=
  s.store.ports.any (fun d => d.role == .supervisory) = true ∧
  (∀ d ∈ s.store.nodes, s.checkNode d = none) ∧ (∀ d ∈ s.store.apparatus, s.checkApparatus d = none)

/-- R183: the records that a validation has passed when it stands at a cursor. -/
def State.passed (s : State) : Cursor → Prop
  | .ports n => 24 ≤ n → s.store.ports.any (fun d => d.role == .supervisory) = true
  | .nodes n =>
    s.store.ports.any (fun d => d.role == .supervisory) = true ∧
    ∀ d ∈ s.store.nodes, d.number ≤ n → s.checkNode d = none
  | .apparatus a =>
    s.store.ports.any (fun d => d.role == .supervisory) = true ∧
    (∀ d ∈ s.store.nodes, s.checkNode d = none) ∧
    ∀ d ∈ s.store.apparatus, d.number ≤ a → s.checkApparatus d = none
  | .restrictions _ => s.described

/-- R183, R2: the numbers of the stored records ascend from 1 on, a verified description is valid, and an undisturbed
validation without a failure has passed the records before its cursor. -/
def State.descriptionLaw (s : State) : Prop :=
  (s.store.nodes.map NodeDesc.number).Pairwise (· < ·) ∧ (∀ d ∈ s.store.nodes, 1 ≤ d.number) ∧
  (s.store.apparatus.map AppDesc.number).Pairwise (· < ·) ∧ (∀ d ∈ s.store.apparatus, 1 ≤ d.number) ∧
  (s.verified = true → s.described) ∧
  (∀ v, s.validation = some v → v.disturbed = false → v.failure = none → s.passed v.cursor)

/-- R94: tickets of live entries are distinct and the counter names a number that can be issued. -/
def State.ticketLaw (s : State) : Prop :=
  (s.entries.map Entry.ticket).Pairwise (· < ·) ∧ 1 ≤ s.ticketCounter ∧ s.ticketCounter ≤ 65535

/-- R73: at most four tickets stand in a port's queue, among them those of the port's entries that wait for a release; a
coupled movement, which needs no place, belongs to a programme. -/
def State.queueLaw (s : State) : Prop :=
  (∀ q ∈ s.ports, q.queue.length ≤ 4) ∧
  (∀ e ∈ s.entries, e.state.held = false → e.coupled = false → e.ticket ∈ (s.port e.owner).queue) ∧
  (∀ e ∈ s.entries, e.coupled = true → e.programme.isSome = true)

/-- R40: at most one held entry stands for a target. -/
def State.heldLaw (s : State) : Prop := (s.held.map HeldEntry.target).Nodup

/-- R3: the apparatus of the description in force, and in RESTARTING those of the stored one, have their live records. -/
def State.recordLaw (s : State) : Prop :=
  ∀ d ∈ (if s.mode = .restarting then s.store else s.force).apparatus, (s.app d.number).isSome = true

/-- R92: an apparatus has at most one live entry, whose ticket its record holds. -/
def State.apparatusLaw (s : State) : Prop :=
  (s.entries.map Entry.apparatus).Nodup ∧
  (∀ e ∈ s.entries, (s.app e.apparatus).map AppLive.ticket = some (some e.ticket)) ∧
  (∀ g ∈ s.programmes, ∀ x ∈ g.steps, (s.appDesc x.apparatus).isSome = true)

/-- R78: the entry of the evaluation in flight is EVALUATING. -/
def State.evaluationLaw (s : State) : Prop :=
  ∀ v, s.evaluation = some v → ∃ e, s.entry v.ticket = some e ∧ e.state = .evaluating

/-- R121, R125, R130: programmes have tickets and ports of their own; only a WAITING programme has a waiting time, and it
waits for no movement; an entry of a programme that is not SETTLING is the movement the programme waits for; and a carry is
held between two movements of a programme, or while the coupled movement that takes it over has not been released. -/
def State.programmeLaw (s : State) : Prop :=
  (s.programmes.map Programme.ticket).Nodup ∧ (∀ g ∈ s.programmes, g.owner < s.ports.length) ∧
  (∀ g ∈ s.programmes, (g.waiting.isSome = true → g.state = .waiting) ∧ (g.state = .waiting → g.movement = none)) ∧
  (∀ e ∈ s.entries, e.state ≠ .settling → ∀ t k, e.programme = some (t, k) →
    ∃ g, s.programme t = some g ∧ g.movement = some e.ticket ∧ g.owner = e.owner) ∧
  (∀ g ∈ s.programmes, g.carry.isSome = true → (g.movement = none ∧ g.state ≠ .waiting) ∨
    ∃ e ∈ s.entries, g.movement = some e.ticket ∧ e.coupled = true ∧ e.state.held = false ∧
      ∃ k, e.programme = some (g.ticket, k))

/-- R83, R88: no two held reservations, of entries or of programmes, are in conflict. -/
def State.reservationLaw (s : State) : Prop :=
  (s.entryReservations ++ s.carryReservations none).Pairwise (fun x y => x.conflicts y = false)

/-- R73, R78, R83, R88, R92, R121: the laws of the movements, their queues, programmes and reservations, together. -/
structure State.MovementLaws (s : State) : Prop where
  idle : s.idleLaw
  ports : s.portLaw
  tables : s.tableLaw
  tickets : s.ticketLaw
  queues : s.queueLaw
  held : s.heldLaw
  records : s.recordLaw
  apparatus : s.apparatusLaw
  evaluation : s.evaluationLaw
  programmes : s.programmeLaw
  reservations : s.reservationLaw

/-- R33: the sure id of every entry is that of a node with an entry, and entries of one sure id have one possible id. -/
def goodEntries (l : List (Nat × NodeEntry)) : Prop :=
  (∀ x ∈ l, ∃ y ∈ l, y.1 = x.2.sure) ∧ ∀ x ∈ l, ∀ y ∈ l, x.2.sure = y.2.sure → x.2.possible = y.2.possible

/-- R36, R37: what holds of a running pass: the apparatus at a node taken up have been read; the drafted nodes have been
taken up and are not of the component being explored; and a possibly closed apparatus that was read has both its terminals
in that component, or both drafted. -/
def State.passLaw (s : State) (w : Pass) : Prop :=
  (∀ n ∈ w.takenUp, ∀ d ∈ s.force.apparatus, d.a = n ∨ d.b = n → ∃ r ∈ w.readApps, r.number = d.number) ∧
  (∀ x ∈ w.draft, x.1 ∈ w.takenUp ∧ x.1 ∉ w.reached) ∧
  (∀ r ∈ w.readApps, r.position ≠ .opened → ∀ d, s.appDesc r.number = some d →
    (d.a ∈ w.reached ∧ d.b ∈ w.reached) ∨
    ((∃ x ∈ w.draft, x.1 = d.a) ∧ ∃ x ∈ w.draft, x.1 = d.b)) ∧
  goodEntries w.draft

/-- R33, R37: the published colouring is good, no pass runs in RESTARTING, and a running pass keeps its law, over a
description in force whose apparatus numbers are distinct (R2). -/
def State.colouringLaw (s : State) : Prop :=
  goodEntries s.published.nodes ∧ (s.mode = .restarting → s.pass = none) ∧ (∀ w, s.pass = some w → s.passLaw w) ∧
  (s.force.apparatus.map AppDesc.number).Nodup

/-- R155: in FROZEN every entry in a held state is a breaker opening. -/
def State.frozenLaw (s : State) : Prop := s.mode = .frozen → s.noneHeldBack = true

end Sys2Proof.Machine
end

