-- ==== Sys2Proof/Certificates/Slice0/Obligations.lean ====
section
/-! DEFINITION. The statements for the provers. -/

open Sys2Proof Sys2Proof.Machine

/-! ### Steps -/

/-- A step takes the command at the front of the queue and runs it with the rest of the queue (log 1). -/
def Obligations.StepTakesFront : Prop :=
  ∀ (c : Instr) (rest : List Instr) (s : State),
    s.pending = c :: rest → step s = exec c { s with pending := rest }

/-- With no command waiting the engine takes the first expiry that is due, and otherwise lets 0.01 s pass, in which
the clock of a SUSPENDED entry does not run (R153, log 2). -/
def Obligations.IdleStepPassesTime : Prop :=
  ∀ s : State, s.pending = [] →
    (s.heldInReset = true → step s = .next { s with now := s.now + 1 }) ∧
    (s.heldInReset = false → ∀ c, s.firstDue = some c → step s = exec c s) ∧
    (s.heldInReset = false → s.firstDue = none →
      ∃ t, step s = .next t ∧ t.now = s.now + 1 ∧ t.mode = s.mode ∧
        t.entries.map Entry.ticket = s.entries.map Entry.ticket ∧
        (∀ e ∈ s.entries, e.state = .suspended → e ∈ t.entries) ∧
        (∀ e ∈ s.entries, ∀ d, e.state = .deferred → e.deadline = some d →
          { e with deadline := some (d - 1) } ∈ t.entries))

/-! ### The line and the checks of a request (09) -/

/-- R164: the three checks in their order; the first that fails gives the answer, and nothing else changes.
A LOAD YARD of unknown operation is taken by any of its six commands, the model's choice (log 10). That a POSITION REPORT so
refused carries its code alone is the model's choice too (log 7). -/
def Obligations.RequestChecksInOrder : Prop :=
  ∀ (s : State) (p : Nat) (f : Frame), s.Offers p f →
    (f.isRequest = false →
      exec (.unknownKindFrame p) s = .next (s.modPort p (fun q =>
        { q with
          inProgress := some (Frame.started f)
          transmit := q.transmit ++ [.answer 0x80#8 f.tag .malformed []] }))) ∧
    (∀ k, f.isKind k = true → ∀ c ∈ commandsFor p f,
      (requestDecodes k f.body = false → exec c s = .next (s.answered p f .malformed [])) ∧
      (requestDecodes k f.body = true → (s.port p).role.maySend k = false →
        exec c s = .next (s.answered p f .portRole [])) ∧
      (requestDecodes k f.body = true → (s.port p).role.maySend k = true → k.takenIn s.mode = false →
        exec c s = .next (s.answered p f .mode [])))

/-- R163: only the frame at the head is taken, and only while no request of the port is in progress: every other
request command of the port changes nothing (log 1). -/
def Obligations.OtherRequestCommandsChangeNothing : Prop :=
  ∀ (s : State) (p : Nat) (c : Instr), c ∈ requestCommands p →
    (∀ f, s.Offers p f → c ∉ commandsFor p f) → exec c s = .next s

/-- R161, 11.1: a received run of bytes is a valid frame exactly when it is the frame its fields make. -/
def Obligations.FramesAgree : Prop :=
  (∀ (kind : Byte) (tag : BitVec 16) (body : List Byte), body.length ≤ 250 →
    checkFrame (frameBytes kind tag body) false = some { kind := kind, tag := tag, body := body }) ∧
  (∀ (bytes : List Byte) (framingError : Bool) (f : Frame), checkFrame bytes framingError = some f →
    framingError = false ∧ bytes = frameBytes f.kind f.tag f.body ∧ f.body.length ≤ 250)

/-- R161, R163, R166, R169, R171, R185: what FRAME_RECEIVED and FRAME_SENT leave. That a sent RESTART's answer makes COMMANDED
due as an event of its own is the model's choice (log 2); whether a request in progress still stands in the inbound list is
log 9's reading. -/
def Obligations.LineCommands : Prop :=
  ∀ (s : State) (p : Nat), s.heldInReset = false → p < s.ports.length →
    (∀ bytes e, ((s.port p).role = .unused ∨ checkFrame bytes e = none) →
      exec (.frameReceived p bytes e) s = .next s) ∧
    (∀ bytes e f, (s.port p).role ≠ .unused → checkFrame bytes e = some f →
      exec (.frameReceived p bytes e) s = .next (s.modPort p (fun q =>
        { q with
          state := .active
          silenceTimer := some q.silenceLimit
          inbound := if q.inbound.length < 8 then q.inbound ++ [f] else q.inbound }))) ∧
    (∀ n rest, (s.port p).transmit = .notice n :: rest →
      exec (.frameSent p) s = .next (s.modPort p (fun q => { q with transmit := rest }))) ∧
    (∀ k tag c x rest r, (s.port p).transmit = .answer k tag c x :: rest → (s.port p).inProgress = some r →
      exec (.frameSent p) s = .next (State.modPort { s with commandedDue := s.commandedDue || r.restart } p
        (fun q =>
          { q with
            transmit := rest
            inProgress := none
            inbound := if r.inList then q.inbound.drop 1 else q.inbound })))

/-! ### Queries (9.6, R146) -/

/-- R173: QUERY APPARATUS and QUERY NODE. That they read the stored records is log 4's reading of R173. Where a live
record is absent its fields are free values of those that R3 and R4 give them (log 5), so that every code sent is one of
11.2 (R187), the effective one derived (log 5's deduction). The sizes and presence bytes of the fields are the model's (log
7), and so are the codes of a node's last candidate and substituted class (log 7). -/
def Obligations.ImageQueriesAnswer : Prop :=
  ∀ (s : State) (p : Nat) (f : Frame),
    (s.Takes p .queryApparatus f → ∀ a, decodeNumber16 f.body = some a →
      (s.store.apparatus.find? (fun d => d.number == a) = none →
        exec (.queryApparatus p) s = .next (s.answered p f .unknownApparatus [])) ∧
      (∀ d, s.store.apparatus.find? (fun d => d.number == a) = some d →
        ∃ x : AppLive, (∀ r, s.app a = some r → x = r) ∧
          (s.app a = none → x.effective = effectivePosition x.substituted (s.reporterActive d) x.reported ∧
            (∀ t, x.ticket = some t → 1 ≤ t ∧ t ≤ 65535) ∧ ∀ y, x.lastOperatingTime = some y → y ≤ 65535) ∧
          (putAppLive x).length = 19 ∧
          exec (.queryApparatus p) s = .next (s.answered p f .done
            (putAppDesc d ++ putAppLive x ++ put8 (s.published.position a).code ++
              putHeld (s.heldFor (.apparatus a)) ++ putSubst (s.subst (.apparatus a)))))) ∧
    (s.Takes p .queryNode f → ∀ n, decodeNumber8 f.body = some n →
      (n = 0 → exec (.queryNode p) s = .next (s.answered p f .done (putNodeEntry (s.published.node 0)))) ∧
      (n ≠ 0 → s.store.nodes.find? (fun d => d.number == n) = none →
        exec (.queryNode p) s = .next (s.answered p f .unknownTarget [])) ∧
      (n ≠ 0 → ∀ d, s.store.nodes.find? (fun d => d.number == n) = some d →
        ∃ live, (d.measured = true → ∃ x : NodeLive, live = putNodeLive x ∧ (∀ r, s.node n = some r → x = r) ∧
            (s.node n = none → x.effective = effectiveClass x.substituted x.cls ∧ x.counter ≤ 7 ∧
              ∀ y, x.lastSample = some y → y ≤ 2000)) ∧
          (d.measured = false → live = List.replicate 11 0#8) ∧ live.length = 11 ∧
          exec (.queryNode p) s = .next (s.answered p f .done
            (putNodeDesc d ++ putBool d.measured ++ live ++ putHeld (s.heldFor (.node n)) ++
              putSubst (s.subst (.node n)) ++ putNodeEntry (s.published.node n)))))

/-- R174, R146: QUERY MOVEMENT, QUERY PROGRAMME and QUERY RESTRICTIONS. The byte that marks an item as ended, after it, and the
sizes of the fields are the model's (log 7), and the bytes of a release time are free (log 6). -/
def Obligations.TableQueriesAnswer : Prop :=
  ∀ (s : State) (p : Nat) (f : Frame),
    (s.Takes p .queryMovement f → ∀ t, decodeNumber16 f.body = some t →
      (∀ e, s.entry t = some e → exec (.queryMovement p) s = .next
        (s.answered p f .done (putEntry e (placeIn t (s.port e.owner).queue)))) ∧
      (s.entry t = none → ∀ x, s.endedItem t = some x →
        exec (.queryMovement p) s = .next (s.answered p f .done (putEnded x ++ [1#8]))) ∧
      (s.entry t = none → s.endedItem t = none → (s.programme t).isSome = true →
        exec (.queryMovement p) s = .next (s.answered p f .notApplicable [])) ∧
      (s.entry t = none → s.endedItem t = none → s.programme t = none →
        exec (.queryMovement p) s = .next (s.answered p f .unknownTicket []))) ∧
    (s.Takes p .queryProgramme f → ∀ t, decodeNumber16 f.body = some t →
      (∀ g, s.programme t = some g →
        exec (.queryProgramme p) s = .next (s.answered p f .done (putProgramme g))) ∧
      (s.programme t = none → (s.entry t).isSome = true ∨ (s.endedItem t).isSome = true →
        exec (.queryProgramme p) s = .next (s.answered p f .notApplicable [])) ∧
      (s.programme t = none → s.entry t = none → s.endedItem t = none →
        exec (.queryProgramme p) s = .next (s.answered p f .unknownTicket []))) ∧
    (s.Takes p .queryRestrictions f → ∀ i, decodeNumber8 f.body = some i →
      (i = 0 ∨ 64 < i → exec (.queryRestrictions p) s = .next (s.answered p f .outOfRange [])) ∧
      (1 ≤ i → i ≤ 64 →
        ∃ shown next, shown = (s.restrictions.filter (fun r => decide (i ≤ r.id))).take 8 ∧
          (∀ r, (s.restrictions.filter (fun r => decide (i ≤ r.id)))[8]? = some r → next = r.id) ∧
          ((s.restrictions.filter (fun r => decide (i ≤ r.id)))[8]? = none → next = 0) ∧
          exec (.queryRestrictions p) s = .next (s.answered p f .done
            (put8 s.restrictions.length ++ put8 shown.length ++ shown.flatMap putRestriction ++ put8 next))))

/-- R175: QUERY ENGINE and KEEPALIVE, in every mode, and what a valid KEEPALIVE frame does when it is received. The sizes of
the fields are the model's (log 7). -/
def Obligations.EngineQueriesAnswer : Prop :=
  (∀ m : Mode, RequestKind.queryEngine.takenIn m = true ∧ RequestKind.keepalive.takenIn m = true) ∧
  ∀ (s : State) (p : Nat) (f : Frame), f.body = [] →
    (∀ bytes, s.heldInReset = false → p < s.ports.length → (s.port p).role ≠ .unused →
      checkFrame bytes false = some f → f.isKind .keepalive = true →
      ∃ t, exec (.frameReceived p bytes false) s = .next t ∧
        (t.port p).state = .active ∧ (t.port p).silenceTimer = some (s.port p).silenceLimit) ∧
    (s.Takes p .queryEngine f → exec (.queryEngine p) s = .next (s.answered p f .done
      (put8 s.mode.code ++ putBool s.freezeCarried ++ putBool s.verified ++ put32 s.publicationCount.toNat ++
        put8 s.entries.length ++ put8 s.programmes.length ++ put8 s.held.length ++
        put8 s.restartRecord.cause.code ++ putOpt8 (s.restartRecord.modeAtReset.map Mode.code) ++
        put8 s.restartRecord.count ++
        (List.range 24).flatMap (fun i =>
          put8 (s.port i).role.code ++ put8 (s.port i).state.code ++ put8 (s.port i).priority)))) ∧
    (s.Takes p .keepalive f →
      exec (.keepalive p) s = .next (s.answered p f .done (put8 s.mode.code)))

/-! ### The yard image (01) -/

/-- R5, R7, R9, R13, R17, R18, R38, R39, R79: a report of one apparatus item outside a held pass. R21 to R23, R101, R102, R105,
R111, R116, R142, R167: what its image change does to a live entry of the apparatus, and the unbidden judgement, by the entry
as it stood when the change was taken (log 3). R127, R128: the programme of an entry that so ends. R14, R40, R41: the item in a
held pass. R7, R8, R187: a report of several items, while no pass runs. That an INSPECT which stands gets a write for its raised
count is log 15's reading, and at count 255 the model's choice (log 15). -/
def Obligations.ReportedApparatusItem : Prop :=
  (∀ (s : State) (p : Nat) (f : Frame) (a : Nat) (pos : Pos) (flags : Flags4) (d : AppDesc) (r : AppLive),
    s.Takes p .positionReport f → decodeReport f.body = some [.apparatus a pos flags] →
    s.heldPassRunning = false → s.appDesc a = some d → d.port = p → s.app a = some r →
    ∃ t x, exec (.positionReport p) s = .next t ∧ t.app a = some x ∧
      x.reported = pos ∧ x.substituted = r.substituted ∧
      x.effective = effectivePosition r.substituted (s.reporterActive d) pos ∧
      x.present = flags ∧
      (∀ c, flags.get c = true → r.present.get c = false → d.latchedModes.get c = true →
        x.latched.get c = true ∧ x.latchNumbers.get c = r.latchNumbers.get c + 1) ∧
      (∀ c, ¬ (flags.get c = true ∧ r.present.get c = false ∧ d.latchedModes.get c = true) →
        x.latched.get c = r.latched.get c ∧ x.latchNumbers.get c = r.latchNumbers.get c) ∧
      s.answers t p f .done [1#8, 0#8, 0xFF#8] ∧
      t.nodes = s.nodes ∧ t.substs = s.substs ∧ t.held = s.held ∧
      (∀ b, b ≠ a → (t.app b).map AppLive.inputs = (s.app b).map AppLive.inputs) ∧
      x.marker = (r.marker || x.effective != r.effective) ∧
      (x.effective = r.effective → t.pass = s.pass ∧ t.spoils = s.spoils) ∧
      (x.effective ≠ r.effective →
        (s.pass = none → t.pass = some (freshPass false) ∧ t.spoils = s.spoils) ∧
        (∀ w, s.pass = some w → (∃ y ∈ w.readApps, y.number = a) →
          t.pass = some (freshPass (decide (3 ≤ s.spoils + 1))) ∧ t.spoils = s.spoils + 1) ∧
        (∀ w, s.pass = some w → (∀ y ∈ w.readApps, y.number ≠ a) → t.pass = s.pass ∧ t.spoils = s.spoils) ∧
        (∀ v e, s.evaluation = some v → s.entry v.ticket = some e →
          s.liesIn (.apparatus a) (e.footprint ++ v.candidateReach) = true → t.evaluation = none))) ∧
  (∀ (s : State) (p : Nat) (f : Frame) (a : Nat) (pos : Pos) (d : AppDesc) (r : AppLive),
    s.Takes p .positionReport f → decodeReport f.body = some [.apparatus a pos r.present] →
    s.heldPassRunning = false → s.appDesc a = some d → d.port = p → s.app a = some r →
    r.substituted = none → (s.port p).state = .active → pos ≠ r.effective → s.evaluation = none →
    ∃ t, exec (.positionReport p) s = .next t ∧
      (∀ e, s.entryOf a = some e → s.entry e.ticket = some e →
        (e.state = .released ∨ e.state = .revoking → pos = .travelling →
          t.entries = s.entries.map (fun x => if x.ticket = e.ticket then
            { x with state := .travelling, flavour := none, deadline := some d.travelLimit } else x) ∧
          t.restrictions = s.restrictions) ∧
        (e.state = .released ∨ e.state = .revoking ∨ e.state = .travelling → pos = e.target.pos →
          t.entries = s.entries.map (fun x => if x.ticket = e.ticket then
            { x with state := .settling, flavour := none, deadline := none,
                     operatingTime := some (min 65535 (s.now - e.releaseTime.getD s.now)) } else x) ∧
          (t.app a).map AppLive.lastOperatingTime = some (some (min 65535 (s.now - e.releaseTime.getD s.now))) ∧
          t.restrictions = s.restrictions) ∧
        (e.programme = none → s.calm → s.mode ≠ .freezing →
          (∀ x ∈ s.entries, x.apparatus = a → x.ticket = e.ticket) →
          let m := s.modApp a (fun x => AppLive.withBlocking
            { x with reported := pos, substituted := none, effective := pos } d.latchedModes r.present)
          (e.state = .travelling → pos = e.target.opposite →
            m.Retired t e .returned ∧ t.restrictions = s.restrictions) ∧
          (e.state = .released ∨ e.state = .revoking ∨ e.state = .travelling → pos = .faulty ∨ pos = .unknown →
            m.Retired t e .faulted ∧ s.Inspected t a)) ∧
        (∀ g k, e.programme = some (g.ticket, k) → s.programme g.ticket = some g → g.movement = some e.ticket →
          (s.port g.owner).state = .active → s.calm → s.mode ≠ .freezing →
          (∀ x ∈ s.entries, x.apparatus = a → x.ticket = e.ticket) →
          let stops := fun (o : MoveOutcome) =>
            t.entries = s.entries.filter (fun x => x.ticket ≠ e.ticket) ∧
            t.programmes = s.programmes.filter (fun x => x.ticket ≠ g.ticket) ∧
            t.ended = (s.ended ++ [Entry.endedItem e o]).drop (s.ended.length + 1 - 16) ∧
            (noticeCount (s.port g.owner).transmit < 31 → Outgoing.notice (.programmeEnded g.ticket g.current
              (some (.outcome (if g.state = .stopping then .cancelled else o)))) ∈ (t.port g.owner).transmit)
          (e.state = .travelling → pos = e.target.opposite → stops .returned ∧ t.restrictions = s.restrictions) ∧
          (e.state = .released ∨ e.state = .revoking ∨ e.state = .travelling → pos = .faulty ∨ pos = .unknown →
            stops .faulted ∧ s.Inspected t a))) ∧
      ((∀ e ∈ s.entries, e.apparatus = a →
          e.state = .queued ∨ e.state = .deferred ∨ e.state = .evaluating ∨ e.state = .suspended) →
        t.entries = s.entries ∧
        (Unbidden d.kind r.effective pos → s.Inspected t a ∧ s.Announced t 0 (.unbidden a r.effective pos)) ∧
        (¬ Unbidden d.kind r.effective pos → t.restrictions = s.restrictions ∧ t.writes = s.writes) ∧
        (Trip d.kind r.effective pos → (t.app a).map AppLive.lastOutcome = some (some .tripped)) ∧
        (¬ Trip d.kind r.effective pos → (t.app a).map AppLive.lastOutcome = some r.lastOutcome))) ∧
  (∀ (s : State) (p : Nat) (f : Frame) (a : Nat) (pos : Pos) (flags : Flags4) (d : AppDesc) (r : AppLive),
    s.Takes p .positionReport f → decodeReport f.body = some [.apparatus a pos flags] →
    s.heldPassRunning = true → s.appDesc a = some d → d.port = p → s.app a = some r →
    let now := fun (x : AppLive) => (x.reported, x.effective, x.marker, x.present)
    (∀ old sub q, s.heldFor (.apparatus a) = some { target := .apparatus a, copy := .apparatus old sub q } →
      ∃ t, exec (.positionReport p) s = .next t ∧ s.answers t p f .done [1#8, 0#8, 0xFF#8] ∧
        t.heldFor (.apparatus a) = some { target := .apparatus a, copy := .apparatus pos sub q } ∧
        (∀ i, i ≠ .apparatus a → t.heldFor i = s.heldFor i) ∧ t.held.length = s.held.length ∧
        (t.app a).map now = some (r.reported, r.effective, r.marker, flags)) ∧
    (s.heldFor (.apparatus a) = none → effectivePosition r.substituted (s.reporterActive d) pos ≠ r.effective →
      (32 ≤ s.held.length →
        exec (.positionReport p) s = .next (s.answered p f .heldFull [0#8, 1#8, 0x17#8])) ∧
      (s.held.length < 32 → ∃ t q, exec (.positionReport p) s = .next t ∧ s.answers t p f .done [1#8, 0#8, 0xFF#8] ∧
        t.held = s.held ++ [{ target := .apparatus a, copy := .apparatus pos r.substituted q }] ∧
        (∀ y, s.subst (.apparatus a) = some y → q = y.port) ∧
        (t.app a).map now = some (r.reported, r.effective, true, flags))) ∧
    (s.heldFor (.apparatus a) = none → effectivePosition r.substituted (s.reporterActive d) pos = r.effective →
      ∃ t, exec (.positionReport p) s = .next t ∧ s.answers t p f .done [1#8, 0#8, 0xFF#8] ∧ t.held = s.held ∧
        (t.app a).map now = some (pos, r.effective, r.marker, flags))) ∧
  (∀ (s : State) (p : Nat) (f : Frame) (l : List ReportItem),
    s.Takes p .positionReport f → decodeReport f.body = some l → s.pass = none →
    (∀ n v, .presence n v ∈ l → (s.nodeDesc n).isSome = true → (s.node n).isSome = true) →
    let own : ReportItem → Bool := fun x => match x with
      | .apparatus a _ _ => (s.appDesc a).any (fun d => d.port == p)
      | .presence n _ => (s.nodeDesc n).any (fun d => d.measured && d.port == some p)
    ∃ t, exec (.positionReport p) s = .next t ∧
      (l.all own = true → s.answers t p f .done (put8 l.length ++ [0#8, 0xFF#8])) ∧
      (∀ before x after, l = before ++ x :: after → before.all own = true → own x = false →
        s.answers t p f .notYourItem (put8 (l.countP own) ++ put8 (before.length + 1) ++ [0x0A#8])) ∧
      (∀ before a pos flags after r, l = before ++ .apparatus a pos flags :: after →
        own (.apparatus a pos flags) = true → (∀ y g, .apparatus a y g ∉ after) → s.app a = some r →
        (t.app a).map (fun x => (x.reported, x.substituted, x.present)) = some (pos, r.substituted, flags)) ∧
      (∀ before n v after r, l = before ++ .presence n v :: after →
        own (.presence n v) = true → (∀ w, .presence n w ∉ after) → s.node n = some r →
        (t.node n).map (fun x => (x.lastSample, x.substituted)) = some (some (min v 2000), r.substituted)) ∧
      (∀ a, (∀ pos flags, .apparatus a pos flags ∈ l → own (.apparatus a pos flags) = false) →
        (t.app a).map AppLive.inputs = (s.app a).map AppLive.inputs) ∧
      (∀ n, (∀ v, .presence n v ∈ l → own (.presence n v) = false) → t.node n = s.node n))

/-- R10, R11, R13, R38, R39, R79, R87: a report of one presence item outside a held pass: the candidate, the counter and the
class, and what an image change of the node does to the pass and to the evaluation. R12, R14, R40, R41: the item in a held
pass, whose current class is that of the held copy. -/
def Obligations.ReportedPresenceItem : Prop :=
  (∀ (s : State) (p : Nat) (f : Frame) (n sample : Nat) (d : NodeDesc) (r : NodeLive) (cand : Cand),
    s.Takes p .positionReport f → decodeReport f.body = some [.presence n sample] →
    s.heldPassRunning = false → s.nodeDesc n = some d → d.measured = true → d.port = some p →
    s.node n = some r → cand = candidate s.force.settings r.cls (min sample 2000) →
    ∃ t x, exec (.positionReport p) s = .next t ∧ t.node n = some x ∧
      x.lastSample = some (min sample 2000) ∧ x.lastCandidate = some cand ∧
      x.effective = effectiveClass r.substituted x.cls ∧ x.substituted = r.substituted ∧
      (cand.toCls = r.cls → x.counter = 0 ∧ x.cls = r.cls) ∧
      (cand = .live → r.cls ≠ .live → x.counter = 0 ∧ x.cls = .live) ∧
      (cand = .dead → r.cls ≠ .dead → r.lastCandidate = some .dead →
        r.counter + 1 < s.force.settings.confirmCount → x.counter = r.counter + 1 ∧ x.cls = r.cls) ∧
      (cand = .dead → r.cls ≠ .dead → r.lastCandidate = some .dead →
        r.counter + 1 = s.force.settings.confirmCount → x.counter = 0 ∧ x.cls = .dead) ∧
      (cand = .dead → r.cls ≠ .dead → r.lastCandidate ≠ some .dead →
        1 < s.force.settings.confirmCount → x.counter = 1 ∧ x.cls = r.cls) ∧
      (cand = .dead → r.cls ≠ .dead → r.lastCandidate ≠ some .dead →
        s.force.settings.confirmCount = 1 → x.counter = 0 ∧ x.cls = .dead) ∧
      s.answers t p f .done [1#8, 0#8, 0xFF#8] ∧
      t.apps.map AppLive.inputs = s.apps.map AppLive.inputs ∧ t.substs = s.substs ∧
      (∀ m, m ≠ n → t.node m = s.node m) ∧
      x.marker = (r.marker || x.effective != r.effective) ∧
      (x.effective = r.effective → t.pass = s.pass ∧ t.spoils = s.spoils ∧ t.evaluation = s.evaluation) ∧
      (x.effective ≠ r.effective →
        (s.pass = none → t.pass = some (freshPass false) ∧ t.spoils = s.spoils) ∧
        (∀ w, s.pass = some w → (∃ y ∈ w.readNodes, y.number = n) →
          t.pass = some (freshPass (decide (3 ≤ s.spoils + 1))) ∧ t.spoils = s.spoils + 1) ∧
        (∀ w, s.pass = some w → (∀ y ∈ w.readNodes, y.number ≠ n) → t.pass = s.pass ∧ t.spoils = s.spoils) ∧
        (∀ v e, s.evaluation = some v → s.entry v.ticket = some e →
          (n ∉ e.footprint ++ v.candidateReach → t.evaluation = s.evaluation ∧ t.entries = s.entries) ∧
          (n ∈ e.footprint ++ v.candidateReach → t.evaluation = none) ∧
          (n ∈ e.footprint ++ v.candidateReach → e.cancelPending = false → s.muted e.owner = false →
            v.expired = false → (s.mode.isFreeze = false ∨ s.heldBack e = false) →
            (e.voidCount < 2 →
              t.entries = s.entries.map (fun y => if y.ticket = e.ticket then
                { y with state := .queued, voidCount := e.voidCount + 1 } else y) ∧
              (e.coupled = false →
                (t.port e.owner).queue = e.ticket :: (s.port e.owner).queue.filter (· ≠ e.ticket))) ∧
            (2 ≤ e.voidCount → v.reoffer = false → s.force.settings.deferralLimit ≠ 0 →
              t.entries = s.entries.map (fun y => if y.ticket = e.ticket then
                { y with state := .deferred, voidCount := 3, cause := some .unsettled,
                         deadline := some (y.deadline.getD s.force.settings.deferralLimit) } else y)))))) ∧
  (∀ (s : State) (p : Nat) (f : Frame) (n sample : Nat) (d : NodeDesc) (r : NodeLive),
    s.Takes p .positionReport f → decodeReport f.body = some [.presence n sample] →
    s.heldPassRunning = true → s.nodeDesc n = some d → d.measured = true → d.port = some p → s.node n = some r →
    let taken := fun (c : Cls) => classify s.force.settings c r.counter r.lastCandidate
      (candidate s.force.settings c (min sample 2000))
    let sampled := fun (x : NodeLive) => (x.counter, x.lastCandidate, x.lastSample)
    let now := fun (x : NodeLive) => (x.cls, x.effective, x.marker)
    (∀ c sub q, s.heldFor (.node n) = some { target := .node n, copy := .node c sub q } →
      ∃ t, exec (.positionReport p) s = .next t ∧ s.answers t p f .done [1#8, 0#8, 0xFF#8] ∧
        t.heldFor (.node n) = some { target := .node n, copy := .node (taken c).2 sub q } ∧
        (t.node n).map sampled =
          some ((taken c).1, some (candidate s.force.settings c (min sample 2000)), some (min sample 2000)) ∧
        (t.node n).map now = some (r.cls, r.effective, r.marker)) ∧
    (s.heldFor (.node n) = none → (taken r.cls).2 ≠ r.cls → r.substituted = none →
      (32 ≤ s.held.length →
        exec (.positionReport p) s = .next (s.answered p f .heldFull [0#8, 1#8, 0x17#8])) ∧
      (s.held.length < 32 → ∃ t q, exec (.positionReport p) s = .next t ∧ s.answers t p f .done [1#8, 0#8, 0xFF#8] ∧
        t.held = s.held ++ [{ target := .node n, copy := .node (taken r.cls).2 none q }] ∧
        (t.node n).map sampled =
          some ((taken r.cls).1, some (candidate s.force.settings r.cls (min sample 2000)), some (min sample 2000)) ∧
        (t.node n).map now = some (r.cls, r.effective, true))) ∧
    (s.heldFor (.node n) = none → (taken r.cls).2 = r.cls ∨ r.substituted ≠ none →
      ∃ t, exec (.positionReport p) s = .next t ∧ s.answers t p f .done [1#8, 0#8, 0xFF#8] ∧ t.held = s.held ∧
        (t.node n).map NodeLive.cls = some (taken r.cls).2))

/-- R8: an item whose target is not the port's is refused and leaves the image as it was. -/
def Obligations.ForeignItemsRefused : Prop :=
  ∀ (s : State) (p : Nat) (f : Frame) (x : ReportItem),
    s.Takes p .positionReport f → decodeReport f.body = some [x] →
    (∀ a pos flags, x = .apparatus a pos flags → ∀ d, s.appDesc a = some d → d.port ≠ p) →
    (∀ n v, x = .presence n v → ∀ d, s.nodeDesc n = some d → d.measured = true → d.port ≠ some p) →
    exec (.positionReport p) s = .next (s.answered p f .notYourItem [0#8, 1#8, 0x0A#8])

/-- R15, R16: SUBSTITUTE and END SUBSTITUTION of an apparatus outside a held pass, and of a node. R14, R40, R41: the
same in a held pass; which substitutions stand there, and count against the table, is log 26's reading. Both requests'
refusals, in the order of their checks. -/
def Obligations.SubstitutionsAct : Prop :=
  (∀ (s : State) (p : Nat) (f : Frame), s.heldPassRunning = false → s.held = [] →
    (∀ a g d r, s.Takes p .substitute f → decodeSubstitute f.body = some (.apparatus a, .position g) →
      s.appDesc a = some d → s.app a = some r → r.ticket = none →
      (s.subst (.apparatus a)).isSome = true ∨ s.substs.length < 16 →
      ∃ t x, exec (.substitute p) s = .next t ∧ t.app a = some x ∧
        x.substituted = some g ∧ x.effective = g.pos ∧ x.reported = r.reported ∧
        t.subst (.apparatus a) = some { target := .apparatus a, value := .position g, port := p } ∧
        t.nodes = s.nodes ∧ s.answers t p f .done []) ∧
    (∀ n c d r, s.Takes p .substitute f → decodeSubstitute f.body = some (.node n, .cls c) →
      s.nodeDesc n = some d → d.measured = true → s.node n = some r →
      (s.subst (.node n)).isSome = true ∨ s.substs.length < 16 →
      ∃ t x, exec (.substitute p) s = .next t ∧ t.node n = some x ∧
        x.substituted = some c ∧ x.effective = c.toCls ∧ x.cls = r.cls ∧
        t.subst (.node n) = some { target := .node n, value := .cls c, port := p } ∧
        t.apps.map AppLive.inputs = s.apps.map AppLive.inputs ∧ s.answers t p f .done []) ∧
    (∀ a d r, s.Takes p .endSubstitution f → decodeEndSubstitution f.body = some (.apparatus a) →
      s.appDesc a = some d → s.app a = some r → (s.subst (.apparatus a)).isSome = true →
      ∃ t x, exec (.endSubstitution p) s = .next t ∧ t.app a = some x ∧
        x.substituted = none ∧ x.effective = effectivePosition none (s.reporterActive d) r.reported ∧
        t.subst (.apparatus a) = none ∧ t.nodes = s.nodes ∧ s.answers t p f .done []) ∧
    (∀ n d r, s.Takes p .endSubstitution f → decodeEndSubstitution f.body = some (.node n) →
      s.nodeDesc n = some d → d.measured = true → s.node n = some r → (s.subst (.node n)).isSome = true →
      ∃ t x, exec (.endSubstitution p) s = .next t ∧ t.node n = some x ∧
        x.substituted = none ∧ x.effective = r.cls ∧ t.subst (.node n) = none ∧
        t.apps.map AppLive.inputs = s.apps.map AppLive.inputs ∧ s.answers t p f .done [])) ∧
  (∀ (s : State) (p : Nat) (f : Frame), s.heldPassRunning = true →
    (∀ a g d r, s.Takes p .substitute f → decodeSubstitute f.body = some (.apparatus a, .position g) →
      s.appDesc a = some d → s.app a = some r → r.ticket = none →
      s.substStands (.apparatus a) = true ∨ s.substCount < 16 →
      (s.heldFor (.apparatus a) = none → g.pos = r.effective →
        ∃ t, exec (.substitute p) s = .next t ∧ s.answers t p f .done [] ∧ t.held = s.held ∧
          t.subst (.apparatus a) = some { target := .apparatus a, value := .position g, port := p } ∧
          (t.app a).map AppLive.substituted = some (some g) ∧ (t.app a).map AppLive.effective = some r.effective) ∧
      (s.heldFor (.apparatus a) = none → g.pos ≠ r.effective → 32 ≤ s.held.length →
        exec (.substitute p) s = .next (s.answered p f .heldFull [])) ∧
      (s.heldFor (.apparatus a) = none → g.pos ≠ r.effective → s.held.length < 32 →
        ∃ t, exec (.substitute p) s = .next t ∧ s.answers t p f .done [] ∧ t.substs = s.substs ∧
          t.held = s.held ++ [{ target := .apparatus a, copy := .apparatus r.reported (some g) p }] ∧
          (t.app a).map AppLive.inputs = some r.inputs ∧ (t.app a).map AppLive.marker = some true) ∧
      (∀ old sub q, s.heldFor (.apparatus a) = some { target := .apparatus a, copy := .apparatus old sub q } →
        ∃ t, exec (.substitute p) s = .next t ∧ s.answers t p f .done [] ∧ t.substs = s.substs ∧
          t.heldFor (.apparatus a) = some { target := .apparatus a, copy := .apparatus old (some g) p } ∧
          (t.app a).map AppLive.inputs = some r.inputs)) ∧
    (∀ n c d r, s.Takes p .substitute f → decodeSubstitute f.body = some (.node n, .cls c) →
      s.nodeDesc n = some d → d.measured = true → s.node n = some r →
      s.substStands (.node n) = true ∨ s.substCount < 16 → s.heldFor (.node n) = none → c.toCls ≠ r.effective →
      (32 ≤ s.held.length → exec (.substitute p) s = .next (s.answered p f .heldFull [])) ∧
      (s.held.length < 32 →
        ∃ t, exec (.substitute p) s = .next t ∧ s.answers t p f .done [] ∧ t.substs = s.substs ∧
          t.held = s.held ++ [{ target := .node n, copy := .node r.cls (some c) p }] ∧
          t.node n = some { r with marker := true })) ∧
    (∀ a d r, s.Takes p .endSubstitution f → decodeEndSubstitution f.body = some (.apparatus a) →
      s.appDesc a = some d → s.app a = some r → s.substStands (.apparatus a) = true →
      (s.heldFor (.apparatus a) = none → effectivePosition none (s.reporterActive d) r.reported ≠ r.effective →
        (32 ≤ s.held.length → exec (.endSubstitution p) s = .next (s.answered p f .heldFull [])) ∧
        (s.held.length < 32 →
          ∃ t, exec (.endSubstitution p) s = .next t ∧ s.answers t p f .done [] ∧ t.substs = s.substs ∧
            (∃ q, t.held = s.held ++ [{ target := .apparatus a, copy := .apparatus r.reported none q }]) ∧
            (t.app a).map AppLive.inputs = some r.inputs ∧ (t.app a).map AppLive.marker = some true)) ∧
      (∀ old sub q, s.heldFor (.apparatus a) = some { target := .apparatus a, copy := .apparatus old sub q } →
        ∃ t, exec (.endSubstitution p) s = .next t ∧ s.answers t p f .done [] ∧ t.substs = s.substs ∧
          (∃ q', t.heldFor (.apparatus a) = some { target := .apparatus a, copy := .apparatus old none q' }) ∧
          (t.app a).map AppLive.inputs = some r.inputs))) ∧
  (∀ (s : State) (p : Nat) (f : Frame) (id : RecordId),
    let known := (∃ a, id = .apparatus a ∧ (s.appDesc a).isSome = true) ∨
      ∃ n d, id = .node n ∧ s.nodeDesc n = some d ∧ d.measured = true
    (∀ v, s.Takes p .substitute f → decodeSubstitute f.body = some (id, v) →
      let fits := (∃ a g, id = .apparatus a ∧ v = .position g) ∨ ∃ n c, id = .node n ∧ v = .cls c
      let engaged := ∃ a r t, id = .apparatus a ∧ s.app a = some r ∧ r.ticket = some t
      (¬ known → exec (.substitute p) s = .next (s.answered p f .unknownTarget [])) ∧
      (known → ¬ fits → exec (.substitute p) s = .next (s.answered p f .outOfRange [])) ∧
      (known → fits → engaged → exec (.substitute p) s = .next (s.answered p f .engaged [])) ∧
      (known → fits → ¬ engaged → s.substStands id = false → 16 ≤ s.substCount →
        exec (.substitute p) s = .next (s.answered p f .tableFull []))) ∧
    (s.Takes p .endSubstitution f → decodeEndSubstitution f.body = some id →
      (¬ known → exec (.endSubstitution p) s = .next (s.answered p f .unknownTarget [])) ∧
      (known → s.substStands id = false → exec (.endSubstitution p) s = .next (s.answered p f .notApplicable [])))) ∧
  (∀ (s : State) (id : RecordId),
    (s.substStands id = true ↔ (∃ y ∈ s.substs, y.target = id) ∨
      ∃ h, s.heldFor id = some h ∧
        ((∃ rep g q, h.copy = .apparatus rep (some g) q) ∨ ∃ cls c q, h.copy = .node cls (some c) q)) ∧
    s.substCount = s.substs.length + (s.held.filter (fun h =>
      (match h.copy with | .apparatus _ x _ => x.isSome | .node _ x _ => x.isSome) &&
        s.substs.all (fun y => y.target != h.target))).length)

/-! ### Re-offers and liftings (R86, R19, R141, R145) -/

/-- R86: a re-offer event returns every DEFERRED entry to QUEUED and marks the evaluation in flight, outside a freeze and
with no muted owner and no WAITING programme. -/
def Obligations.ReofferReturnsDeferred : Prop :=
  ∀ s : State, s.distinct → s.mode.isFreeze = false → s.waitingOrder = [] →
    (∀ e ∈ s.entries, e.state = .deferred → s.muted e.owner = false) →
    s.run [.reoffer] =
      { s with
        evaluation := s.evaluation.map (fun v => { v with reoffer := true })
        entries := s.entries.map (fun e => if e.state = .deferred then { e with state := .queued } else e) }

/-- R19, R140, R141, R145: ACKNOWLEDGE BLOCK, LIFT RESTRICTION and LIFT INSPECT OVERFLOW, where no entry is DEFERRED and no
programme WAITING. -/
def Obligations.LiftingsAct : Prop :=
  ∀ (s : State) (p : Nat) (f : Frame), s.calm →
    (∀ a c l, s.Takes p .acknowledgeBlock f → decodeAcknowledge f.body = some (a, c, l) → s.appDesc a = none →
      exec (.acknowledgeBlock p) s = .next (s.answered p f .unknownApparatus [])) ∧
    (∀ a c l r, s.Takes p .acknowledgeBlock f → decodeAcknowledge f.body = some (a, c, l) →
      (s.appDesc a).isSome = true → s.app a = some r →
      (r.latched.get c = false → exec (.acknowledgeBlock p) s = .next (s.answered p f .notApplicable [])) ∧
      (r.latched.get c = true → r.present.get c = true →
        exec (.acknowledgeBlock p) s = .next (s.answered p f .stillPresent [])) ∧
      (r.latched.get c = true → r.present.get c = false → r.latchNumbers.get c ≠ l →
        exec (.acknowledgeBlock p) s = .next (s.answered p f .staleAck [])) ∧
      (r.latched.get c = true → r.present.get c = false → r.latchNumbers.get c = l →
        exec (.acknowledgeBlock p) s = .next (State.answered
          { s.marked with apps := s.apps.map (fun x =>
              if x.number = a then { x with latched := x.latched.cleared c } else x) } p f .done []))) ∧
    (∀ i, s.Takes p .liftRestriction f → decodeNumber8 f.body = some i →
      (i = 0 ∨ 64 < i → exec (.liftRestriction p) s = .next (s.answered p f .outOfRange [])) ∧
      (1 ≤ i → i ≤ 64 → s.restrictions.any (fun r => r.id == i) = false →
        exec (.liftRestriction p) s = .next (s.answered p f .notApplicable [])) ∧
      (1 ≤ i → i ≤ 64 → s.restrictions.any (fun r => r.id == i) = true →
        exec (.liftRestriction p) s = .next (State.modPort
          { s.marked with
            restrictions := s.restrictions.filter (fun r => r.id ≠ i)
            writes := s.writes ++ [{ change := .remove i,
                                     requester := some { port := p, kind := f.kind, tag := f.tag } }] }
          p (fun q => { q with inProgress := some (Frame.started f) })))) ∧
    (∀ a, s.Takes p .liftInspectOverflow f → decodeNumber16 f.body = some a →
      (s.appDesc a = none → exec (.liftInspectOverflow p) s = .next (s.answered p f .unknownApparatus [])) ∧
      ((s.appDesc a).isSome = true → s.overflowMark a = false →
        exec (.liftInspectOverflow p) s = .next (s.answered p f .notApplicable [])) ∧
      ((s.appDesc a).isSome = true → s.overflowMark a = true →
        exec (.liftInspectOverflow p) s = .next (State.answered
          { s.marked with apps := s.apps.map (fun x =>
              if x.number = a then { x with overflow := false } else x) } p f .done [])))

/-! ### Movement requests (05) -/

/-- R97: the entry an accepted MOVE REQUEST makes, and its ACCEPTED answer; nothing else changes. R96: when a substitution stands
on an apparatus or waits in its held entry, and when it is engaged. -/
def Obligations.MoveRequestAccepted : Prop :=
  (∀ (s : State) (p : Nat) (f : Frame) (a : Nat) (g : Target) (d : AppDesc) (r : AppLive),
    s.Takes p .moveRequest f → decodeNumberTarget f.body = some (a, g) →
    (s.mode = .service ∨ (d.kind = .breaker ∧ g = .opened)) →
    ((s.port p).role = .supervisory ∨ d.port = p) → (s.port p).priority ≠ 0 →
    s.appDesc a = some d → s.app a = some r → s.substitutionOn a = false → r.ticket = none →
    (s.port p).queue.length < 4 → s.entries.length < 16 →
    exec (.moveRequest p) s = .next (State.modPort
      { s with
        ticketCounter := nextTicket s.freeTicket
        apps := s.apps.map (fun x => if x.number = a then { x with ticket := some s.freeTicket } else x)
        entries := insertBy Entry.ticket
          { ticket := s.freeTicket, owner := p, apparatus := a, target := g, programme := none, coupled := false,
            state := .queued, cause := none, voidCount := 0, deadline := none, releaseTime := none,
            footprint := [d.a, d.b].filter (· ≠ 0), reach := none, operatingTime := none,
            cancelPending := false, flavour := none } s.entries }
      p (fun q =>
        { q with
          queue := q.queue ++ [s.freeTicket]
          inProgress := some (Frame.started f)
          transmit := q.transmit ++ [Frame.answer f .accepted (put16 s.freeTicket)] }))) ∧
  (∀ (s : State) (a : Nat),
    (s.substitutionOn a = true ↔ (∃ y ∈ s.substs, y.target = .apparatus a) ∨
      ∃ rep g q, s.heldFor (.apparatus a) = some { target := .apparatus a, copy := .apparatus rep (some g) q }) ∧
    (s.engaged a = true ↔ ∃ r t, s.app a = some r ∧ r.ticket = some t))

/-- R96: the checks of a MOVE REQUEST in their order; the first that fails gives the answer and no entry is made. -/
def Obligations.MoveRequestRefused : Prop :=
  ∀ (s : State) (p : Nat) (f : Frame) (a : Nat) (g : Target),
    s.Offers p f → f.isKind .moveRequest = true → decodeNumberTarget f.body = some (a, g) →
    let frozenOut := s.mode = .restarting ∨ s.mode = .gathering ∨ s.mode = .maintenance ∨
      (s.mode ≠ .service ∧ ¬ (∃ d, s.appDesc a = some d ∧ d.kind = .breaker ∧ g = .opened))
    let foreign := (s.port p).role = .bay ∧ ¬ (∃ d, s.appDesc a = some d ∧ d.port = p)
    (frozenOut → exec (.moveRequest p) s = .next (s.answered p f .mode [])) ∧
    (¬ frozenOut → foreign → exec (.moveRequest p) s = .next (s.answered p f .portRole [])) ∧
    (¬ frozenOut → ¬ foreign →
      ((s.port p).priority = 0 → exec (.moveRequest p) s = .next (s.answered p f .portMuted [])) ∧
      ((s.port p).priority ≠ 0 → s.appDesc a = none →
        exec (.moveRequest p) s = .next (s.answered p f .unknownApparatus [])) ∧
      ((s.port p).priority ≠ 0 → (s.appDesc a).isSome = true →
        (s.substitutionOn a = true → exec (.moveRequest p) s = .next (s.answered p f .substituted [])) ∧
        (s.substitutionOn a = false → s.engaged a = true →
          exec (.moveRequest p) s = .next (s.answered p f .engaged [])) ∧
        (s.substitutionOn a = false → s.engaged a = false → 4 ≤ (s.port p).queue.length →
          exec (.moveRequest p) s = .next (s.answered p f .queueFull [])) ∧
        (s.substitutionOn a = false → s.engaged a = false → (s.port p).queue.length < 4 →
          16 ≤ s.entries.length → exec (.moveRequest p) s = .next (s.answered p f .tableFull []))))

/-- R110, 5.2: CANCEL of a live movement entry, by its state, and of a ticket that names none. The bytes of the answer's
state field are the model's (log 8). -/
def Obligations.CancelActsByState : Prop :=
  (∀ (s : State) (p : Nat) (f : Frame) (n : Nat) (e : Entry),
    s.Takes p .cancel f → decodeNumber16 f.body = some n → s.entry n = some e →
    (e.owner = p ∨ (s.port p).role = .supervisory) →
    ((e.state = .queued ∨ e.state = .deferred ∨ e.state = .suspended) → e.programme = none → s.calmBut n →
      ∃ t, exec (.cancel p) s = .next t ∧ s.Retired t e .cancelled ∧ s.answers t p f .done [0#8, 0#8]) ∧
    (e.state = .evaluating → exec (.cancel p) s = .next (State.answered
      (s.modEntry n (fun x => { x with cancelPending := true })) p f .done [1#8, 2#8])) ∧
    (e.state = .released →
      ∃ t, exec (.cancel p) s = .next t ∧
        t.entries = s.entries.map (fun x =>
          if x.ticket = n then { x with state := .revoking, flavour := some .cancel } else x) ∧
        s.answers t p f .done [1#8, 5#8] ∧
        (∀ q, s.reportingPort e.apparatus = some q → (s.port q).state = .active →
          noticeCount (s.port q).transmit < 32 → Outgoing.notice (.revoke n e.apparatus) ∈ (t.port q).transmit) ∧
        { t with entries := s.entries, ports := s.ports } = s) ∧
    (e.state = .revoking → exec (.cancel p) s = .next (State.answered
      (s.modEntry n (fun x => { x with flavour := some .cancel })) p f .done [1#8, 5#8])) ∧
    (e.state = .travelling ∨ e.state = .settling →
      exec (.cancel p) s = .next (s.answered p f .tooLate []))) ∧
  (∀ (s : State) (p : Nat) (f : Frame) (n : Nat), s.Takes p .cancel f → decodeNumber16 f.body = some n →
    (∀ e, s.entry n = some e → e.owner ≠ p → (s.port p).role ≠ .supervisory →
      exec (.cancel p) s = .next (s.answered p f .portRole [])) ∧
    (s.entry n = none → s.programme n = none →
      (s.endedItem n = none → exec (.cancel p) s = .next (s.answered p f .unknownTicket [])) ∧
      (∀ x, s.endedItem n = some x →
        (x.owner ≠ p → (s.port p).role ≠ .supervisory → exec (.cancel p) s = .next (s.answered p f .portRole [])) ∧
        (x.owner = p ∨ (s.port p).role = .supervisory → exec (.cancel p) s = .next (s.answered p f .tooLate [])))))

/-- R131, R128: CANCEL of a programme, by its state, and of a RUNNING one by its movement's (R110). That a STOPPING programme
has no stop reason yet is the model's choice (log 31). -/
def Obligations.CancelProgrammeActsByState : Prop :=
  ∀ (s : State) (p : Nat) (f : Frame) (n : Nat) (g : Programme),
    s.Takes p .cancel f → decodeNumber16 f.body = some n → s.entry n = none → s.programme n = some g →
    (g.owner ≠ p → (s.port p).role = .bay → exec (.cancel p) s = .next (s.answered p f .portRole [])) ∧
    ((g.owner = p ∨ (s.port p).role = .supervisory) →
      (g.state = .waiting → s.calmButProgramme n →
        ∃ t, exec (.cancel p) s = .next t ∧ t.entries = s.entries ∧
          t.programmes = s.programmes.filter (fun x => x.ticket ≠ n) ∧
          t.waitingOrder = s.waitingOrder.filter (· ≠ n) ∧
          ((s.port g.owner).state = .active → noticeCount (s.port g.owner).transmit < 32 →
            Outgoing.notice (.programmeEnded n g.current (some (.outcome .cancelled))) ∈
              (t.port g.owner).transmit) ∧
          s.answers t p f .done [3#8]) ∧
      (g.state = .stopping → exec (.cancel p) s = .next (s.answered p f .done [2#8])) ∧
      (g.state = .running → g.movement = none →
        exec (.cancel p) s = .next (State.answered
          (s.modProgramme n (fun x => { x with state := .stopping })) p f .done [2#8])) ∧
      (g.state = .running → ∀ m e, g.movement = some m → s.entry m = some e →
        (e.state = .travelling ∨ e.state = .settling →
          exec (.cancel p) s = .next (State.answered
            (s.modProgramme n (fun x => { x with state := .stopping })) p f .done [2#8])) ∧
        (e.state = .evaluating →
          exec (.cancel p) s = .next (State.answered
            (State.modEntry (s.modProgramme n (fun x => { x with state := .stopping })) m
              (fun x => { x with cancelPending := true })) p f .done [2#8])) ∧
        (e.state = .revoking →
          exec (.cancel p) s = .next (State.answered
            (State.modEntry (s.modProgramme n (fun x => { x with state := .stopping })) m
              (fun x => { x with flavour := some .cancel })) p f .done [2#8])) ∧
        (e.state = .released →
          ∃ t, exec (.cancel p) s = .next t ∧ s.answers t p f .done [2#8] ∧
            t.entries = s.entries.map (fun x =>
              if x.ticket = m then { x with state := .revoking, flavour := some .cancel } else x) ∧
            t.programmes = s.programmes.map (fun x => if x.ticket = n then { x with state := .stopping } else x) ∧
            (∀ q, s.reportingPort e.apparatus = some q → (s.port q).state = .active →
              noticeCount (s.port q).transmit < 32 →
              Outgoing.notice (.revoke m e.apparatus) ∈ (t.port q).transmit)) ∧
        (e.state = .queued ∨ e.state = .deferred ∨ e.state = .suspended → (∃ k, e.programme = some (n, k)) →
          (s.port g.owner).state = .active → s.calmBut m →
          ∃ t, exec (.cancel p) s = .next t ∧ s.answers t p f .done [3#8] ∧
            t.entries = s.entries.filter (fun x => x.ticket ≠ m) ∧
            t.programmes = s.programmes.filter (fun x => x.ticket ≠ n) ∧
            t.ended = (s.ended ++ [Entry.endedItem e .cancelled]).drop (s.ended.length + 1 - 16) ∧
            (noticeCount (s.port g.owner).transmit < 31 →
              Outgoing.notice (.programmeEnded n g.current (some (.outcome .cancelled))) ∈
                (t.port g.owner).transmit))))

/-- R108, R109, 5.2: AMEND of a live movement entry, by its state, and of a ticket that names none. -/
def Obligations.AmendActsByState : Prop :=
  (∀ (s : State) (p : Nat) (f : Frame) (n : Nat) (g : Target) (e : Entry),
    s.Takes p .amend f → decodeNumberTarget f.body = some (n, g) → s.entry n = some e →
    (e.owner ≠ p → exec (.amend p) s = .next (s.answered p f .portRole [])) ∧
    (e.owner = p → e.programme.isSome = true → exec (.amend p) s = .next (s.answered p f .notApplicable [])) ∧
    (e.owner = p → e.programme = none →
      (e.state = .evaluating → e.cancelPending = true →
        exec (.amend p) s = .next (s.answered p f .tooLate [])) ∧
      (¬ (e.state = .evaluating ∧ e.cancelPending = true) → e.target = g →
        exec (.amend p) s = .next (s.answered p f .done [])) ∧
      (e.target ≠ g → e.state.held = true → exec (.amend p) s = .next (s.answered p f .tooLate [])) ∧
      (e.target ≠ g → e.state = .suspended →
        exec (.amend p) s = .next (State.answered
          (s.modEntry n (fun x =>
            { x with target := g, voidCount := 0, cause := none, deadline := none })) p f .done [])) ∧
      (e.target ≠ g → e.state = .queued ∨ e.state = .deferred → s.muted p = false → s.mode.isFreeze = false →
        exec (.amend p) s = .next (State.answered
          (s.modEntry n (fun x =>
            { x with target := g, voidCount := 0, cause := none, deadline := none, state := .queued }))
          p f .done [])) ∧
      (e.target ≠ g → e.state = .evaluating → e.cancelPending = false → s.muted p = false →
        s.mode.isFreeze = false →
        exec (.amend p) s = .next (State.answered
          (State.modPort { s with
              evaluation := none
              entries := s.entries.map (fun x => if x.ticket = n then
                { x with target := g, voidCount := 0, cause := none, deadline := none, state := .queued } else x) }
            p (fun q => { q with queue := n :: q.queue.filter (· ≠ n) })) p f .done [])))) ∧
  (∀ (s : State) (p : Nat) (f : Frame) (n : Nat) (g : Target),
    s.Takes p .amend f → decodeNumberTarget f.body = some (n, g) → s.entry n = none →
    ((s.programme n).isSome = true → exec (.amend p) s = .next (s.answered p f .notApplicable [])) ∧
    (s.programme n = none → s.endedItem n = none → exec (.amend p) s = .next (s.answered p f .unknownTicket [])) ∧
    (s.programme n = none → ∀ x, s.endedItem n = some x →
      exec (.amend p) s = .next (s.answered p f (if x.owner = p then .tooLate else .portRole) [])))

/-- R106, 5.2: EXTEND of a live movement entry, and of a ticket that names none. -/
def Obligations.ExtendActsByState : Prop :=
  (∀ (s : State) (p : Nat) (f : Frame) (n amount : Nat) (e : Entry),
    s.Takes p .extend f → decodeExtend f.body = some (n, amount) → s.entry n = some e →
    (e.owner = p ∨ (s.port p).role = .supervisory) →
    (amount = 0 → exec (.extend p) s = .next (s.answered p f .outOfRange [])) ∧
    (amount ≠ 0 → e.state ≠ .travelling → exec (.extend p) s = .next (s.answered p f .notTravelling [])) ∧
    (amount ≠ 0 → e.state = .travelling → ∀ d, e.deadline = some d →
      exec (.extend p) s = .next (State.answered
        (s.modEntry n (fun x => { x with deadline := some (min 60000 (d + min 12000 amount)) })) p f
        (if 12000 < amount ∨ 60000 < d + min 12000 amount then .clamped else .done)
        (put16 (min 60000 (d + min 12000 amount)))))) ∧
  (∀ (s : State) (p : Nat) (f : Frame) (n amount : Nat), s.Takes p .extend f → decodeExtend f.body = some (n, amount) →
    (∀ e, s.entry n = some e → e.owner ≠ p → (s.port p).role ≠ .supervisory →
      exec (.extend p) s = .next (s.answered p f .portRole [])) ∧
    (s.entry n = none →
      ((s.programme n).isSome = true → exec (.extend p) s = .next (s.answered p f .notApplicable [])) ∧
      (s.programme n = none → s.endedItem n = none → exec (.extend p) s = .next (s.answered p f .unknownTicket [])) ∧
      (s.programme n = none → ∀ x, s.endedItem n = some x →
        (x.owner ≠ p → (s.port p).role ≠ .supervisory → exec (.extend p) s = .next (s.answered p f .portRole [])) ∧
        (x.owner = p ∨ (s.port p).role = .supervisory → exec (.extend p) s = .next (s.answered p f .tooLate [])))))

/-- R112, R154, R155, 5.2: REVOKE ANSWER of a live movement entry, and of a ticket that names none. That a full queue is
tested before a muted owner is the model's choice (log 16). -/
def Obligations.RevokeAnswerActsByState : Prop :=
  (∀ (s : State) (p : Nat) (f : Frame) (n : Nat) (a : RevokeReply) (e : Entry) (d : AppDesc),
    s.Takes p .revokeAnswer f → decodeRevokeAnswer f.body = some (n, a) → s.entry n = some e →
    s.appDesc e.apparatus = some d →
    (d.port ≠ p → exec (.revokeAnswer p) s = .next (s.answered p f .portRole [])) ∧
    (d.port = p → e.state ≠ .revoking → exec (.revokeAnswer p) s = .next (s.answered p f .notApplicable [])) ∧
    (d.port = p → e.state = .revoking → a = .started →
      exec (.revokeAnswer p) s = .next (State.answered
        (s.modEntry n (fun x =>
          { x with state := .travelling, flavour := none, deadline := some d.travelLimit })) p f .done [])) ∧
    (d.port = p → e.state = .revoking → a = .withdrawn → e.flavour ≠ some .freeze → e.programme = none →
      s.calm → s.mode ≠ .freezing →
      ∃ t, exec (.revokeAnswer p) s = .next t ∧ s.Retired t e .cancelled ∧ s.answers t p f .done []) ∧
    (d.port = p → e.state = .revoking → a = .withdrawn → e.flavour ≠ some .freeze → e.programme = none →
      s.calm → s.mode = .freezing → s.heldBack e = true →
      ∃ t, exec (.revokeAnswer p) s = .next t ∧ s.Retired t e .cancelled ∧ s.answers t p f .done [] ∧
        t.mode = (if t.noneHeldBack then .frozen else .freezing)) ∧
    (d.port = p → e.state = .revoking → a = .withdrawn → e.flavour = some .freeze → e.coupled = false →
      (s.port e.owner).queue.length < 4 → s.muted e.owner = false → s.calm →
      s.mode = .service ∨ s.mode = .frozen →
      ∃ t, exec (.revokeAnswer p) s = .next t ∧ s.answers t p f .done [] ∧
        t.entries = s.entries.map (fun x => if x.ticket = n then
          { x with
            state := if s.mode.isFreeze && s.heldBack e then .suspended else .queued
            reach := none, deadline := none, releaseTime := none, flavour := none, voidCount := 0, cause := none }
          else x) ∧
        (t.port e.owner).queue = n :: (s.port e.owner).queue.filter (· ≠ n)) ∧
    (d.port = p → e.state = .revoking → a = .withdrawn → e.flavour = some .freeze → e.coupled = false →
      (s.port e.owner).queue.length < 4 → s.muted e.owner = false → s.calm → s.mode = .freezing → s.heldBack e = true →
      ∃ t, exec (.revokeAnswer p) s = .next t ∧ s.answers t p f .done [] ∧
        t.entries = s.entries.map (fun x => if x.ticket = n then
          { x with
            state := .suspended
            reach := none, deadline := none, releaseTime := none, flavour := none, voidCount := 0, cause := none }
          else x) ∧
        (t.port e.owner).queue = n :: (s.port e.owner).queue.filter (· ≠ n) ∧
        t.mode = (if t.noneHeldBack then .frozen else .freezing) ∧
        (t.mode = .frozen → s.Announced t 0 (.modeChanged .freezing .frozen))) ∧
    (d.port = p → e.state = .revoking → a = .withdrawn → e.flavour = some .freeze → e.coupled = false →
      4 ≤ (s.port e.owner).queue.length → e.programme = none → s.calm → s.mode = .service ∨ s.mode = .frozen →
      ∃ t, exec (.revokeAnswer p) s = .next t ∧ s.answers t p f .done [] ∧
        t.entries = s.entries.filter (fun x => x.ticket ≠ n) ∧
        t.ended = (s.ended ++ [Entry.endedItem e (.refused .queueFull)]).drop (s.ended.length + 1 - 16))) ∧
  (∀ (s : State) (p : Nat) (f : Frame) (n : Nat) (a : RevokeReply),
    s.Takes p .revokeAnswer f → decodeRevokeAnswer f.body = some (n, a) → s.entry n = none →
    ((s.programme n).isSome = true → exec (.revokeAnswer p) s = .next (s.answered p f .notApplicable [])) ∧
    (s.programme n = none → s.endedItem n = none →
      exec (.revokeAnswer p) s = .next (s.answered p f .unknownTicket [])) ∧
    (s.programme n = none → ∀ x, s.endedItem n = some x →
      ((∃ d, s.appDesc x.apparatus = some d ∧ d.port = p) →
        exec (.revokeAnswer p) s = .next (s.answered p f .notApplicable [])) ∧
      (¬ (∃ d, s.appDesc x.apparatus = some d ∧ d.port = p) →
        exec (.revokeAnswer p) s = .next (s.answered p f .portRole []))))

/-- R94: with the tables within their places, the number issued next names no entry, programme or ended item. -/
def Obligations.IssuedTicketIsFree : Prop :=
  ∀ s : State, s.tableLaw → 1 ≤ s.ticketCounter → s.ticketCounter ≤ 65535 →
    s.ticketUsed s.freeTicket = false ∧ 1 ≤ s.freeTicket ∧ s.freeTicket ≤ 65535

/-- R87, R100, R103, R116, R142, R154: the expiries of a live entry's timer, by its state. That an INSPECT which stands gets a
write for its raised count is log 15's reading, and at count 255 the model's choice (log 15). -/
def Obligations.EntryTimersExpire : Prop :=
  ∀ (s : State) (n : Nat) (e : Entry),
    s.heldInReset = false → s.entry n = some e → e.deadline = some 0 → e.programme = none → s.calmBut n →
    s.mode ≠ .freezing →
    (e.state = .queued ∨ e.state = .deferred → ∀ c, e.cause = some c →
      ∃ t, exec (.deferralClockExpiry n) s = .next t ∧
        s.Retired t e (.refused (if c = .reserved then .zoneEngaged else .unsettled)) ∧
        t.restrictions = s.restrictions) ∧
    (e.state = .evaluating → exec (.deferralClockExpiry n) s = .next
      { s with evaluation := s.evaluation.map (fun v => { v with expired := true }) }) ∧
    (e.state = .released →
      ∃ t, exec (.startWindowExpiry n) s = .next t ∧ s.Retired t e .lapsed ∧ t.restrictions = s.restrictions ∧
        ∀ q, s.reportingPort e.apparatus = some q → (s.port q).state = .active → noticeCount (s.port q).transmit < 32 →
          Outgoing.notice (.revoke n e.apparatus) ∈ (t.port q).transmit) ∧
    (e.state = .revoking → e.flavour = some .cancel →
      ∃ t, exec (.startWindowExpiry n) s = .next t ∧ s.Retired t e .cancelled ∧
        t.restrictions = s.restrictions) ∧
    (e.state = .revoking → e.flavour = some .freeze → e.coupled = false → (s.port e.owner).queue.length < 4 →
      s.muted e.owner = false →
      ∃ t, exec (.startWindowExpiry n) s = .next t ∧ t.ended = s.ended ∧
        t.entries = s.entries.map (fun x => if x.ticket = n then
          { x with
            state := if s.mode.isFreeze && s.heldBack e then .suspended else .queued
            reach := none, deadline := none, releaseTime := none, flavour := none, voidCount := 0, cause := none }
          else x) ∧
        (t.port e.owner).queue = n :: (s.port e.owner).queue.filter (· ≠ n)) ∧
    (e.state = .travelling → (∀ x ∈ s.entries, x.apparatus = e.apparatus → x.ticket = n) →
      ∃ t, exec (.travelDeadlineExpiry n) s = .next t ∧ s.Retired t e .timedOut ∧ s.Inspected t e.apparatus)

/-- R113, R114, R139: a RELEASED entry that a blocking event or a restriction reaches is revoked and ends
BLOCKED_AFTER_RELEASE. -/
def Obligations.BlockedReleaseEnds : Prop :=
  (∀ (s : State) (e : Entry), s.entry e.ticket = some e → e.state = .released → e.programme = none → s.calm →
    s.mode ≠ .freezing →
    s.Retired (s.run [.blockEnd e.ticket]) e .blockedAfterRelease ∧
    (∀ q, s.reportingPort e.apparatus = some q → (s.port q).state = .active →
      noticeCount (s.port q).transmit < 32 →
      Outgoing.notice (.revoke e.ticket e.apparatus) ∈ ((s.run [.blockEnd e.ticket]).port q).transmit)) ∧
  (∀ (s : State) (p : Nat) (f : Frame) (a : Nat) (pos : Pos) (flags : Flags4) (d : AppDesc) (r : AppLive) (e : Entry),
    s.Takes p .positionReport f → decodeReport f.body = some [.apparatus a pos flags] →
    s.heldPassRunning = false → s.appDesc a = some d → d.port = p → s.app a = some r →
    effectivePosition r.substituted (s.reporterActive d) pos = r.effective →
    (∃ c, flags.get c = true ∧ r.present.get c = false) →
    s.entry e.ticket = some e → e.state = .released → e.apparatus = a → e.programme = none →
    (∀ x ∈ s.entries, x.apparatus = a → x.ticket = e.ticket) → s.calm → s.mode ≠ .freezing →
    ∃ t, exec (.positionReport p) s = .next t ∧ s.answers t p f .done [1#8, 0#8, 0xFF#8] ∧
      State.Retired (s.modApp a (fun x => AppLive.withBlocking
        { x with reported := pos, substituted := r.substituted, effective := r.effective } d.latchedModes flags))
        t e .blockedAfterRelease ∧
      ((s.port p).state = .active → noticeCount (s.port p).transmit < 32 →
        Outgoing.notice (.revoke e.ticket a) ∈ (t.port p).transmit))

/-! ### Programmes (06) -/

/-- R123, R124, R126: an accepted PROGRAMME REQUEST whose step 1 finds room makes the programme and its first entry, and ends
it at once where the step is SKIPPED and the only one. R124 to R127, R129, R130: how a programme goes on when its movement
retires: it ends, stops, waits, or starts its next step, and a COUPLED one takes over the carry. -/
def Obligations.ProgrammeAccepted : Prop :=
  (∀ (s : State) (p : Nat) (f : Frame) (st : Step) (rest : List Step),
    s.Takes p .programmeRequest f → decodeProgramme f.body = some (st :: rest) →
    s.tableLaw → s.ticketLaw →
    (∀ x ∈ st :: rest, ∃ d, s.appDesc x.apparatus = some d ∧ ((s.port p).role = .bay → d.port = p)) →
    (s.port p).priority ≠ 0 → st.coupled = false → rest.length ≤ 7 → s.programmes.length < 8 →
    s.substitutionOn st.apparatus = false → s.engaged st.apparatus = false →
    (s.port p).queue.length < 4 → s.entries.length < 16 →
    ((st.skipIfThere && s.alreadyThere st) = false →
      ∃ t m, exec (.programmeRequest p) s = .next t ∧ s.ticketUsed m = false ∧ m ≠ s.freeTicket ∧
        t.programmes = s.programmes ++
          [{ ticket := s.freeTicket, owner := p, steps := st :: rest, current := 1, state := .running,
             movement := some m, waiting := none, carry := none, stopReason := none }] ∧
        t.entries = insertBy Entry.ticket
          { ticket := m, owner := p, apparatus := st.apparatus, target := st.target,
            programme := some (s.freeTicket, 1), coupled := false, state := .queued, cause := none, voidCount := 0,
            deadline := none, releaseTime := none, footprint := s.footprintOf st.apparatus, reach := none,
            operatingTime := none, cancelPending := false, flavour := none } s.entries ∧
        (t.port p).queue = (s.port p).queue ++ [m] ∧
        s.answers t p f .accepted (put16 s.freeTicket)) ∧
    (st.skipIfThere = true → s.alreadyThere st = true → rest = [] → s.calm → (s.port p).state = .active →
      ∃ t m, exec (.programmeRequest p) s = .next t ∧ s.ticketUsed m = false ∧ m ≠ s.freeTicket ∧
        t.programmes = s.programmes ∧ t.entries = s.entries ∧
        t.ended = (s.ended ++ [({ ticket := m, owner := p, apparatus := st.apparatus, outcome := .skipped,
                                  operatingTime := none } : Ended)]).drop (s.ended.length + 1 - 16) ∧
        (noticeCount (s.port p).transmit < 31 →
          Outgoing.notice (.programmeEnded s.freeTicket 1 none) ∈ (t.port p).transmit) ∧
        s.answers t p f .accepted (put16 s.freeTicket))) ∧
  (∀ (s : State) (g : Programme) (e : Entry) (k : Nat) (o : MoveOutcome),
    s.programme g.ticket = some g → (s.programmes.map Programme.ticket).Nodup → s.entry e.ticket = some e →
    e.programme = some (g.ticket, k) → e.owner = g.owner → g.movement = some e.ticket → g.state = .running →
    g.waiting = none → g.carry = none → (s.port g.owner).state = .active → s.calmBut e.ticket →
    s.tableLaw → s.ticketLaw → s.mode.isFreeze = false →
    (e.state = .settling → ∃ r, s.app e.apparatus = some r ∧ r.effective = e.target.pos) →
    let t := s.run [.retire e.ticket o]
    let left := s.entries.filter (fun x => x.ticket ≠ e.ticket)
    let others := s.programmes.filter (fun x => x.ticket ≠ g.ticket)
    let told := fun (step : Nat) (why : Option StopReason) => noticeCount (s.port g.owner).transmit < 31 →
      Outgoing.notice (.programmeEnded g.ticket step why) ∈ (t.port g.owner).transmit
    let goesOn := fun (x : Programme) =>
      t.programmes = s.programmes.map (fun y => if y.ticket = g.ticket then x else y)
    (o ≠ .completed → o ≠ .skipped →
      t.programmes = others ∧ t.entries = left ∧ told g.current (some (.outcome o))) ∧
    (o = .completed ∨ o = .skipped → g.steps[g.current]? = none →
      t.programmes = others ∧ t.entries = left ∧ told g.current none) ∧
    (o = .completed ∨ o = .skipped → ∀ st, g.steps[g.current]? = some st →
      (s.substitutionOn st.apparatus = true →
        t.programmes = others ∧ t.entries = left ∧ told (g.current + 1) (some .substituted)) ∧
      (s.substitutionOn st.apparatus = false → s.engaged st.apparatus = true → st.apparatus ≠ e.apparatus →
        (st.coupled = true → t.programmes = others ∧ t.entries = left ∧ told (g.current + 1) (some .engaged)) ∧
        (st.coupled = false → s.force.settings.deferralLimit = 0 →
          t.programmes = others ∧ t.entries = left ∧ told (g.current + 1) (some .noRoom)) ∧
        (st.coupled = false → s.force.settings.deferralLimit ≠ 0 →
          goesOn { g with current := g.current + 1, state := .waiting, movement := none,
                          waiting := some s.force.settings.deferralLimit } ∧
          t.entries = left ∧ t.waitingOrder = [g.ticket])) ∧
      (s.substitutionOn st.apparatus = false → s.engaged st.apparatus = false ∨ st.apparatus = e.apparatus →
        s.muted g.owner = false → (st.skipIfThere && s.alreadyThere st) = false →
        (st.coupled = true ∨ (s.port g.owner).queue.length < 4) →
        ∃ m, s.entry m = none ∧ s.programme m = none ∧
          goesOn { g with
            current := g.current + 1, movement := some m
            carry := if st.coupled = true ∧ o = .completed then
              some { footprint := e.footprint, reach := e.reach.getD [] } else none } ∧
          t.entries = insertBy Entry.ticket
            { ticket := m, owner := g.owner, apparatus := st.apparatus, target := st.target,
              programme := some (g.ticket, g.current + 1), coupled := st.coupled, state := .queued, cause := none,
              voidCount := 0, deadline := none, releaseTime := none, footprint := s.footprintOf st.apparatus,
              reach := none, operatingTime := none, cancelPending := false, flavour := none } left ∧
          (st.coupled = true → t.coupled = s.coupled.filter (· ≠ e.ticket) ++ [m] ∧
            (t.port g.owner).queue = (s.port g.owner).queue.filter (· ≠ e.ticket)) ∧
          (st.coupled = false →
            (t.port g.owner).queue = (s.port g.owner).queue.filter (· ≠ e.ticket) ++ [m])))) ∧
  (∀ (s : State) (st : Step), s.alreadyThere st = true ↔
    s.published.position st.apparatus = st.target.pos ∧ ∃ r, s.app st.apparatus = some r ∧ r.marker = false)

/-- R122: the checks of a PROGRAMME REQUEST in their order; the first that fails gives the answer. -/
def Obligations.ProgrammeRefused : Prop :=
  ∀ (s : State) (p : Nat) (f : Frame) (steps : List Step),
    s.Offers p f → f.isKind .programmeRequest = true → decodeProgramme f.body = some steps →
    let foreign := (s.port p).role = .bay ∧
      ∃ x ∈ steps, ∀ d, s.appDesc x.apparatus = some d → d.port ≠ p
    let wrong := steps = [] ∨ 8 < steps.length ∨ (∃ x, steps.head? = some x ∧ x.coupled = true)
    let unknown := ∃ x ∈ steps, s.appDesc x.apparatus = none
    (s.mode ≠ .service → exec (.programmeRequest p) s = .next (s.answered p f .mode [])) ∧
    (s.mode = .service →
      (foreign → exec (.programmeRequest p) s = .next (s.answered p f .portRole [])) ∧
      (¬ foreign → (s.port p).priority = 0 →
        exec (.programmeRequest p) s = .next (s.answered p f .portMuted [])) ∧
      (¬ foreign → (s.port p).priority ≠ 0 → wrong →
        exec (.programmeRequest p) s = .next (s.answered p f .malformed [])) ∧
      (¬ foreign → (s.port p).priority ≠ 0 → ¬ wrong → unknown →
        exec (.programmeRequest p) s = .next (s.answered p f .unknownApparatus [])) ∧
      (¬ foreign → (s.port p).priority ≠ 0 → ¬ wrong → ¬ unknown → 8 ≤ s.programmes.length →
        exec (.programmeRequest p) s = .next (s.answered p f .tableFull [])))

/-- R125: the waiting remaining of a WAITING programme expires and it stops NO_ROOM. -/
def Obligations.WaitingProgrammeExpires : Prop :=
  ∀ (s : State) (n : Nat) (g : Programme),
    s.heldInReset = false → s.programme n = some g → g.waiting = some 0 → s.calmButProgramme n →
    ∃ t, exec (.waitingRemainingExpiry n) s = .next t ∧
      t.programmes = s.programmes.filter (fun x => x.ticket ≠ n) ∧
      t.waitingOrder = s.waitingOrder.filter (· ≠ n) ∧
      t.entries = s.entries ∧ t.apps = s.apps ∧ t.restrictions = s.restrictions ∧
      ((s.port g.owner).state = .active → noticeCount (s.port g.owner).transmit < 32 →
        Outgoing.notice (.programmeEnded n g.current (some .noRoom)) ∈ (t.port g.owner).transmit)

/-! ### Restrictions (07) -/

/-- R136, R137, R138: an accepted PLACE RESTRICTION that forbids no RELEASED entry: the lowest free id, the write, and no
answer yet. R114, R139: one that forbids RELEASED entries ends each of them, whose order is the model's choice (log 32). -/
def Obligations.RestrictionPlaced : Prop :=
  (∀ (s : State) (p : Nat) (f : Frame) (k : RestrictionKind) (target label : Nat),
    s.Takes p .placeRestriction f → decodePlace f.body = some (k, target, label) →
    k ≠ .inspect →
    (k = .workZone → target ≠ 0 ∧ (s.nodeDesc target).isSome = true) →
    (k ≠ .workZone → (s.appDesc target).isSome = true) →
    (∀ r ∈ s.restrictions, ¬ (r.kind = k ∧ r.target = target ∧ r.label = label)) →
    s.restrictions.length < 64 →
    ((∀ i, s.releasedForbidden
        { id := i, kind := k, target := target, port := some p, label := label, count := none } = []) →
      ∃ i, s.lowestFree i ∧
        exec (.placeRestriction p) s = .next (State.modPort
          { s with
            restrictions := putBy Restriction.id
              { id := i, kind := k, target := target, port := some p, label := label, count := none } s.restrictions
            writes := s.writes ++
              [{ change := .put
                   { id := i, kind := k, target := target, port := some p, label := label, count := none },
                 requester := some { port := p, kind := f.kind, tag := f.tag } }] }
          p (fun q => { q with inProgress := some (Frame.started f) }))) ∧
    (∀ l, (∀ i, s.releasedForbidden
        { id := i, kind := k, target := target, port := some p, label := label, count := none } = l) →
      s.distinct → (∀ e ∈ s.entries, e.ticket ∈ l → e.programme = none) → s.calm → s.mode ≠ .freezing →
      ∃ t i, exec (.placeRestriction p) s = .next t ∧ s.lowestFree i ∧
        t.restrictions = putBy Restriction.id
          { id := i, kind := k, target := target, port := some p, label := label, count := none } s.restrictions ∧
        t.writes = s.writes ++
          [{ change := .put
               { id := i, kind := k, target := target, port := some p, label := label, count := none },
             requester := some { port := p, kind := f.kind, tag := f.tag } }] ∧
        (t.port p).inProgress = some (Frame.started f) ∧
        t.entries = s.entries.filter (fun e => !l.contains e.ticket) ∧
        (∀ e ∈ s.entries, l = [e.ticket] → s.Retired t e .blockedAfterRelease ∧
          ∀ q, s.reportingPort e.apparatus = some q → (s.port q).state = .active →
            noticeCount (s.port q).transmit < 32 →
            Outgoing.notice (.revoke e.ticket e.apparatus) ∈ (t.port q).transmit))) ∧
  (∀ (s : State) (r : Restriction) (n : Nat), n ∈ s.releasedForbidden r ↔
    ∃ e ∈ s.entries, e.ticket = n ∧ e.state = .released ∧
      ∃ d, s.appDesc e.apparatus = some d ∧ r.forbids d.kind e.apparatus e.target e.footprint = true)

/-- R138: the checks of a PLACE RESTRICTION in their order. -/
def Obligations.RestrictionRefused : Prop :=
  ∀ (s : State) (p : Nat) (f : Frame) (k : RestrictionKind) (target label : Nat),
    s.Takes p .placeRestriction f → decodePlace f.body = some (k, target, label) →
    let described := (k = .workZone → target ≠ 0 ∧ (s.nodeDesc target).isSome = true) ∧
      (k ≠ .workZone → (s.appDesc target).isSome = true)
    let duplicate := ∃ r ∈ s.restrictions, r.kind = k ∧ r.target = target ∧ r.label = label
    (k = .inspect → exec (.placeRestriction p) s = .next (s.answered p f .outOfRange [])) ∧
    (k ≠ .inspect → ¬ described → exec (.placeRestriction p) s = .next (s.answered p f .unknownTarget [])) ∧
    (k ≠ .inspect → described → duplicate →
      exec (.placeRestriction p) s = .next (s.answered p f .duplicate [])) ∧
    (k ≠ .inspect → described → ¬ duplicate → 64 ≤ s.restrictions.length →
      exec (.placeRestriction p) s = .next (s.answered p f .tableFull []))

/-- R137: the write in progress is complete: the storage changes, and its request is answered. -/
def Obligations.StorageWriteCompletes : Prop :=
  ∀ (s : State) (w : StorageWrite) (rest : List StorageWrite),
    s.heldInReset = false → s.writes = w :: rest →
    ∃ t, exec .restrictionWriteComplete s = .next t ∧ t.writes = rest ∧
      (∀ r, w.change = .put r → t.stored = putBy Restriction.id r s.stored) ∧
      (∀ i, w.change = .remove i → t.stored = s.stored.filter (fun r => r.id ≠ i)) ∧
      (w.requester = none → t.ports = s.ports) ∧
      (∀ q, w.requester = some q → t.ports = s.ports.modify q.port (fun x =>
        { x with transmit := x.transmit ++ [.answer (q.kind + 0x80#8) q.tag .done
          (match w.change with | .put r => put8 r.id | .remove _ => [])] })) ∧
      { t with writes := s.writes, stored := s.stored, ports := s.ports } = s

/-! ### Port priorities (R74, R75) -/

/-- R74, R75, R133: SET PORT PRIORITY: its checks, the new priority, and the muting of the entries and programmes that wait,
none, one or several.
The order in which several end is the model's choice (log 17) and not stated. -/
def Obligations.PortPrioritySet : Prop :=
  ∀ (s : State) (p : Nat) (f : Frame) (n v : Nat),
    s.Takes p .setPortPriority f → decodePriority f.body = some (n, v) → s.ports.length = 24 →
    (24 ≤ n → exec (.setPortPriority p) s = .next (s.answered p f .outOfRange [])) ∧
    (n < 24 → (s.port n).role = .unused →
      exec (.setPortPriority p) s = .next (s.answered p f .notApplicable [])) ∧
    (n < 24 → (s.port n).role ≠ .unused → 0 < v →
      exec (.setPortPriority p) s = .next (State.answered
        (s.modPort n (fun q => { q with priority := min v 15 })) p f (if 15 < v then .clamped else .done) [])) ∧
    (n < 24 → (s.port n).role ≠ .unused → v = 0 → ∀ e,
      s.entries.filter (fun x => x.owner == n && (x.state == .queued || x.state == .deferred)) = [e] →
      e.programme = none → s.entry e.ticket = some e → s.calmBut e.ticket →
      (∀ g ∈ s.programmes, g.state ≠ .waiting) →
      ∃ t, exec (.setPortPriority p) s = .next t ∧ (t.port n).priority = 0 ∧
        s.Retired t e (.refused .portMuted) ∧ s.answers t p f .done []) ∧
    (n < 24 → (s.port n).role ≠ .unused → v = 0 →
      (∀ e ∈ s.entries, e.owner = n → e.state ≠ .queued ∧ e.state ≠ .deferred) →
      (∀ g ∈ s.programmes, g.owner = n → g.state ≠ .waiting) →
      exec (.setPortPriority p) s = .next (State.answered
        (s.modPort n (fun q => { q with priority := 0 })) p f .done [])) ∧
    (n < 24 → (s.port n).role ≠ .unused → v = 0 → s.distinct →
      (s.programmes.map Programme.ticket).Nodup → s.programmes.length ≤ 8 →
      (∀ g ∈ s.programmes, g.owner = n → g.state = .waiting → g.carry = none) →
      (∀ x ∈ s.waitingOrder, ∃ g ∈ s.programmes, g.ticket = x ∧ g.owner = n ∧ g.state = .waiting) →
      (∀ e ∈ s.entries, e.owner = n → e.state = .queued ∨ e.state = .deferred → e.programme = none) →
      (∀ e ∈ s.entries, e.state = .deferred → e.owner = n) →
      (s.entries.filter (fun x => x.owner == n && (x.state == .queued || x.state == .deferred))).length ≤ 16 →
      ∃ t, exec (.setPortPriority p) s = .next t ∧ (t.port n).priority = 0 ∧ s.answers t p f .done [] ∧
        t.entries = s.entries.filter (fun x => !(x.owner == n && (x.state == .queued || x.state == .deferred))) ∧
        (∀ e ∈ s.entries, e.owner = n → e.state = .queued ∨ e.state = .deferred →
          Entry.endedItem e (.refused .portMuted) ∈ t.ended ∧ e.ticket ∉ (t.port n).queue) ∧
        t.programmes = s.programmes.filter (fun g => !(g.owner == n && g.state == .waiting)) ∧ t.waitingOrder = [] ∧
        ∀ g ∈ s.programmes, g.owner = n → g.state = .waiting → (s.port n).state = .active →
          noticeCount (s.port n).transmit + s.programmes.length + s.entries.length < 32 →
          Outgoing.notice (.programmeEnded g.ticket g.current (some (.outcome (.refused .portMuted)))) ∈
            (t.port n).transmit)

/-! ### Freeze (08) -/

/-- R149, R150, R155, R177: FREEZE, which movements it holds back, and what it makes of each entry by the table of R150.
Every queue stays, so a SUSPENDED entry keeps its place. -/
def Obligations.FreezeActs : Prop :=
  (∀ (s : State) (p : Nat) (f : Frame), s.Takes p .freeze f → f.body = [] → s.distinct →
    ((s.mode = .freezing ∨ s.mode = .frozen) →
      exec (.freeze p) s = .next (s.answered p f .already [])) ∧
    (s.mode = .service →
      ∃ t, exec (.freeze p) s = .next t ∧
        t.entries = s.entries.map (fun e =>
          if s.heldBack e = false then e
          else if e.state = .queued ∨ e.state = .deferred then { e with state := .suspended }
          else if e.state = .released then { e with state := .revoking, flavour := some .freeze }
          else e) ∧
        t.mode = (if t.noneHeldBack then .frozen else .freezing) ∧
        s.answers t p f .done (put8 t.mode.code) ∧
        (∀ e ∈ s.entries, s.heldBack e = true → e.state = .released →
          ∀ q, s.reportingPort e.apparatus = some q → q ≠ p → (s.port q).state = .active →
            noticeCount (s.port q).transmit + s.entries.length + 2 ≤ 32 →
            Outgoing.notice (.revoke e.ticket e.apparatus) ∈ (t.port q).transmit) ∧
        s.Announced t 0 (.modeChanged .service .freezing) ∧
        (t.mode = .frozen → s.Announced t (s.entries.length + 1) (.modeChanged .freezing .frozen)) ∧
        s.PortsStill t p f ∧
        { t with entries := s.entries, ports := s.ports, mode := s.mode } = s)) ∧
  (∀ (s : State) (e : Entry), s.heldBack e = false ↔
    ∃ d, s.appDesc e.apparatus = some d ∧ d.kind = .breaker ∧ e.target = .opened) ∧
  (∀ s : State, s.noneHeldBack = true ↔ ∀ e ∈ s.entries,
    e.state = .released ∨ e.state = .revoking ∨ e.state = .travelling ∨ e.state = .settling → s.heldBack e = false)

/-- R157, R177: THAW. Every queue stays, so a SUSPENDED entry that becomes QUEUED has kept its place. -/
def Obligations.ThawActs : Prop :=
  ∀ (s : State) (p : Nat) (f : Frame), s.Takes p .thaw f → f.body = [] → s.distinct →
    (s.mode = .service → exec (.thaw p) s = .next (s.answered p f .already [])) ∧
    (s.mode = .freezing ∨ s.mode = .frozen →
      (∀ e ∈ s.entries, e.state = .suspended → s.muted e.owner = false) →
      ∃ t, exec (.thaw p) s = .next t ∧ t.mode = .service ∧
        t.entries = s.entries.map (fun e => if e.state = .suspended then { e with state := .queued } else e) ∧
        s.answers t p f .done [] ∧
        s.Announced t 0 (.modeChanged s.mode .service) ∧ s.PortsStill t p f ∧
        { t with entries := s.entries, ports := s.ports, mode := s.mode } = s) ∧
    (s.mode = .freezing ∨ s.mode = .frozen → ∀ e, e ∈ s.entries → e.state = .suspended → s.muted e.owner = true →
      (∀ x ∈ s.entries, x.state = .suspended → x.ticket = e.ticket) → e.programme = none → s.calm →
      ∃ t, exec (.thaw p) s = .next t ∧ t.mode = .service ∧ s.Retired t e (.refused .portMuted) ∧
        s.answers t p f .done [])

/-! ### Modes, maintenance and resets (10) -/

/-- R181, R48, R160, R177: ENTER MAINTENANCE. -/
def Obligations.MaintenanceEntered : Prop :=
  ∀ (s : State) (p : Nat) (f : Frame), s.Takes p .enterMaintenance f → f.body = [] →
    (s.entries ≠ [] ∨ s.programmes ≠ [] →
      exec (.enterMaintenance p) s = .next (s.answered p f .engaged [])) ∧
    (s.entries = [] → s.programmes = [] →
      ∃ t, exec (.enterMaintenance p) s = .next t ∧ t.mode = .maintenance ∧ t.pass = none ∧ t.spoils = 0 ∧
        t.held = [] ∧ t.freezeCarried = (s.freezeCarried || s.mode == .frozen) ∧ s.answers t p f .done [] ∧
        s.Announced t 0 (.modeChanged s.mode .maintenance) ∧ s.PortsStill t p f ∧
        { t with mode := s.mode, pass := s.pass, spoils := s.spoils, held := s.held,
                 freezeCarried := s.freezeCarried, ports := s.ports } = s)

/-- R184, R28, R50, R162, R177, R180: LEAVE MAINTENANCE. That the description acted on is taken from the store here is log 4's
reading of R182. -/
def Obligations.MaintenanceLeft : Prop :=
  ∀ (s : State) (p : Nat) (f : Frame), s.Takes p .leaveMaintenance f → f.body = [] →
    s.ports.length = 24 → s.store.ports.length = 24 →
    (s.verified = false ∨ s.validation.isSome = true →
      exec (.leaveMaintenance p) s = .next (s.answered p f .unverified [])) ∧
    (s.verified = true → s.validation = none →
      ∃ t, exec (.leaveMaintenance p) s = .next t ∧ t.mode = .gathering ∧ t.force = s.store ∧
        t.gatheringTimer = some s.store.settings.gatheringLimit ∧ t.written = [] ∧
        t.published = Colouring.start ∧ t.publicationCount = s.publicationCount ∧ t.spoils = 0 ∧
        t.pass = some { held := false, takenUp := [], reached := [0], readApps := [], readNodes := [], draft := [] } ∧
        t.substs = [] ∧ t.held = [] ∧ t.freezeCarried = s.freezeCarried ∧ t.ended = s.ended ∧
        t.ticketCounter = s.ticketCounter ∧ t.restrictions = s.restrictions ∧
        (∀ i d, s.store.ports[i]? = some d →
          (t.port i).role = d.role ∧ (t.port i).silenceLimit = d.silenceLimit ∧
          (t.port i).priority = d.defaultPriority ∧
          ((s.port i).role = d.role → (t.port i).state = (s.port i).state ∧
            (t.port i).silenceTimer = (s.port i).silenceTimer) ∧
          ((s.port i).role ≠ d.role → (t.port i).state = .silent ∧ (t.port i).silenceTimer = none ∧
            (t.port i).inbound = [])) ∧
        (∀ d ∈ s.store.apparatus, ∃ x ∈ t.apps, x.number = d.number ∧ x.effective = .unknown ∧ x.marker = true ∧
          (d.number ∈ s.written → x.latched = Flags4.clear ∧ x.latchNumbers = LatchNumbers.zero ∧
            x.lastOutcome = none ∧ x.overflow = false) ∧
          (d.number ∉ s.written → ∀ r, s.app d.number = some r → x.latched = r.latched ∧
            x.latchNumbers = r.latchNumbers ∧ x.lastOutcome = r.lastOutcome ∧ x.overflow = r.overflow)) ∧
        t.apps.map AppLive.number = s.store.apparatus.map AppDesc.number ∧
        t.nodes.map NodeLive.number = (s.store.nodes.filter NodeDesc.measured).map NodeDesc.number ∧
        (∀ x ∈ t.nodes, x.cls = .unknown ∧ x.effective = .unknown ∧ x.counter = 0 ∧ x.lastCandidate = none ∧
          x.lastSample = none ∧ x.substituted = none ∧ x.marker = true) ∧
        (∀ q, q < 24 → (s.port q).role = .supervisory → (t.port q).role = .supervisory → (s.port q).state = .active →
          noticeCount (s.port q).transmit < 32 →
          Outgoing.notice (.modeChanged .maintenance .gathering) ∈ (t.port q).transmit) ∧
        Frame.answer f .done [] ∈ (t.port p).transmit)

/-- R182, R183: the six operations of LOAD YARD write the store, mark it unverified and disturb a validation. Each clamped
field takes the nearest bound of its range. -/
def Obligations.YardLoaded : Prop :=
  ∀ (s : State) (p : Nat) (f : Frame), s.Takes p .loadYard f →
    let disturbed := s.validation.map (fun v => { v with disturbed := true })
    (∀ n k m q, decodeYard f.body = some (.writeNode n k m q) → 1 ≤ n → n ≤ 255 → q < 24 ∨ q = 255 →
      exec (.writeNode p) s = .next (State.answered
        { s with
          verified := false, validation := disturbed
          store := { s.store with nodes := putBy NodeDesc.number (NodeDesc.mk n k m (if m ∧ q ≠ 255 then some q else none)) s.store.nodes } }
        p f .done [])) ∧
    (∀ n, decodeYard f.body = some (.removeNode n) → 1 ≤ n → n ≤ 255 → (∃ d ∈ s.store.nodes, d.number = n) →
      exec (.removeNode p) s = .next (State.answered
        { s with
          verified := false, validation := disturbed
          store := { s.store with nodes := s.store.nodes.filter (fun d => d.number ≠ n) } } p f .done [])) ∧
    (∀ d, decodeYard f.body = some (.writeApparatus d) →
      1 ≤ d.number → d.number ≤ 512 → d.a ≤ 255 → d.b ≤ 255 → d.port < 24 →
      ∃ w, w = { d with startWindow := max 50 (min 3000 d.startWindow)
                        travelLimit := max 100 (min 30000 d.travelLimit) } ∧
        exec (.writeApparatus p) s = .next (State.answered
          { s with
            verified := false, validation := disturbed
            store := { s.store with apparatus := putBy AppDesc.number w s.store.apparatus }
            written := if d.number ∈ s.written then s.written else s.written ++ [d.number] }
          p f (if w = d then .done else .clamped) [])) ∧
    (∀ n, decodeYard f.body = some (.removeApparatus n) → 1 ≤ n → n ≤ 512 →
      (∃ d ∈ s.store.apparatus, d.number = n) →
      exec (.removeApparatus p) s = .next (State.answered
        { s with
          verified := false, validation := disturbed
          store := { s.store with apparatus := s.store.apparatus.filter (fun d => d.number ≠ n) }
          written := if n ∈ s.written then s.written else s.written ++ [n] } p f .done [])) ∧
    (∀ q d, decodeYard f.body = some (.writePort q d) → q < 24 →
      ∃ w, w = { d with defaultPriority := min 15 d.defaultPriority
                        silenceLimit := max 100 (min 6000 d.silenceLimit) } ∧
        exec (.writePort p) s = .next (State.answered
          { s with
            verified := false, validation := disturbed
            store := { s.store with ports := s.store.ports.set q w } }
          p f (if w = d then .done else .clamped) [])) ∧
    (∀ x, decodeYard f.body = some (.writeSettings x) →
      ∃ w : Settings, w =
          { liveThreshold := max 300 (min 900 x.liveThreshold), deadThreshold := max 50 (min 250 x.deadThreshold)
            confirmCount := max 1 (min 8 x.confirmCount), settleLimit := max 10 (min 1000 x.settleLimit)
            deferralLimit := min 12000 x.deferralLimit, gatheringLimit := max 1000 (min 12000 x.gatheringLimit) } ∧
        exec (.writeSettings p) s = .next (State.answered
          { s with verified := false, validation := disturbed, store := { s.store with settings := w } }
          p f (if w = x then .done else .clamped) []))

/-- R182: a LOAD YARD with a structural field out of range is refused, and one that removes no record is NOT_APPLICABLE. -/
def Obligations.YardLoadRefused : Prop :=
  ∀ (s : State) (p : Nat) (f : Frame), s.Takes p .loadYard f →
    (∀ n k m q, decodeYard f.body = some (.writeNode n k m q) → n = 0 ∨ 255 < n ∨ (24 ≤ q ∧ q ≠ 255) →
      exec (.writeNode p) s = .next (s.answered p f .outOfRange [])) ∧
    (∀ n, decodeYard f.body = some (.removeNode n) →
      (n = 0 ∨ 255 < n → exec (.removeNode p) s = .next (s.answered p f .outOfRange [])) ∧
      (1 ≤ n → n ≤ 255 → (∀ d ∈ s.store.nodes, d.number ≠ n) →
        exec (.removeNode p) s = .next (s.answered p f .notApplicable []))) ∧
    (∀ d, decodeYard f.body = some (.writeApparatus d) →
      d.number = 0 ∨ 512 < d.number ∨ 255 < d.a ∨ 255 < d.b ∨ 24 ≤ d.port →
      exec (.writeApparatus p) s = .next (s.answered p f .outOfRange [])) ∧
    (∀ n, decodeYard f.body = some (.removeApparatus n) →
      (n = 0 ∨ 512 < n → exec (.removeApparatus p) s = .next (s.answered p f .outOfRange [])) ∧
      (1 ≤ n → n ≤ 512 → (∀ d ∈ s.store.apparatus, d.number ≠ n) →
        exec (.removeApparatus p) s = .next (s.answered p f .notApplicable []))) ∧
    (∀ q d, decodeYard f.body = some (.writePort q d) → 24 ≤ q →
      exec (.writePort p) s = .next (s.answered p f .outOfRange []))

/-- R183: COMMIT YARD begins a validation, each check takes the next record, and the end marks and answers. That the port
records are judged at port 23, and that a failure leaves the mark unverified whatever it was, are the model's (log 24), and
so is that a request cut off is answered to nobody (log 9). -/
def Obligations.ValidationRuns : Prop :=
  ∀ s : State,
    (∀ p f, s.Takes p .commitYard f → f.body = [] →
      (s.validation.isSome = true → exec (.commitYard p) s = .next (s.answered p f .notApplicable [])) ∧
      (s.validation = none → exec (.commitYard p) s = .next (State.modPort
        { s with validation := some (Validation.mk (.ports 0) none false (some { port := p, kind := f.kind, tag := f.tag })) }
        p (fun q => { q with inProgress := some (Frame.started f) })))) ∧
    (∀ v, s.heldInReset = false → s.validation = some v → v.failure = none →
      let apparatusNext := fun (d : AppDesc) => exec .validationRecordCheck s = .next
        { s with validation := some { v with
            cursor := .apparatus d.number
            failure := (s.checkApparatus d).map (fun x => { kind := .apparatus, number := d.number, reason := x }) } }
      let restrictionNext := fun (r : Restriction) => exec .validationRecordCheck s = .next
        { s with validation := some { v with
            cursor := .restrictions r.id
            failure := (s.checkRestriction r).map (fun x => { kind := .restriction, number := r.id, reason := x }) } }
      (∀ n, v.cursor = .ports n → n < 23 → exec .validationRecordCheck s = .next
        { s with validation := some { v with cursor := .ports (n + 1) } }) ∧
      (v.cursor = .ports 23 → (∀ d ∈ s.store.ports, d.role ≠ .supervisory) →
        exec .validationRecordCheck s = .next
          { s with validation := some { v with
              cursor := .ports 24
              failure := some { kind := .port, number := 23, reason := .noSupervisoryPort } } }) ∧
      (v.cursor = .ports 23 → (∃ d ∈ s.store.ports, d.role = .supervisory) →
        exec .validationRecordCheck s = .next { s with validation := some { v with cursor := .ports 24 } }) ∧
      (∀ n d, v.cursor = .nodes n ∨ (v.cursor = .ports 24 ∧ n = 0) →
        s.store.nodes.find? (fun d => decide (n < d.number)) = some d →
        exec .validationRecordCheck s = .next
          { s with validation := some { v with
              cursor := .nodes d.number
              failure := (s.checkNode d).map (fun x => { kind := .node, number := d.number, reason := x }) } }) ∧
      (∀ n d, v.cursor = .nodes n → s.store.nodes.find? (fun d => decide (n < d.number)) = none →
        s.store.apparatus.find? (fun d => decide (0 < d.number)) = some d → apparatusNext d) ∧
      (∀ a d, v.cursor = .apparatus a → s.store.apparatus.find? (fun d => decide (a < d.number)) = some d →
        apparatusNext d) ∧
      (∀ a r, v.cursor = .apparatus a → s.store.apparatus.find? (fun d => decide (a < d.number)) = none →
        s.restrictions.find? (fun r => decide (0 < r.id)) = some r → restrictionNext r) ∧
      (∀ i r, v.cursor = .restrictions i → s.restrictions.find? (fun r => decide (i < r.id)) = some r →
        restrictionNext r)) ∧
    (let bay := fun (p : Nat) => ∃ d, s.store.ports[p]? = some d ∧ d.role = .bay
     let node := fun (n : Nat) => ∃ d ∈ s.store.nodes, d.number = n
     (∀ d, (s.checkNode d = some .unmeasuredTerminal ↔ d.kind = .terminal ∧ d.measured = false) ∧
       (s.checkNode d = some .notBayPort ↔ d.measured = true ∧ ∀ p, d.port = some p → ¬ bay p) ∧
       (s.checkNode d = none ↔ (d.kind = .terminal → d.measured = true) ∧
         (d.measured = true → ∃ p, d.port = some p ∧ bay p))) ∧
     (∀ d,
       let terminals := d.a ≠ d.b ∧ (d.kind = .earthSwitch → d.b = 0) ∧ (d.kind ≠ .earthSwitch → d.a ≠ 0 ∧ d.b ≠ 0)
       let declared := node d.a ∧ (d.b ≠ 0 → node d.b)
       (s.checkApparatus d = some .undeclaredNode ↔ ¬ declared) ∧
       (s.checkApparatus d = some .terminalRule ↔ declared ∧ ¬ terminals) ∧
       (s.checkApparatus d = some .notBayPort ↔ declared ∧ terminals ∧ ¬ bay d.port) ∧
       (s.checkApparatus d = none ↔ declared ∧ terminals ∧ bay d.port)) ∧
     (∀ r, (s.checkRestriction r = none ∨ s.checkRestriction r = some .unknownTarget) ∧
       (s.checkRestriction r = none ↔ (r.kind = .workZone ∧ node r.target) ∨
         (r.kind ≠ .workZone ∧ ∃ d ∈ s.store.apparatus, d.number = r.target)))) ∧
    (∀ v q, s.heldInReset = false → s.validation = some v → v.requester = some q → v.disturbed = false →
      (v.failure = none → s.nextRecord v.cursor = none →
        exec .validationComplete s = .next (State.modPort { s with validation := none, verified := true } q.port
          (fun x => { x with transmit := x.transmit ++ [.answer (q.kind + 0x80#8) q.tag .done []] }))) ∧
      (∀ x, v.failure = some x →
        exec .validationComplete s = .next (State.modPort { s with validation := none, verified := false } q.port
          (fun y => { y with transmit := y.transmit ++ [.answer (q.kind + 0x80#8) q.tag .invalidDescription
            (put8 x.kind.code ++ put16 x.number ++ put8 x.reason.code)] })))) ∧
    (∀ v, s.heldInReset = false → s.validation = some v →
      (v.failure.isSome = true ∨ s.nextRecord v.cursor = none) →
      (∀ q, v.disturbed = true → v.requester = some q →
        exec .validationComplete s = .next (State.modPort { s with validation := none, verified := false } q.port
          (fun y => { y with transmit := y.transmit ++ [.answer (q.kind + 0x80#8) q.tag .unverified []] }))) ∧
      (v.requester = none → exec .validationComplete s = .next
        { s with validation := none, verified := !v.disturbed && v.failure.isNone }))

/-- R185, R178: RESTART is answered DONE, and the commanded reset is taken once it has fallen due, with the values of R178.
That the sender places COMMANDED as an event of its own is the model's choice (log 2), and so is that it changes nothing while
no reset is due (log 1); that ports, restart timer and live records follow the stored description is log 4's reading of R182, and
that a validation cut off leaves the mark as it stood is log 24's reading of R183. That the mark stays, too, where the reset
undoes a lift that a passed validation went by, against R147, is the model's choice (log 36). -/
def Obligations.RestartActs : Prop :=
  ∀ s : State,
    (∀ p f, s.Takes p .restart f → f.body = [] →
      exec (.restart p) s = .next (s.modPort p (fun q =>
        { q with
          inProgress := some { kind := f.kind, tag := f.tag, inList := true, restart := true }
          transmit := q.transmit ++ [Frame.answer f .done []] }))) ∧
    (s.heldInReset = false → s.commandedDue = false → exec .commanded s = .next s) ∧
    (s.heldInReset = false → s.commandedDue = true →
      ∃ t, exec .commanded s = .next t ∧ t.mode = .restarting ∧ t.commandedDue = false ∧
        t.restartRecord =
          { cause := .commanded, modeAtReset := some s.mode, count := min 255 (s.restartRecord.count + 1) } ∧
        s.ResetOf t ∧ s.Kept t .commanded ∧ t.force = s.force ∧ t.supplyGood = s.supplyGood ∧
        t.lineAsserted = s.lineAsserted ∧ t.pending = s.pending ∧ t.now = s.now)

/-- R178, R27, R49, R91, R119, R135, R137, R160, R172: the values after POWER_ON, RESET_LINE and the loss of supply.
The loss of supply, a line asserted twice and the release of the line are the model's choices (log 11); that ports, restart
timer and live records follow the stored description is log 4's reading of R182, and that a validation cut off leaves the mark as
it stood is log 24's reading of R183. That the mark stays, too, where the reset undoes a lift that a passed validation went by,
against R147, is the model's choice (log 36). -/
def Obligations.ResetValues : Prop :=
  ∀ s : State,
    (∃ t, exec .powerOn s = .next t ∧ s.ResetOf t ∧ t.supplyGood = true ∧ t.freezeCarried = false ∧
      t.restartRecord = { cause := .powerOn, modeAtReset := none, count := 0 } ∧
      (∀ x ∈ t.apps, x.latched = Flags4.clear ∧ x.latchNumbers = LatchNumbers.zero ∧ x.lastOutcome = none ∧
        x.lastOperatingTime = none ∧ x.overflow = false)) ∧
    (∃ t, exec .supplyBelowWorkingLevel s = .next t ∧ s.ResetOf t ∧ t.heldInReset = true) ∧
    (s.lineAsserted = false → s.supplyGood = true →
      ∃ t, exec .resetLine s = .next t ∧ s.ResetOf t ∧ t.heldInReset = true ∧ s.Kept t .resetLine) ∧
    (s.lineAsserted = true → s.supplyGood = true →
      exec .resetLineReleased s = .next
        { s with lineAsserted := false, restartTimer := some s.store.settings.settleLimit })

/-- R179, R180, R160, R162, R177: the restart timer and the gathering timer expire. That the description acted on is taken from
the store at the end of RESTARTING is log 4's reading of R182; that current priorities stay there is log 18's. -/
def Obligations.ModeTimersExpire : Prop :=
  ∀ s : State, s.heldInReset = false →
    let takes := fun (t : State) (records : List PortDesc) => ∀ i d, records[i]? = some d → i < s.ports.length →
      (t.port i).role = d.role ∧ (t.port i).silenceLimit = d.silenceLimit ∧
      (t.port i).defaultPriority = d.defaultPriority ∧ (t.port i).priority = (s.port i).priority ∧
      (t.port i).queue = (s.port i).queue ∧
      ((s.port i).role = d.role → (t.port i).state = (s.port i).state ∧
        (t.port i).silenceTimer = (s.port i).silenceTimer ∧ (t.port i).inbound = (s.port i).inbound ∧
        (t.port i).inProgress = (s.port i).inProgress) ∧
      ((s.port i).role ≠ d.role → (t.port i).state = .silent ∧ (t.port i).silenceTimer = none ∧
        (t.port i).inbound = [] ∧ (t.port i).inProgress = none ∧ (t.port i).transmit = [])
    let told := fun (t : State) (m : Mode) => ∀ q, q < 24 → (s.port q).role = .supervisory →
      (t.port q).role = .supervisory → (s.port q).state = .active → noticeCount (s.port q).transmit < 32 →
      Outgoing.notice (.modeChanged s.mode m) ∈ (t.port q).transmit
    (s.mode = .restarting → s.restartTimer = some 0 → s.verified = true →
      ∃ t, exec .restartTimerExpiry s = .next t ∧ t.mode = .gathering ∧ t.force = s.store ∧ t.written = [] ∧
        t.restartTimer = none ∧ t.gatheringTimer = some s.store.settings.gatheringLimit ∧
        t.pass = some { held := false, takenUp := [], reached := [0], readApps := [], readNodes := [], draft := [] } ∧
        (∀ x ∈ t.apps, x.number ∈ s.written → x.latched = Flags4.clear ∧ x.latchNumbers = LatchNumbers.zero ∧
          x.lastOutcome = none ∧ x.lastOperatingTime = none ∧ x.overflow = false) ∧
        (∀ r ∈ s.apps, r.number ∉ s.written → r ∈ t.apps) ∧
        takes t s.store.ports ∧ (s.store.ports.length = s.ports.length → told t .gathering) ∧
        { t with mode := s.mode, force := s.force, written := s.written, restartTimer := s.restartTimer,
                 gatheringTimer := s.gatheringTimer, pass := s.pass, apps := s.apps, ports := s.ports } = s) ∧
    (s.mode = .restarting → s.restartTimer = some 0 → s.verified = false →
      s.ports.length = 24 → s.store.ports.length = 24 →
      ∃ t, exec .restartTimerExpiry s = .next t ∧ t.mode = .maintenance ∧ t.written = s.written ∧
        t.restartTimer = none ∧ t.pass = s.pass ∧ t.force = s.store ∧
        ((∀ d ∈ s.store.ports, d.role ≠ .supervisory) →
          (t.port 0).role = .supervisory ∧ (t.port 0).silenceLimit = 500 ∧ (t.port 0).defaultPriority = 0 ∧
          takes t (s.store.ports.set 0 { role := .supervisory, defaultPriority := 0, silenceLimit := 500 })) ∧
        ((∃ d ∈ s.store.ports, d.role = .supervisory) → takes t s.store.ports) ∧ told t .maintenance ∧
        { t with mode := s.mode, force := s.force, restartTimer := s.restartTimer, ports := s.ports } = s) ∧
    (s.mode = .gathering → s.gatheringTimer = some 0 →
      ∃ t, exec .gatheringTimerExpiry s = .next t ∧
        t.mode = (if s.freezeCarried then .frozen else .service) ∧ t.gatheringTimer = none ∧
        t.freezeCarried = false ∧ t.ports.map Port.still = s.ports.map Port.still ∧
        (∀ q, (t.port q).inProgress = (s.port q).inProgress) ∧
        s.Announced t 0 (.modeChanged .gathering (if s.freezeCarried then .frozen else .service)) ∧
        { t with mode := s.mode, gatheringTimer := s.gatheringTimer, freezeCarried := s.freezeCarried,
                 ports := s.ports } = s)

/-- R170, R25, R80, R98, R115, R134, R185: the loss of a port, for its lists, the image and the held copies, and for the
entries and programmes it ends, and the reset that it brings with a RESTART's answer unsent. The order in which its
owners take it, and in which several entries and programmes end, is the model's (log 14); the statement does not depend
on it. That the port has no request in progress any more is log 9's reading. That the loss acts before the reset is the
model's choice (log 35), and the values of the reset rest on log 4's reading of R182, log 24's of R183 and the choice of log 36.
That the apparatus of the description in force have distinct numbers (R2) is a law that every step keeps
(`Obligations.DescriptionLawKept`). -/
def Obligations.PortLossActs : Prop :=
  (∀ (s : State) (p : Nat), s.heldInReset = false → p < s.ports.length →
    (s.port p).state = .active → (s.port p).silenceTimer = some 0 → (s.port p).restarting = false →
    let lost := fun (e : Entry) => (e.owner == p || s.reportingPort e.apparatus == some p) && e.state != .settling
    (∃ t, exec (.portLoss p) s = .next t ∧
      (t.port p).state = .lost ∧ (t.port p).silenceTimer = none ∧ (t.port p).inbound = [] ∧
      (t.port p).inProgress = none ∧ (t.port p).transmit = [] ∧ (t.port p).priority = (s.port p).priority ∧
      (t.port p).role = (s.port p).role ∧ t.substs = s.substs ∧
      ((s.port p).role = .supervisory → t.nodes = s.nodes ∧
        t.apps.map AppLive.inputs = s.apps.map AppLive.inputs ∧ t.held = s.held) ∧
      ((s.port p).role = .bay →
        (∀ d ∈ s.force.apparatus, d.port = p → ∀ r, s.app d.number = some r →
          ∃ x, t.app d.number = some x ∧ x.reported = .unknown ∧ x.substituted = r.substituted ∧
            x.present = r.present ∧ x.latched = r.latched ∧ x.latchNumbers = r.latchNumbers) ∧
        (∀ d ∈ s.force.nodes, d.measured = true → d.port = some p → ∀ r, s.node d.number = some r →
          ∃ x, t.node d.number = some x ∧ x.cls = .unknown ∧ x.counter = 0 ∧ x.lastCandidate = none ∧
            x.lastSample = r.lastSample ∧ x.substituted = r.substituted) ∧
        (∀ d ∈ s.force.apparatus, d.port = p → ∀ old sub q,
          s.heldFor (.apparatus d.number) =
            some { target := .apparatus d.number, copy := .apparatus old sub q } →
          t.heldFor (.apparatus d.number) =
            some { target := .apparatus d.number, copy := .apparatus .unknown sub q }) ∧
        (∀ d ∈ s.force.nodes, d.measured = true → d.port = some p → ∀ c sub q,
          s.heldFor (.node d.number) = some { target := .node d.number, copy := .node c sub q } →
          t.heldFor (.node d.number) = some { target := .node d.number, copy := .node .unknown sub q }) ∧
        t.held.map HeldEntry.target = s.held.map HeldEntry.target)) ∧
    (s.distinct → (s.force.apparatus.map AppDesc.number).Nodup → s.programmes = [] → s.waitingOrder = [] →
      s.entries.length ≤ 16 →
      (∀ v, s.evaluation = some v → ∃ e ∈ s.entries, e.ticket = v.ticket ∧ lost e = true) →
      (∀ e ∈ s.entries, e.state = .deferred → lost e = true ∧ s.muted e.owner = false) →
      (∀ e ∈ s.entries, e.programme = none) →
      ∃ t, exec (.portLoss p) s = .next t ∧ t.evaluation = none ∧ t.entries = s.entries.filter (fun e => !lost e) ∧
        ∀ e ∈ s.entries, lost e = true →
          Entry.endedItem e .portLost ∈ t.ended ∧
          (e.owner ≠ p → (s.port e.owner).state = .active →
            noticeCount (s.port e.owner).transmit + 2 * s.entries.length < 32 →
            Outgoing.notice (.movementEnded e.ticket .portLost e.operatingTime) ∈ (t.port e.owner).transmit) ∧
          (e.owner = p → e.state = .released → ∀ q, s.reportingPort e.apparatus = some q → q ≠ p →
            (s.port q).state = .active → noticeCount (s.port q).transmit + 2 * s.entries.length < 32 →
            Outgoing.notice (.revoke e.ticket e.apparatus) ∈ (t.port q).transmit)) ∧
    (s.entries = [] → (s.programmes.map Programme.ticket).Nodup → s.programmes.length ≤ 8 →
      s.waitingOrder.length ≤ 8 → (∀ x ∈ s.waitingOrder, ∃ g, s.programme x = some g ∧ g.owner = p) →
      ∃ t, exec (.portLoss p) s = .next t ∧ t.programmes = s.programmes.filter (fun g => g.owner ≠ p) ∧
        t.waitingOrder = [] ∧ t.entries = [])) ∧
  (∀ (s : State) (p : Nat), s.heldInReset = false → p < s.ports.length →
    (s.port p).state = .active → (s.port p).silenceTimer = some 0 → (s.port p).restarting = true →
    ∃ t m, exec (.portLoss p) s = .next t ∧ s.ResetOf t ∧ t.force = s.force ∧
      (m = s.mode ∨ (s.mode = .freezing ∧ m = .frozen)) ∧
      t.restartRecord =
        { cause := .commanded, modeAtReset := some m, count := min 255 (s.restartRecord.count + 1) } ∧
      t.freezeCarried = (s.freezeCarried || s.mode == .freezing || s.mode == .frozen) ∧
      ∀ x ∈ t.apps, ∀ r, s.app x.number = some r → x.latched = r.latched ∧ x.latchNumbers = r.latchNumbers)

/-! ### Colouring passes (02) -/

/-- R30 to R32, R35 to R37: a take-up of the next node: the reads, what they add to the component, and, when the component is
explored, its entries in the draft and the node that begins the next. That one take-up makes both reads of one node, and that
the last one of a component writes its entries, is the model's choice (log 23). -/
def Obligations.NodeTakenUp : Prop :=
  ∀ (s : State) (w : Pass) (n : Nat), s.heldInReset = false → s.pass = some w →
    w.reached.find? (fun m => !w.takenUp.contains m) = some n →
    ∃ v, exec .passTakeUp s = .next { s with pass := some v } ∧ v.held = w.held ∧
      v.takenUp = w.takenUp ++ [n] ∧
      (∀ d ∈ s.force.apparatus, d.a = n ∨ d.b = n → ∃ r ∈ v.readApps, r.number = d.number) ∧
      (∀ d ∈ s.force.apparatus, d.a = n ∨ d.b = n → (∀ r ∈ w.readApps, r.number ≠ d.number) →
        ∃ r ∈ v.readApps, r.number = d.number ∧ r.position = s.positionOf d.number ∧ r.stale = false) ∧
      (∃ more, v.readNodes = w.readNodes ++ more ∧
        (∀ d r, s.nodeDesc n = some d → d.measured = true → s.node n = some r →
          more = [{ number := n, cls := r.effective, stale := false }]) ∧
        ((∀ d, s.nodeDesc n = some d → d.measured = false) → more = [])) ∧
      (∃ more, v.readApps = w.readApps ++ more ∧ ∀ r ∈ more, r.position = s.positionOf r.number ∧ r.stale = false ∧
        (∀ x ∈ w.readApps, x.number ≠ r.number) ∧
        ∃ d ∈ s.force.apparatus, d.number = r.number ∧ (d.a = n ∨ d.b = n)) ∧
      (∃ more, v.draft = w.draft ++ more) ∧
      ((s.force.apparatus.map AppDesc.number).Nodup →
        ∃ c more, c = w.reached ++ more ∧
          (∀ m, m ∈ c ↔ m ∈ w.reached ∨ ∃ d ∈ s.force.apparatus,
            (d.a = n ∧ d.b = m ∨ d.a ≠ n ∧ d.b = n ∧ d.a = m) ∧ (∀ r ∈ w.readApps, r.number ≠ d.number) ∧
              s.positionOf d.number ≠ .opened) ∧
          ((∃ m ∈ c, m ∉ v.takenUp) → v.reached = c ∧ v.draft = w.draft) ∧
          ((∀ m ∈ c, m ∈ v.takenUp) →
            (∃ drafted, v.draft = w.draft ++ drafted ∧ drafted.map Prod.fst = c ∧
              ((∀ r ∈ v.readApps, r.position = .closed → ∀ d, s.appDesc r.number = some d → (d.a ∈ c ↔ d.b ∈ c)) →
                ∀ x ∈ drafted, s.DraftedAs v c x.1 x.2)) ∧
            v.reached = (match s.force.nodes.find? (fun d => !v.takenUp.contains d.number) with
              | some d => [d.number]
              | none => [])))

/-- R43 to R46, R107, R24, R180: a complete pass publishes: the colouring is the pass's, the count rises, the spoil count is 0,
and the publication is handed on: a re-offer, the SETTLING entries whose marker it clears, and the end of gathering; at the
end of a held pass every held entry has been applied to its record. That an INSPECT which stands gets a write for its raised
count is log 15's reading, and at count 255 the model's choice (log 15). -/
def Obligations.PassPublishes : Prop :=
  ∀ (s : State) (w : Pass), s.heldInReset = false → s.pass = some w → w.next = none →
    let colouring : Colouring :=
      { initial := false, nodes := w.draft, positions := w.readApps.map (fun r => (r.number, r.position)) }
    let published := fun (t : State) => t.published = colouring ∧ t.publicationCount = s.publicationCount + 1 ∧
      t.spoils = 0 ∧
      t.pass = (if t.apps.any AppLive.marker || t.nodes.any NodeLive.marker then some (freshPass false) else none)
    let reads := fun (a : Nat) => (∃ x ∈ w.readApps, x.number = a ∧ x.stale = false) ∧
      s.heldFor (.apparatus a) = none
    let readsNode := fun (n : Nat) => (∃ x ∈ w.readNodes, x.number = n ∧ x.stale = false) ∧ s.heldFor (.node n) = none
    let unmarked := fun (x : NodeLive) => { x with marker := false }
    (w.held = false → ∃ t, exec .publication s = .next t ∧ published t ∧ t.held = s.held ∧
      t.apps.map AppLive.inputs = s.apps.map AppLive.inputs ∧ t.nodes.map unmarked = s.nodes.map unmarked ∧
      (∀ r ∈ s.apps, reads r.number → ∃ x ∈ t.apps, x.number = r.number ∧ x.marker = false) ∧
      (∀ r ∈ s.apps, r.marker = true → ¬ reads r.number → ∃ x ∈ t.apps, x.number = r.number ∧ x.marker = true) ∧
      (∀ r ∈ s.nodes, (∃ x ∈ w.readNodes, x.number = r.number ∧ x.stale = false) → s.heldFor (.node r.number) = none →
        { r with marker := false } ∈ t.nodes) ∧
      (∀ r ∈ s.nodes, r.marker = true → (∀ x ∈ w.readNodes, x.number = r.number → x.stale = true) → r ∈ t.nodes)) ∧
    (w.held = true → (s.held.map HeldEntry.target).Nodup →
      ∃ t, exec .endOfHeldPass s = .next t ∧ published t ∧ t.held = [] ∧
        (∀ a rep sub port, { target := .apparatus a, copy := .apparatus rep sub port : HeldEntry } ∈ s.held →
          ∀ d r, s.appDesc a = some d → s.app a = some r →
          ∃ x, t.app a = some x ∧ x.reported = rep ∧ x.substituted = sub ∧
            x.effective = effectivePosition sub (s.reporterActive d) rep ∧
            (x.effective ≠ r.effective → x.marker = true) ∧
            t.subst (.apparatus a) =
              sub.map (fun g => { target := .apparatus a, value := .position g, port := port })) ∧
        (∀ n cls sub port, { target := .node n, copy := .node cls sub port : HeldEntry } ∈ s.held →
          ∀ r, s.node n = some r →
          ∃ x, t.node n = some x ∧ x.cls = cls ∧ x.substituted = sub ∧ x.effective = effectiveClass sub cls ∧
            x.lastCandidate = r.lastCandidate ∧ x.counter = r.counter ∧ x.lastSample = r.lastSample ∧
            (x.effective ≠ r.effective → x.marker = true) ∧
            t.subst (.node n) = sub.map (fun c => { target := .node n, value := .cls c, port := port })) ∧
        (∀ a, s.heldFor (.apparatus a) = none →
          (t.app a).map AppLive.inputs = (s.app a).map AppLive.inputs ∧ t.subst (.apparatus a) = s.subst (.apparatus a) ∧
          (reads a → ∀ x, t.app a = some x → x.marker = false) ∧
          (¬ reads a → (t.app a).map AppLive.marker = (s.app a).map AppLive.marker)) ∧
        (∀ n, s.heldFor (.node n) = none →
          (t.node n).map unmarked = (s.node n).map unmarked ∧ t.subst (.node n) = s.subst (.node n) ∧
          (readsNode n → ∀ x, t.node n = some x → x.marker = false) ∧
          (¬ readsNode n → t.node n = s.node n))) ∧
    (∀ c, (c = .publication ∧ w.held = false) ∨ (c = .endOfHeldPass ∧ w.held = true ∧ s.held = []) →
      (s.distinct → s.mode = .service → s.waitingOrder = [] →
        (∀ e ∈ s.entries, e.state = .deferred → s.muted e.owner = false) →
        (∀ e ∈ s.entries, e.state = .settling → ¬ reads e.apparatus) →
        ∃ t, exec c s = .next t ∧
          t.entries = s.entries.map (fun e => if e.state = .deferred then { e with state := .queued } else e) ∧
          t.evaluation = s.evaluation.map (fun v => { v with reoffer := true })) ∧
      (∀ e r, s.entry e.ticket = some e → e.state = .settling → e.programme = none → reads e.apparatus →
        s.app e.apparatus = some r → r.marker = true → s.calm → s.mode = .service ∨ s.mode = .frozen →
        (∀ x ∈ s.entries, x.state = .settling → x.ticket = e.ticket) →
        (∀ x ∈ s.entries, x.apparatus = e.apparatus → x.ticket = e.ticket) →
        ∃ t, exec c s = .next t ∧ t.entries = s.entries.filter (fun x => x.ticket ≠ e.ticket) ∧
          t.ended = (s.ended ++ [Entry.endedItem e .completed]).drop (s.ended.length + 1 - 16) ∧
          (r.effective = e.target.pos →
            State.Retired { s with published := colouring, nodes := t.nodes } t e .completed ∧
            t.restrictions = s.restrictions) ∧
          (∀ d, s.appDesc e.apparatus = some d → r.effective ≠ e.target.pos →
            (Unbidden d.kind e.target.pos r.effective → s.Inspected t e.apparatus ∧
              s.Announced t 1 (.unbidden e.apparatus e.target.pos r.effective)) ∧
            (Trip d.kind e.target.pos r.effective →
              (t.app e.apparatus).map AppLive.lastOutcome = some (some .tripped)))) ∧
      (s.mode = .gathering → s.entries = [] → s.waitingOrder = [] →
        let known := (∀ d ∈ s.force.apparatus, ∃ x ∈ w.readApps, x.number = d.number ∧ x.position ≠ .unknown) ∧
          ∀ d ∈ s.force.nodes, d.measured = true → ∃ x ∈ w.readNodes, x.number = d.number ∧ x.cls ≠ .unknown
        ∃ t, exec c s = .next t ∧
          (¬ known → t.mode = .gathering ∧ t.gatheringTimer = s.gatheringTimer ∧ t.freezeCarried = s.freezeCarried) ∧
          (known → t.mode = (if s.freezeCarried then .frozen else .service) ∧ t.gatheringTimer = none ∧
            t.freezeCarried = false ∧
            s.Announced t 0 (.modeChanged .gathering (if s.freezeCarried then .frozen else .service)))))

/-! ### Arbitration and evaluation (03, 04) -/

/-- R76, R77, R78: a grant goes to the oldest eligible coupled candidate, and otherwise to the first eligible ticket of the queue
of a port of the highest priority, and fixes the publication, the candidate reach and the grant marks. That a GRANT is an event
of its own that the sender places is the model's choice (log 27), and so is that it changes nothing where there is no
candidate (log 1). -/
def Obligations.GrantChooses : Prop :=
  ∀ s : State, s.heldInReset = false → s.evaluation = none →
    (∀ n, s.candidate = some n →
      ∃ e v, s.entry n = some e ∧ s.eligible e = true ∧
        exec .grant s = .next
          { s with
            evaluation := some v
            entries := s.entries.map (fun x => if x.ticket = n then { x with state := .evaluating } else x) } ∧
        v.ticket = n ∧ v.publication = s.published ∧ v.reoffer = false ∧ v.expired = false ∧ v.stage = .check 1 ∧
        (∀ m, m ∈ v.candidateReach ↔ (∃ y ∈ s.force.nodes, y.number = m) ∧
          ∃ k ∈ e.footprint, (s.published.node k).possible = (s.published.node m).possible) ∧
        (∀ a, a ∈ v.markedApps ↔ (∃ r ∈ s.apps, r.number = a ∧ r.marker = true) ∧
          ∃ d, s.appDesc a = some d ∧ (d.a ∈ e.footprint ++ v.candidateReach ∨ d.b ∈ e.footprint ++ v.candidateReach)) ∧
        (∀ m, m ∈ v.markedNodes ↔ (∃ r ∈ s.nodes, r.number = m ∧ r.marker = true) ∧
          m ∈ e.footprint ++ v.candidateReach)) ∧
    (∀ e ∈ s.entries, (s.eligible e = true ↔ e.state = .queued ∧ (s.port e.owner).priority ≠ 0 ∧
      ((s.mode ≠ .freezing ∧ s.mode ≠ .frozen) ∨ s.heldBack e = false))) ∧
    (∀ n before later, s.coupled = before ++ n :: later → s.eligibleTicket n = true →
      (∀ m ∈ before, s.eligibleTicket m = false) → s.candidate = some n) ∧
    ((∀ n ∈ s.coupled, s.eligibleTicket n = false) → ∀ n, s.candidate = some n →
      ∃ p before later, p < 24 ∧ (s.port p).queue = before ++ n :: later ∧ s.eligibleTicket n = true ∧
        (∀ m ∈ before, s.eligibleTicket m = false) ∧
        ∀ q m, q < 24 → m ∈ (s.port q).queue → s.eligibleTicket m = true →
          (s.port q).priority < (s.port p).priority ∨ ((s.port q).priority = (s.port p).priority ∧ p ≤ q)) ∧
    ((∃ p n, p < 24 ∧ n ∈ (s.port p).queue ∧ s.eligibleTicket n = true) → s.candidate ≠ none) ∧
    (s.candidate = none → exec .grant s = .next s)

/-- R54 to R58, R60 to R64, R68, R69, R81, R139: the ordered checks of an evaluation: those that pass go on to the next, those
that fail refuse the movement, and the topology check finds by its rules. -/
def Obligations.ChecksInOrder : Prop :=
  (∀ (s : State) (v : Evaluation) (e : Entry) (d : AppDesc),
    s.heldInReset = false → s.evaluation = some v → s.entry v.ticket = some e → s.appDesc e.apparatus = some d →
    (v.stage = .check 1 → v.publication.position e.apparatus ≠ e.target.pos →
      exec .predicateCheck s = .next { s with evaluation := some { v with stage := .check 2 } }) ∧
    (v.stage = .check 2 → v.publication.position e.apparatus = .opened ∨
        v.publication.position e.apparatus = .closed →
      exec .predicateCheck s = .next { s with evaluation := some { v with stage := .check 3 } }) ∧
    (v.stage = .check 3 → s.overflowMark e.apparatus = false →
      (∀ r ∈ s.restrictions, r.forbids d.kind e.apparatus e.target e.footprint = false) →
      exec .predicateCheck s = .next { s with evaluation := some { v with stage := .check 4 } }) ∧
    (v.stage = .check 4 → (∀ r, s.app e.apparatus = some r → r.present.any = false ∧ r.latched.any = false) →
      exec .predicateCheck s = .next { s with evaluation := some { v with stage := .check 5 } }) ∧
    (v.stage = .check 5 → d.kind = .breaker → e.target = .opened →
      exec .predicateCheck s = .next
        { s with evaluation := some { v with stage := .permitted [], candidateReach := [] } }) ∧
    (v.stage = .check 5 → d.kind = .disconnector → e.target = .opened →
      (v.publication.node d.a).colour.pl = true →
      exec .predicateCheck s = .next { s with evaluation := some { v with stage := .bypass [d.a] [d.a] } }) ∧
    (let permits := fun (within : Nat → Prop) => ∃ reach, exec .predicateCheck s = .next
        { s with evaluation := some { v with stage := .permitted reach, candidateReach := reach } } ∧
        ∀ m, m ∈ reach ↔ (∃ y ∈ s.force.nodes, y.number = m) ∧ within m
     let refuses := fun (why : Reason) => ∃ t, exec .predicateCheck s = .next t ∧ t.evaluation = none ∧
        s.Retired t e (.refused why) ∧ t.restrictions = s.restrictions
     let a := (v.publication.node d.a).colour
     let b := (v.publication.node d.b).colour
     let live := fun (x : Colour) => x = .live ∨ x = .contested
     let earthed := fun (x : Colour) => x = .contested ∨ x = .earthed ∨ x = .doubtfulEarth
     let possible := fun (n m : Nat) => (v.publication.node n).possible = (v.publication.node m).possible
     let sure := fun (n m : Nat) => (v.publication.node n).sure = (v.publication.node m).sure
     let against := a = .contested ∨ b = .contested ∨ (earthed a ∧ live b) ∨ (earthed b ∧ live a)
     (v.stage = .check 5 → d.kind = .breaker → e.target = .closed → ¬ against →
       permits (fun m => (¬ live a ∧ possible d.a m) ∨ (¬ live b ∧ possible d.b m))) ∧
     (v.stage = .check 5 → d.kind = .disconnector → e.target = .closed →
       (sure d.a d.b → permits (sure d.a)) ∧
       (¬ sure d.a d.b → a = .floating ∨ b = .floating →
         permits (fun m => (a = .floating ∧ possible d.a m) ∨ (b = .floating ∧ possible d.b m)))) ∧
     (v.stage = .check 5 → d.kind = .disconnector → e.target = .opened → ¬ live a → permits (possible d.a)) ∧
     (v.stage = .check 5 → d.kind = .earthSwitch → e.target = .closed → ¬ live a → permits (possible d.a)) ∧
     (v.stage = .check 5 → d.kind = .earthSwitch → e.target = .opened →
       exec .predicateCheck s = .next
         { s with evaluation := some { v with
             stage := .permitted ([d.a, d.b].filter (· ≠ 0)), candidateReach := [d.a, d.b].filter (· ≠ 0) } }) ∧
     (e.state = .evaluating → e.cancelPending = false → e.programme = none → s.calm →
       (v.stage = .check 1 → v.publication.position e.apparatus = e.target.pos → refuses .alreadyThere) ∧
       (v.stage = .check 2 → v.publication.position e.apparatus ≠ .opened →
         v.publication.position e.apparatus ≠ .closed → refuses .positionUncertain) ∧
       (v.stage = .check 3 → (s.overflowMark e.apparatus = true ∨
         ∃ r ∈ s.restrictions, r.forbids d.kind e.apparatus e.target e.footprint = true) → refuses .restricted) ∧
       (v.stage = .check 4 → (∃ r, s.app e.apparatus = some r ∧ (r.present.any = true ∨ r.latched.any = true)) →
         refuses .blocked) ∧
       (v.stage = .check 5 → d.kind = .breaker → e.target = .closed → against → refuses .liveAgainstEarth) ∧
       (v.stage = .check 5 → d.kind = .disconnector → e.target = .closed → ¬ sure d.a d.b →
         a ≠ .floating → b ≠ .floating →
         let crossed := (a = .live ∧ b = .earthed) ∨ (a = .earthed ∧ b = .live)
         let doubtful := a = .contested ∨ a = .doubtfulEarth ∨ b = .contested ∨ b = .doubtfulEarth
         (crossed → refuses .liveAgainstEarth) ∧ (¬ crossed → doubtful → refuses .uncertainEarth) ∧
         (¬ crossed → ¬ doubtful → refuses .noEquipotential)) ∧
       (v.stage = .check 5 → d.kind = .earthSwitch → e.target = .closed → live a → refuses .nodeNotDead)))) ∧
  (∀ (r : Restriction) (kind : AppKind) (a : Nat) (g : Target) (footprint : List Nat),
    r.forbids kind a g footprint = true ↔
      ((r.kind = .locked ∨ r.kind = .inspect) ∧ r.target = a) ∨
      (r.kind = .holdOpen ∧ r.target = a ∧ g = .closed) ∨ (r.kind = .holdClosed ∧ r.target = a ∧ g = .opened) ∨
      (r.kind = .workZone ∧ r.target ∈ footprint ∧ ¬ (kind = .earthSwitch ∧ g = .closed)))

/-- R64 to R67: a step of the bypass search and of the stub search: the nodes it adds, and what it decides. That a step takes
one node of the frontier is the model's choice (log 22). -/
def Obligations.SearchStepsAct : Prop :=
  ∀ (s : State) (v : Evaluation) (e : Entry) (d : AppDesc),
    s.heldInReset = false → s.evaluation = some v → s.entry v.ticket = some e → s.appDesc e.apparatus = some d →
    v.publication.initial = false →
    let other := fun (x : AppDesc) (n : Nat) => if x.a = n then x.b else x.a
    let goes : Stage → State := fun st => { s with evaluation := some { v with stage := st } }
    let permitted : List Nat → State := fun reach =>
      { s with evaluation := some { v with stage := .permitted reach, candidateReach := reach } }
    let adds := fun (closed : Pos → Prop) (found fresh : List Nat) (n : Nat) => fresh.Nodup ∧
      ∀ m, m ∈ fresh ↔ m ∉ found ∧ ∃ x ∈ s.force.apparatus, x.number ≠ d.number ∧ (x.a = n ∨ x.b = n) ∧
        closed (v.publication.position x.number) ∧ other x n = m
    (∀ found n rest, v.stage = .bypass found (n :: rest) → d.b ∉ found →
      ((∃ x ∈ s.force.apparatus, x.number ≠ d.number ∧ (x.a = n ∨ x.b = n) ∧
          v.publication.position x.number = .closed ∧ other x n = d.b) →
        ∃ reach, exec .bypassSearchStep s = .next
          { s with evaluation := some { v with stage := .permitted reach, candidateReach := reach } } ∧
          ∀ m, m ∈ reach ↔ (∃ y ∈ s.force.nodes, y.number = m) ∧
            (v.publication.node d.a).sure = (v.publication.node m).sure) ∧
      ((∀ x ∈ s.force.apparatus, x.number ≠ d.number → x.a = n ∨ x.b = n →
          v.publication.position x.number = .closed → other x n ∈ found) → rest ≠ [] →
        exec .bypassSearchStep s = .next { s with evaluation := some { v with stage := .bypass found rest } }) ∧
      ((∀ x ∈ s.force.apparatus, x.number ≠ d.number → x.a = n ∨ x.b = n →
          v.publication.position x.number = .closed → other x n ∈ found) → rest = [] →
        exec .bypassSearchStep s = .next
          { s with evaluation := some { v with stage := .stub false [d.a] [d.a] } }) ∧
      (∃ fresh, adds (fun x => x = .closed) found fresh n ∧
        (d.b ∉ fresh → rest ++ fresh ≠ [] →
          exec .bypassSearchStep s = .next (goes (.bypass (found ++ fresh) (rest ++ fresh)))) ∧
        (d.b ∉ fresh → rest ++ fresh = [] → exec .bypassSearchStep s = .next (goes (.stub false [d.a] [d.a]))))) ∧
    (∀ found n rest, v.stage = .stub false found (n :: rest) → (∃ m ∈ found, s.isTerminal m = true) →
      exec .stubSearchStep s = .next
        { s with evaluation := some { v with stage := .stub true [d.b] [d.b] } }) ∧
    (∀ side found n, v.stage = .stub side found [n] → (∀ m ∈ found, s.isTerminal m = false) →
      (∀ x ∈ s.force.apparatus, x.number ≠ d.number → x.a = n ∨ x.b = n →
          v.publication.position x.number ≠ .opened → other x n ∈ found) →
      ∃ reach, exec .stubSearchStep s = .next
        { s with evaluation := some { v with stage := .permitted reach, candidateReach := reach } } ∧
        ∀ m, m ∈ reach ↔ (∃ y ∈ s.force.nodes, y.number = m) ∧ m ∈ found) ∧
    (∀ side found n rest, v.stage = .stub side found (n :: rest) →
      ∃ fresh, adds (fun x => x ≠ .opened) found fresh n ∧
        (let terminal := ∃ m ∈ found ++ fresh, s.isTerminal m = true
         (terminal → side = false → exec .stubSearchStep s = .next (goes (.stub true [d.b] [d.b]))) ∧
         (terminal → side = true → e.state = .evaluating → e.cancelPending = false → e.programme = none → s.calm →
           ∃ t, exec .stubSearchStep s = .next t ∧ t.evaluation = none ∧ s.Retired t e (.refused .loadPath)) ∧
         (¬ terminal → rest ++ fresh ≠ [] →
           exec .stubSearchStep s = .next (goes (.stub side (found ++ fresh) (rest ++ fresh)))) ∧
         (¬ terminal → rest ++ fresh = [] → ∃ reach, exec .stubSearchStep s = .next (permitted reach) ∧
           ∀ m, m ∈ reach ↔ (∃ y ∈ s.force.nodes, y.number = m) ∧ m ∈ found ++ fresh))) ∧
    (∀ n, s.isTerminal n = true ↔ ∃ y, s.nodeDesc n = some y ∧ y.kind = .terminal)

/-- R83: the reservation test of a movement against every held reservation. The last clause is the deferral RESERVED that a
conflict makes at the closing event (R82, R85). -/
def Obligations.ReservationTest : Prop :=
  ∀ s : State,
    (∀ (e : Entry) (reach : List Nat), s.conflict e reach = true ↔
      ∃ y : Reservation,
        ((∃ x ∈ s.entries,
            (x.state = .released ∨ x.state = .revoking ∨ x.state = .travelling ∨ x.state = .settling) ∧
            y = { footprint := x.footprint, reach := x.reach.getD [] }) ∨
          (∃ g ∈ s.programmes, g.carry = some y ∧ ∀ t k, e.programme = some (t, k) → g.ticket ≠ t)) ∧
        ∃ n, (n ∈ e.footprint ∧ n ∈ y.footprint) ∨ (n ∈ e.footprint ∧ n ∈ y.reach) ∨ (n ∈ reach ∧ n ∈ y.footprint)) ∧
    (∀ v e d reach, s.heldInReset = false → s.evaluation = some v → s.entry v.ticket = some e →
      s.appDesc e.apparatus = some d → v.stage = .permitted reach → e.cancelPending = false →
      s.muted e.owner = false → v.expired = false → v.reoffer = false →
      (s.mode.isFreeze = false ∨ s.heldBack e = false) →
      (e.deadline ≠ none ∨ s.force.settings.deferralLimit ≠ 0) →
      s.settledAtGrant v (e.footprint ++ reach) = true → s.conflict e reach = true →
      exec .closingEvent s = .next
        { s with
          evaluation := none
          entries := s.entries.map (fun x => if x.ticket = v.ticket then
            { x with state := .deferred, cause := some .reserved,
                     deadline := some (x.deadline.getD s.force.settings.deferralLimit) } else x) })

/-- R82, R84, R99: the closing event of a permitted evaluation whose steps find nothing releases the entry. R89, R90, R130: the
release of a coupled movement drops its programme's carry. R59, R75, R85, R86, R87, R110, R152: its other ends, in the order of
R110's table. R79, R82, R57, R58: what its steps find. -/
def Obligations.ClosingReleases : Prop :=
  (∀ (s : State) (v : Evaluation) (e : Entry) (d : AppDesc) (reach : List Nat),
    s.heldInReset = false → s.evaluation = some v → s.entry v.ticket = some e → s.appDesc e.apparatus = some d →
    v.stage = .permitted reach → e.cancelPending = false → s.waitingOrder = [] →
    (s.mode.isFreeze = false ∨ (d.kind = .breaker ∧ e.target = .opened)) →
    s.settledAtGrant v (e.footprint ++ reach) = true → s.conflict e reach = false →
    s.restricted e.apparatus e.target e.footprint = false → s.blocked e.apparatus = false →
    let released := s.entries.map (fun x => if x.ticket = v.ticket then
      { x with state := .released, reach := some reach, releaseTime := some s.now,
               deadline := some d.startWindow } else x)
    (e.programme = none →
      ∃ t, exec .closingEvent s = .next t ∧ t.evaluation = none ∧ t.entries = released ∧
        (t.port e.owner).queue = (s.port e.owner).queue.filter (· ≠ e.ticket) ∧
        ((s.port d.port).state = .active → noticeCount (s.port d.port).transmit < 32 →
          Outgoing.notice (.release e.ticket e.apparatus e.target d.startWindow) ∈ (t.port d.port).transmit) ∧
        { t with evaluation := s.evaluation, entries := s.entries, ports := s.ports } = s) ∧
    (∀ g k, e.programme = some (g.ticket, k) → s.programme g.ticket = some g → e.coupled = true →
      g.movement = some e.ticket → s.calm →
      ∃ t, exec .closingEvent s = .next t ∧ t.evaluation = none ∧ t.entries = released ∧
        (g.carry.isSome = true →
          t.programmes = s.programmes.map (fun x => if x.ticket = g.ticket then { x with carry := none } else x)) ∧
        (g.carry = none → t.programmes = s.programmes))) ∧
  (∀ (s : State) (v : Evaluation) (e : Entry) (d : AppDesc) (reach : List Nat),
    s.heldInReset = false → s.evaluation = some v → s.entry v.ticket = some e → s.appDesc e.apparatus = some d →
    v.stage = .permitted reach →
    let settled := s.settledAtGrant v (e.footprint ++ reach)
    let conflict := s.conflict e reach
    let heldBack := s.mode.isFreeze && s.heldBack e
    let ends := fun (o : MoveOutcome) => e.state = .evaluating → e.programme = none → s.calm →
      ∃ t, exec .closingEvent s = .next t ∧ t.evaluation = none ∧ s.Retired t e o ∧ t.restrictions = s.restrictions
    let becomes := fun (x : Entry → Entry) => exec .closingEvent s = .next
      { s with evaluation := none, entries := s.entries.map (fun y => if y.ticket = v.ticket then x y else y) }
    (e.cancelPending = true → ends .cancelled) ∧
    (e.cancelPending = false →
      (∀ c, (settled = false ∧ c = .unsettled) ∨ (settled = true ∧ conflict = true ∧ c = .reserved) →
        let reason : Reason := if c = .reserved then .zoneEngaged else .unsettled
        (s.muted e.owner = true → ends (.refused .portMuted)) ∧
        (s.muted e.owner = false → v.expired = true → ends (.refused reason)) ∧
        (s.muted e.owner = false → v.expired = false → e.deadline = none → s.force.settings.deferralLimit = 0 →
          ends (.refused reason)) ∧
        (s.muted e.owner = false → v.expired = false → (e.deadline ≠ none ∨ s.force.settings.deferralLimit ≠ 0) →
          becomes (fun y =>
            { y with
              state := if heldBack then .suspended else if v.reoffer then .queued else .deferred
              cause := some c, deadline := some (y.deadline.getD s.force.settings.deferralLimit) }))) ∧
      (settled = true → conflict = false →
        (s.restricted e.apparatus e.target e.footprint = true → ends (.refused .restricted)) ∧
        (s.restricted e.apparatus e.target e.footprint = false → s.blocked e.apparatus = true →
          ends (.refused .blocked)) ∧
        (s.restricted e.apparatus e.target e.footprint = false → s.blocked e.apparatus = false → heldBack = true →
          (v.expired = false → becomes (fun y => { y with state := .suspended })) ∧
          (v.expired = true → ∀ c, e.cause = some c →
            ends (.refused (if c = .reserved then .zoneEngaged else .unsettled))))))) ∧
  (∀ (s : State) (v : Evaluation) (region : List Nat), s.settledAtGrant v region = true ↔
    (∀ a ∈ v.markedApps, ∀ d, s.appDesc a = some d → d.a ∉ region ∧ d.b ∉ region) ∧ ∀ n ∈ v.markedNodes, n ∉ region) ∧
  (∀ (s : State) (a : Nat) (g : Target) (footprint : List Nat),
    (s.restricted a g footprint = true ↔ s.overflowMark a = true ∨
      ∃ d, s.appDesc a = some d ∧ ∃ r ∈ s.restrictions, r.forbids d.kind a g footprint = true) ∧
    (s.overflowMark a = true ↔ ∃ r, s.app a = some r ∧ r.overflow = true) ∧
    (s.blocked a = true ↔ ∃ r c, s.app a = some r ∧ (r.present.get c = true ∨ r.latched.get c = true)))

/-- R99, R82, R83, R59: no command but the closing event makes an entry RELEASED, and it does so only for an entry whose
permission is settled, conflicts with no reservation, and meets no restriction and no blocking flag. -/
def Obligations.OnlyClosingReleases : Prop :=
  ∀ (c : Instr) (s t : State), exec c s = .next t →
    ∀ e ∈ t.entries, e.state = .released →
      (∃ x ∈ s.entries, x.ticket = e.ticket ∧ x.state = .released) ∨
      (c = .closingEvent ∧ ∃ v x reach, s.evaluation = some v ∧ v.ticket = e.ticket ∧ s.entry v.ticket = some x ∧
        v.stage = .permitted reach ∧ x.cancelPending = false ∧
        (s.mode.isFreeze = false ∨ s.heldBack x = false) ∧
        s.settledAtGrant v (x.footprint ++ reach) = true ∧ s.conflict x reach = false ∧
        s.restricted x.apparatus x.target x.footprint = false ∧ s.blocked x.apparatus = false)

/-! ### Whole-machine rules -/

/-- 10, the table of modes: every change of mode is one of those. -/
def Obligations.ModeTransitions : Prop :=
  ∀ (c : Instr) (s t : State), exec c s = .next t →
    t.mode = s.mode ∨ t.mode = .restarting ∨
    (s.mode = .restarting ∧ (t.mode = .gathering ∨ t.mode = .maintenance)) ∨
    (s.mode = .gathering ∧ (t.mode = .service ∨ t.mode = .frozen)) ∨
    (s.mode = .service ∧ (t.mode = .freezing ∨ t.mode = .frozen ∨ t.mode = .maintenance)) ∨
    (s.mode = .freezing ∧ (t.mode = .frozen ∨ t.mode = .service)) ∨
    (s.mode = .frozen ∧ (t.mode = .service ∨ t.mode = .maintenance)) ∨
    (s.mode = .maintenance ∧ t.mode = .gathering)

/-- R182, R137, R176: which commands change the stored description, the description in force, the storage, the supply and
the line; no command changes the clock or the queue (log 1, log 4). -/
def Obligations.WhatCommandsChange : Prop :=
  ∀ (c : Instr) (s t : State), exec c s = .next t →
    t.pending = s.pending ∧ t.now = s.now ∧
    ((∀ p, c ≠ .writeNode p ∧ c ≠ .removeNode p ∧ c ≠ .writeApparatus p ∧ c ≠ .removeApparatus p ∧
        c ≠ .writePort p ∧ c ≠ .writeSettings p) → t.store = s.store ∧
      (c ≠ .validationComplete → t.verified = s.verified)) ∧
    (c ≠ .restartTimerExpiry → (∀ p, c ≠ .leaveMaintenance p) → t.force = s.force) ∧
    (c ≠ .restrictionWriteComplete → t.stored = s.stored) ∧
    (c ≠ .powerOn → c ≠ .supplyBelowWorkingLevel → t.supplyGood = s.supplyGood) ∧
    (c ≠ .resetLine → c ≠ .resetLineReleased → t.lineAsserted = s.lineAsserted)

/-- R136, R137: every step keeps the laws of the restriction table and its storage. -/
def Obligations.RestrictionLawKept : Prop :=
  ∀ s t : State, s.restrictionLaw → step s = .next t → t.restrictionLaw

/-- R104, R106: every step keeps the law of the travel deadline. -/
def Obligations.TravelLawKept : Prop :=
  ∀ s t : State, s.travelLaw → step s = .next t → t.travelLaw

/-- R119: every step keeps the tables empty in RESTARTING, GATHERING and MAINTENANCE. -/
def Obligations.IdleLawKept : Prop :=
  ∀ s t : State, s.idleLaw → step s = .next t → t.idleLaw

/-- R92, R95, R120, R40, R163, R166, R171: every step keeps the tables and the ports' lists within their places. R40, R73, R78,
R83, R88, R92, R130: every step keeps the laws of the queues, the live entries, the programmes and the reservations: among them
that no two held reservations are in conflict. -/
def Obligations.CapacityLawKept : Prop :=
  (∀ s t : State, s.portLaw ∧ s.tableLaw → step s = .next t → t.portLaw ∧ t.tableLaw) ∧
  (∀ s t : State, s.heldLaw → step s = .next t → t.heldLaw) ∧
  (∀ s t : State, s.MovementLaws → step s = .next t → t.MovementLaws)

/-- R183, R2: every step keeps a verified description valid. R33, R37: every step keeps the law of the published colouring and of
the running pass, by which nodes of one sure component are of one possible component. -/
def Obligations.DescriptionLawKept : Prop :=
  (∀ s t : State, s.descriptionLaw → step s = .next t → t.descriptionLaw) ∧
  (∀ s t : State, s.descriptionLaw ∧ s.colouringLaw → step s = .next t →
    t.colouringLaw ∧ ∀ n m, (t.published.node n).sure = (t.published.node m).sure →
      (t.published.node n).possible = (t.published.node m).possible)

/-- R155: every step keeps the law that in FROZEN only breaker openings stand in held states. -/
def Obligations.FrozenLawKept : Prop :=
  ∀ s t : State, s.idleLaw ∧ s.tableLaw ∧ s.ticketLaw ∧ s.frozenLaw → step s = .next t →
    t.idleLaw ∧ t.tableLaw ∧ t.ticketLaw ∧ t.frozenLaw

/-- The machine right after reset has the laws, and is as R176 and R179 say (log 12). -/
def Obligations.LawsAtReset : Prop :=
  State.reset.restrictionLaw ∧ State.reset.travelLaw ∧ State.reset.idleLaw ∧ State.reset.portLaw ∧
  State.reset.tableLaw ∧ State.reset.descriptionLaw ∧ State.reset.ticketLaw ∧ State.reset.frozenLaw ∧
  State.reset.mode = .restarting ∧ State.reset.verified = false ∧ State.reset.restartTimer = some 200 ∧
  State.reset.MovementLaws ∧ State.reset.colouringLaw
end

