-- ==== Sys2Proof/Laws/State.lean ====
section
/-! SUPPORT. What each update of the state leaves: one lemma per field per update, so that no proof unfolds an update. -/

namespace Sys2Proof.Machine

/-! ### modApp -/

@[simp] theorem State.modApp_pending (s : State) (a : Nat) (f : AppLive → AppLive) : (s.modApp a f).pending = s.pending := rfl
@[simp] theorem State.modApp_now (s : State) (a : Nat) (f : AppLive → AppLive) : (s.modApp a f).now = s.now := rfl
@[simp] theorem State.modApp_supplyGood (s : State) (a : Nat) (f : AppLive → AppLive) : (s.modApp a f).supplyGood = s.supplyGood := rfl
@[simp] theorem State.modApp_lineAsserted (s : State) (a : Nat) (f : AppLive → AppLive) : (s.modApp a f).lineAsserted = s.lineAsserted := rfl
@[simp] theorem State.modApp_commandedDue (s : State) (a : Nat) (f : AppLive → AppLive) : (s.modApp a f).commandedDue = s.commandedDue := rfl
@[simp] theorem State.modApp_mode (s : State) (a : Nat) (f : AppLive → AppLive) : (s.modApp a f).mode = s.mode := rfl
@[simp] theorem State.modApp_restartTimer (s : State) (a : Nat) (f : AppLive → AppLive) : (s.modApp a f).restartTimer = s.restartTimer := rfl
@[simp] theorem State.modApp_gatheringTimer (s : State) (a : Nat) (f : AppLive → AppLive) : (s.modApp a f).gatheringTimer = s.gatheringTimer := rfl
@[simp] theorem State.modApp_freezeCarried (s : State) (a : Nat) (f : AppLive → AppLive) : (s.modApp a f).freezeCarried = s.freezeCarried := rfl
@[simp] theorem State.modApp_restartRecord (s : State) (a : Nat) (f : AppLive → AppLive) : (s.modApp a f).restartRecord = s.restartRecord := rfl
@[simp] theorem State.modApp_store (s : State) (a : Nat) (f : AppLive → AppLive) : (s.modApp a f).store = s.store := rfl
@[simp] theorem State.modApp_verified (s : State) (a : Nat) (f : AppLive → AppLive) : (s.modApp a f).verified = s.verified := rfl
@[simp] theorem State.modApp_written (s : State) (a : Nat) (f : AppLive → AppLive) : (s.modApp a f).written = s.written := rfl
@[simp] theorem State.modApp_force (s : State) (a : Nat) (f : AppLive → AppLive) : (s.modApp a f).force = s.force := rfl
@[simp] theorem State.modApp_validation (s : State) (a : Nat) (f : AppLive → AppLive) : (s.modApp a f).validation = s.validation := rfl
@[simp] theorem State.modApp_ports (s : State) (a : Nat) (f : AppLive → AppLive) : (s.modApp a f).ports = s.ports := rfl
@[simp] theorem State.modApp_nodes (s : State) (a : Nat) (f : AppLive → AppLive) : (s.modApp a f).nodes = s.nodes := rfl
@[simp] theorem State.modApp_substs (s : State) (a : Nat) (f : AppLive → AppLive) : (s.modApp a f).substs = s.substs := rfl
@[simp] theorem State.modApp_held (s : State) (a : Nat) (f : AppLive → AppLive) : (s.modApp a f).held = s.held := rfl
@[simp] theorem State.modApp_pass (s : State) (a : Nat) (f : AppLive → AppLive) : (s.modApp a f).pass = s.pass := rfl
@[simp] theorem State.modApp_spoils (s : State) (a : Nat) (f : AppLive → AppLive) : (s.modApp a f).spoils = s.spoils := rfl
@[simp] theorem State.modApp_publicationCount (s : State) (a : Nat) (f : AppLive → AppLive) : (s.modApp a f).publicationCount = s.publicationCount := rfl
@[simp] theorem State.modApp_published (s : State) (a : Nat) (f : AppLive → AppLive) : (s.modApp a f).published = s.published := rfl
@[simp] theorem State.modApp_evaluation (s : State) (a : Nat) (f : AppLive → AppLive) : (s.modApp a f).evaluation = s.evaluation := rfl
@[simp] theorem State.modApp_coupled (s : State) (a : Nat) (f : AppLive → AppLive) : (s.modApp a f).coupled = s.coupled := rfl
@[simp] theorem State.modApp_entries (s : State) (a : Nat) (f : AppLive → AppLive) : (s.modApp a f).entries = s.entries := rfl
@[simp] theorem State.modApp_ticketCounter (s : State) (a : Nat) (f : AppLive → AppLive) : (s.modApp a f).ticketCounter = s.ticketCounter := rfl
@[simp] theorem State.modApp_ended (s : State) (a : Nat) (f : AppLive → AppLive) : (s.modApp a f).ended = s.ended := rfl
@[simp] theorem State.modApp_programmes (s : State) (a : Nat) (f : AppLive → AppLive) : (s.modApp a f).programmes = s.programmes := rfl
@[simp] theorem State.modApp_waitingOrder (s : State) (a : Nat) (f : AppLive → AppLive) : (s.modApp a f).waitingOrder = s.waitingOrder := rfl
@[simp] theorem State.modApp_restrictions (s : State) (a : Nat) (f : AppLive → AppLive) : (s.modApp a f).restrictions = s.restrictions := rfl
@[simp] theorem State.modApp_stored (s : State) (a : Nat) (f : AppLive → AppLive) : (s.modApp a f).stored = s.stored := rfl
@[simp] theorem State.modApp_writes (s : State) (a : Nat) (f : AppLive → AppLive) : (s.modApp a f).writes = s.writes := rfl

/-! ### modNode -/

@[simp] theorem State.modNode_pending (s : State) (n : Nat) (f : NodeLive → NodeLive) : (s.modNode n f).pending = s.pending := rfl
@[simp] theorem State.modNode_now (s : State) (n : Nat) (f : NodeLive → NodeLive) : (s.modNode n f).now = s.now := rfl
@[simp] theorem State.modNode_supplyGood (s : State) (n : Nat) (f : NodeLive → NodeLive) : (s.modNode n f).supplyGood = s.supplyGood := rfl
@[simp] theorem State.modNode_lineAsserted (s : State) (n : Nat) (f : NodeLive → NodeLive) : (s.modNode n f).lineAsserted = s.lineAsserted := rfl
@[simp] theorem State.modNode_commandedDue (s : State) (n : Nat) (f : NodeLive → NodeLive) : (s.modNode n f).commandedDue = s.commandedDue := rfl
@[simp] theorem State.modNode_mode (s : State) (n : Nat) (f : NodeLive → NodeLive) : (s.modNode n f).mode = s.mode := rfl
@[simp] theorem State.modNode_restartTimer (s : State) (n : Nat) (f : NodeLive → NodeLive) : (s.modNode n f).restartTimer = s.restartTimer := rfl
@[simp] theorem State.modNode_gatheringTimer (s : State) (n : Nat) (f : NodeLive → NodeLive) : (s.modNode n f).gatheringTimer = s.gatheringTimer := rfl
@[simp] theorem State.modNode_freezeCarried (s : State) (n : Nat) (f : NodeLive → NodeLive) : (s.modNode n f).freezeCarried = s.freezeCarried := rfl
@[simp] theorem State.modNode_restartRecord (s : State) (n : Nat) (f : NodeLive → NodeLive) : (s.modNode n f).restartRecord = s.restartRecord := rfl
@[simp] theorem State.modNode_store (s : State) (n : Nat) (f : NodeLive → NodeLive) : (s.modNode n f).store = s.store := rfl
@[simp] theorem State.modNode_verified (s : State) (n : Nat) (f : NodeLive → NodeLive) : (s.modNode n f).verified = s.verified := rfl
@[simp] theorem State.modNode_written (s : State) (n : Nat) (f : NodeLive → NodeLive) : (s.modNode n f).written = s.written := rfl
@[simp] theorem State.modNode_force (s : State) (n : Nat) (f : NodeLive → NodeLive) : (s.modNode n f).force = s.force := rfl
@[simp] theorem State.modNode_validation (s : State) (n : Nat) (f : NodeLive → NodeLive) : (s.modNode n f).validation = s.validation := rfl
@[simp] theorem State.modNode_ports (s : State) (n : Nat) (f : NodeLive → NodeLive) : (s.modNode n f).ports = s.ports := rfl
@[simp] theorem State.modNode_apps (s : State) (n : Nat) (f : NodeLive → NodeLive) : (s.modNode n f).apps = s.apps := rfl
@[simp] theorem State.modNode_substs (s : State) (n : Nat) (f : NodeLive → NodeLive) : (s.modNode n f).substs = s.substs := rfl
@[simp] theorem State.modNode_held (s : State) (n : Nat) (f : NodeLive → NodeLive) : (s.modNode n f).held = s.held := rfl
@[simp] theorem State.modNode_pass (s : State) (n : Nat) (f : NodeLive → NodeLive) : (s.modNode n f).pass = s.pass := rfl
@[simp] theorem State.modNode_spoils (s : State) (n : Nat) (f : NodeLive → NodeLive) : (s.modNode n f).spoils = s.spoils := rfl
@[simp] theorem State.modNode_publicationCount (s : State) (n : Nat) (f : NodeLive → NodeLive) : (s.modNode n f).publicationCount = s.publicationCount := rfl
@[simp] theorem State.modNode_published (s : State) (n : Nat) (f : NodeLive → NodeLive) : (s.modNode n f).published = s.published := rfl
@[simp] theorem State.modNode_evaluation (s : State) (n : Nat) (f : NodeLive → NodeLive) : (s.modNode n f).evaluation = s.evaluation := rfl
@[simp] theorem State.modNode_coupled (s : State) (n : Nat) (f : NodeLive → NodeLive) : (s.modNode n f).coupled = s.coupled := rfl
@[simp] theorem State.modNode_entries (s : State) (n : Nat) (f : NodeLive → NodeLive) : (s.modNode n f).entries = s.entries := rfl
@[simp] theorem State.modNode_ticketCounter (s : State) (n : Nat) (f : NodeLive → NodeLive) : (s.modNode n f).ticketCounter = s.ticketCounter := rfl
@[simp] theorem State.modNode_ended (s : State) (n : Nat) (f : NodeLive → NodeLive) : (s.modNode n f).ended = s.ended := rfl
@[simp] theorem State.modNode_programmes (s : State) (n : Nat) (f : NodeLive → NodeLive) : (s.modNode n f).programmes = s.programmes := rfl
@[simp] theorem State.modNode_waitingOrder (s : State) (n : Nat) (f : NodeLive → NodeLive) : (s.modNode n f).waitingOrder = s.waitingOrder := rfl
@[simp] theorem State.modNode_restrictions (s : State) (n : Nat) (f : NodeLive → NodeLive) : (s.modNode n f).restrictions = s.restrictions := rfl
@[simp] theorem State.modNode_stored (s : State) (n : Nat) (f : NodeLive → NodeLive) : (s.modNode n f).stored = s.stored := rfl
@[simp] theorem State.modNode_writes (s : State) (n : Nat) (f : NodeLive → NodeLive) : (s.modNode n f).writes = s.writes := rfl

/-! ### modEntry -/

@[simp] theorem State.modEntry_pending (s : State) (t : Nat) (f : Entry → Entry) : (s.modEntry t f).pending = s.pending := rfl
@[simp] theorem State.modEntry_now (s : State) (t : Nat) (f : Entry → Entry) : (s.modEntry t f).now = s.now := rfl
@[simp] theorem State.modEntry_supplyGood (s : State) (t : Nat) (f : Entry → Entry) : (s.modEntry t f).supplyGood = s.supplyGood := rfl
@[simp] theorem State.modEntry_lineAsserted (s : State) (t : Nat) (f : Entry → Entry) : (s.modEntry t f).lineAsserted = s.lineAsserted := rfl
@[simp] theorem State.modEntry_commandedDue (s : State) (t : Nat) (f : Entry → Entry) : (s.modEntry t f).commandedDue = s.commandedDue := rfl
@[simp] theorem State.modEntry_mode (s : State) (t : Nat) (f : Entry → Entry) : (s.modEntry t f).mode = s.mode := rfl
@[simp] theorem State.modEntry_restartTimer (s : State) (t : Nat) (f : Entry → Entry) : (s.modEntry t f).restartTimer = s.restartTimer := rfl
@[simp] theorem State.modEntry_gatheringTimer (s : State) (t : Nat) (f : Entry → Entry) : (s.modEntry t f).gatheringTimer = s.gatheringTimer := rfl
@[simp] theorem State.modEntry_freezeCarried (s : State) (t : Nat) (f : Entry → Entry) : (s.modEntry t f).freezeCarried = s.freezeCarried := rfl
@[simp] theorem State.modEntry_restartRecord (s : State) (t : Nat) (f : Entry → Entry) : (s.modEntry t f).restartRecord = s.restartRecord := rfl
@[simp] theorem State.modEntry_store (s : State) (t : Nat) (f : Entry → Entry) : (s.modEntry t f).store = s.store := rfl
@[simp] theorem State.modEntry_verified (s : State) (t : Nat) (f : Entry → Entry) : (s.modEntry t f).verified = s.verified := rfl
@[simp] theorem State.modEntry_written (s : State) (t : Nat) (f : Entry → Entry) : (s.modEntry t f).written = s.written := rfl
@[simp] theorem State.modEntry_force (s : State) (t : Nat) (f : Entry → Entry) : (s.modEntry t f).force = s.force := rfl
@[simp] theorem State.modEntry_validation (s : State) (t : Nat) (f : Entry → Entry) : (s.modEntry t f).validation = s.validation := rfl
@[simp] theorem State.modEntry_ports (s : State) (t : Nat) (f : Entry → Entry) : (s.modEntry t f).ports = s.ports := rfl
@[simp] theorem State.modEntry_apps (s : State) (t : Nat) (f : Entry → Entry) : (s.modEntry t f).apps = s.apps := rfl
@[simp] theorem State.modEntry_nodes (s : State) (t : Nat) (f : Entry → Entry) : (s.modEntry t f).nodes = s.nodes := rfl
@[simp] theorem State.modEntry_substs (s : State) (t : Nat) (f : Entry → Entry) : (s.modEntry t f).substs = s.substs := rfl
@[simp] theorem State.modEntry_held (s : State) (t : Nat) (f : Entry → Entry) : (s.modEntry t f).held = s.held := rfl
@[simp] theorem State.modEntry_pass (s : State) (t : Nat) (f : Entry → Entry) : (s.modEntry t f).pass = s.pass := rfl
@[simp] theorem State.modEntry_spoils (s : State) (t : Nat) (f : Entry → Entry) : (s.modEntry t f).spoils = s.spoils := rfl
@[simp] theorem State.modEntry_publicationCount (s : State) (t : Nat) (f : Entry → Entry) : (s.modEntry t f).publicationCount = s.publicationCount := rfl
@[simp] theorem State.modEntry_published (s : State) (t : Nat) (f : Entry → Entry) : (s.modEntry t f).published = s.published := rfl
@[simp] theorem State.modEntry_evaluation (s : State) (t : Nat) (f : Entry → Entry) : (s.modEntry t f).evaluation = s.evaluation := rfl
@[simp] theorem State.modEntry_coupled (s : State) (t : Nat) (f : Entry → Entry) : (s.modEntry t f).coupled = s.coupled := rfl
@[simp] theorem State.modEntry_ticketCounter (s : State) (t : Nat) (f : Entry → Entry) : (s.modEntry t f).ticketCounter = s.ticketCounter := rfl
@[simp] theorem State.modEntry_ended (s : State) (t : Nat) (f : Entry → Entry) : (s.modEntry t f).ended = s.ended := rfl
@[simp] theorem State.modEntry_programmes (s : State) (t : Nat) (f : Entry → Entry) : (s.modEntry t f).programmes = s.programmes := rfl
@[simp] theorem State.modEntry_waitingOrder (s : State) (t : Nat) (f : Entry → Entry) : (s.modEntry t f).waitingOrder = s.waitingOrder := rfl
@[simp] theorem State.modEntry_restrictions (s : State) (t : Nat) (f : Entry → Entry) : (s.modEntry t f).restrictions = s.restrictions := rfl
@[simp] theorem State.modEntry_stored (s : State) (t : Nat) (f : Entry → Entry) : (s.modEntry t f).stored = s.stored := rfl
@[simp] theorem State.modEntry_writes (s : State) (t : Nat) (f : Entry → Entry) : (s.modEntry t f).writes = s.writes := rfl

/-! ### modProgramme -/

@[simp] theorem State.modProgramme_pending (s : State) (t : Nat) (f : Programme → Programme) : (s.modProgramme t f).pending = s.pending := rfl
@[simp] theorem State.modProgramme_now (s : State) (t : Nat) (f : Programme → Programme) : (s.modProgramme t f).now = s.now := rfl
@[simp] theorem State.modProgramme_supplyGood (s : State) (t : Nat) (f : Programme → Programme) : (s.modProgramme t f).supplyGood = s.supplyGood := rfl
@[simp] theorem State.modProgramme_lineAsserted (s : State) (t : Nat) (f : Programme → Programme) : (s.modProgramme t f).lineAsserted = s.lineAsserted := rfl
@[simp] theorem State.modProgramme_commandedDue (s : State) (t : Nat) (f : Programme → Programme) : (s.modProgramme t f).commandedDue = s.commandedDue := rfl
@[simp] theorem State.modProgramme_mode (s : State) (t : Nat) (f : Programme → Programme) : (s.modProgramme t f).mode = s.mode := rfl
@[simp] theorem State.modProgramme_restartTimer (s : State) (t : Nat) (f : Programme → Programme) : (s.modProgramme t f).restartTimer = s.restartTimer := rfl
@[simp] theorem State.modProgramme_gatheringTimer (s : State) (t : Nat) (f : Programme → Programme) : (s.modProgramme t f).gatheringTimer = s.gatheringTimer := rfl
@[simp] theorem State.modProgramme_freezeCarried (s : State) (t : Nat) (f : Programme → Programme) : (s.modProgramme t f).freezeCarried = s.freezeCarried := rfl
@[simp] theorem State.modProgramme_restartRecord (s : State) (t : Nat) (f : Programme → Programme) : (s.modProgramme t f).restartRecord = s.restartRecord := rfl
@[simp] theorem State.modProgramme_store (s : State) (t : Nat) (f : Programme → Programme) : (s.modProgramme t f).store = s.store := rfl
@[simp] theorem State.modProgramme_verified (s : State) (t : Nat) (f : Programme → Programme) : (s.modProgramme t f).verified = s.verified := rfl
@[simp] theorem State.modProgramme_written (s : State) (t : Nat) (f : Programme → Programme) : (s.modProgramme t f).written = s.written := rfl
@[simp] theorem State.modProgramme_force (s : State) (t : Nat) (f : Programme → Programme) : (s.modProgramme t f).force = s.force := rfl
@[simp] theorem State.modProgramme_validation (s : State) (t : Nat) (f : Programme → Programme) : (s.modProgramme t f).validation = s.validation := rfl
@[simp] theorem State.modProgramme_ports (s : State) (t : Nat) (f : Programme → Programme) : (s.modProgramme t f).ports = s.ports := rfl
@[simp] theorem State.modProgramme_apps (s : State) (t : Nat) (f : Programme → Programme) : (s.modProgramme t f).apps = s.apps := rfl
@[simp] theorem State.modProgramme_nodes (s : State) (t : Nat) (f : Programme → Programme) : (s.modProgramme t f).nodes = s.nodes := rfl
@[simp] theorem State.modProgramme_substs (s : State) (t : Nat) (f : Programme → Programme) : (s.modProgramme t f).substs = s.substs := rfl
@[simp] theorem State.modProgramme_held (s : State) (t : Nat) (f : Programme → Programme) : (s.modProgramme t f).held = s.held := rfl
@[simp] theorem State.modProgramme_pass (s : State) (t : Nat) (f : Programme → Programme) : (s.modProgramme t f).pass = s.pass := rfl
@[simp] theorem State.modProgramme_spoils (s : State) (t : Nat) (f : Programme → Programme) : (s.modProgramme t f).spoils = s.spoils := rfl
@[simp] theorem State.modProgramme_publicationCount (s : State) (t : Nat) (f : Programme → Programme) : (s.modProgramme t f).publicationCount = s.publicationCount := rfl
@[simp] theorem State.modProgramme_published (s : State) (t : Nat) (f : Programme → Programme) : (s.modProgramme t f).published = s.published := rfl
@[simp] theorem State.modProgramme_evaluation (s : State) (t : Nat) (f : Programme → Programme) : (s.modProgramme t f).evaluation = s.evaluation := rfl
@[simp] theorem State.modProgramme_coupled (s : State) (t : Nat) (f : Programme → Programme) : (s.modProgramme t f).coupled = s.coupled := rfl
@[simp] theorem State.modProgramme_entries (s : State) (t : Nat) (f : Programme → Programme) : (s.modProgramme t f).entries = s.entries := rfl
@[simp] theorem State.modProgramme_ticketCounter (s : State) (t : Nat) (f : Programme → Programme) : (s.modProgramme t f).ticketCounter = s.ticketCounter := rfl
@[simp] theorem State.modProgramme_ended (s : State) (t : Nat) (f : Programme → Programme) : (s.modProgramme t f).ended = s.ended := rfl
@[simp] theorem State.modProgramme_waitingOrder (s : State) (t : Nat) (f : Programme → Programme) : (s.modProgramme t f).waitingOrder = s.waitingOrder := rfl
@[simp] theorem State.modProgramme_restrictions (s : State) (t : Nat) (f : Programme → Programme) : (s.modProgramme t f).restrictions = s.restrictions := rfl
@[simp] theorem State.modProgramme_stored (s : State) (t : Nat) (f : Programme → Programme) : (s.modProgramme t f).stored = s.stored := rfl
@[simp] theorem State.modProgramme_writes (s : State) (t : Nat) (f : Programme → Programme) : (s.modProgramme t f).writes = s.writes := rfl

/-! ### modPort -/

@[simp] theorem State.modPort_pending (s : State) (p : Nat) (f : Port → Port) : (s.modPort p f).pending = s.pending := rfl
@[simp] theorem State.modPort_now (s : State) (p : Nat) (f : Port → Port) : (s.modPort p f).now = s.now := rfl
@[simp] theorem State.modPort_supplyGood (s : State) (p : Nat) (f : Port → Port) : (s.modPort p f).supplyGood = s.supplyGood := rfl
@[simp] theorem State.modPort_lineAsserted (s : State) (p : Nat) (f : Port → Port) : (s.modPort p f).lineAsserted = s.lineAsserted := rfl
@[simp] theorem State.modPort_commandedDue (s : State) (p : Nat) (f : Port → Port) : (s.modPort p f).commandedDue = s.commandedDue := rfl
@[simp] theorem State.modPort_mode (s : State) (p : Nat) (f : Port → Port) : (s.modPort p f).mode = s.mode := rfl
@[simp] theorem State.modPort_restartTimer (s : State) (p : Nat) (f : Port → Port) : (s.modPort p f).restartTimer = s.restartTimer := rfl
@[simp] theorem State.modPort_gatheringTimer (s : State) (p : Nat) (f : Port → Port) : (s.modPort p f).gatheringTimer = s.gatheringTimer := rfl
@[simp] theorem State.modPort_freezeCarried (s : State) (p : Nat) (f : Port → Port) : (s.modPort p f).freezeCarried = s.freezeCarried := rfl
@[simp] theorem State.modPort_restartRecord (s : State) (p : Nat) (f : Port → Port) : (s.modPort p f).restartRecord = s.restartRecord := rfl
@[simp] theorem State.modPort_store (s : State) (p : Nat) (f : Port → Port) : (s.modPort p f).store = s.store := rfl
@[simp] theorem State.modPort_verified (s : State) (p : Nat) (f : Port → Port) : (s.modPort p f).verified = s.verified := rfl
@[simp] theorem State.modPort_written (s : State) (p : Nat) (f : Port → Port) : (s.modPort p f).written = s.written := rfl
@[simp] theorem State.modPort_force (s : State) (p : Nat) (f : Port → Port) : (s.modPort p f).force = s.force := rfl
@[simp] theorem State.modPort_validation (s : State) (p : Nat) (f : Port → Port) : (s.modPort p f).validation = s.validation := rfl
@[simp] theorem State.modPort_apps (s : State) (p : Nat) (f : Port → Port) : (s.modPort p f).apps = s.apps := rfl
@[simp] theorem State.modPort_nodes (s : State) (p : Nat) (f : Port → Port) : (s.modPort p f).nodes = s.nodes := rfl
@[simp] theorem State.modPort_substs (s : State) (p : Nat) (f : Port → Port) : (s.modPort p f).substs = s.substs := rfl
@[simp] theorem State.modPort_held (s : State) (p : Nat) (f : Port → Port) : (s.modPort p f).held = s.held := rfl
@[simp] theorem State.modPort_pass (s : State) (p : Nat) (f : Port → Port) : (s.modPort p f).pass = s.pass := rfl
@[simp] theorem State.modPort_spoils (s : State) (p : Nat) (f : Port → Port) : (s.modPort p f).spoils = s.spoils := rfl
@[simp] theorem State.modPort_publicationCount (s : State) (p : Nat) (f : Port → Port) : (s.modPort p f).publicationCount = s.publicationCount := rfl
@[simp] theorem State.modPort_published (s : State) (p : Nat) (f : Port → Port) : (s.modPort p f).published = s.published := rfl
@[simp] theorem State.modPort_evaluation (s : State) (p : Nat) (f : Port → Port) : (s.modPort p f).evaluation = s.evaluation := rfl
@[simp] theorem State.modPort_coupled (s : State) (p : Nat) (f : Port → Port) : (s.modPort p f).coupled = s.coupled := rfl
@[simp] theorem State.modPort_entries (s : State) (p : Nat) (f : Port → Port) : (s.modPort p f).entries = s.entries := rfl
@[simp] theorem State.modPort_ticketCounter (s : State) (p : Nat) (f : Port → Port) : (s.modPort p f).ticketCounter = s.ticketCounter := rfl
@[simp] theorem State.modPort_ended (s : State) (p : Nat) (f : Port → Port) : (s.modPort p f).ended = s.ended := rfl
@[simp] theorem State.modPort_programmes (s : State) (p : Nat) (f : Port → Port) : (s.modPort p f).programmes = s.programmes := rfl
@[simp] theorem State.modPort_waitingOrder (s : State) (p : Nat) (f : Port → Port) : (s.modPort p f).waitingOrder = s.waitingOrder := rfl
@[simp] theorem State.modPort_restrictions (s : State) (p : Nat) (f : Port → Port) : (s.modPort p f).restrictions = s.restrictions := rfl
@[simp] theorem State.modPort_stored (s : State) (p : Nat) (f : Port → Port) : (s.modPort p f).stored = s.stored := rfl
@[simp] theorem State.modPort_writes (s : State) (p : Nat) (f : Port → Port) : (s.modPort p f).writes = s.writes := rfl

/-! ### modHeld -/

@[simp] theorem State.modHeld_pending (s : State) (i : RecordId) (f : HeldCopy → HeldCopy) : (s.modHeld i f).pending = s.pending := rfl
@[simp] theorem State.modHeld_now (s : State) (i : RecordId) (f : HeldCopy → HeldCopy) : (s.modHeld i f).now = s.now := rfl
@[simp] theorem State.modHeld_supplyGood (s : State) (i : RecordId) (f : HeldCopy → HeldCopy) : (s.modHeld i f).supplyGood = s.supplyGood := rfl
@[simp] theorem State.modHeld_lineAsserted (s : State) (i : RecordId) (f : HeldCopy → HeldCopy) : (s.modHeld i f).lineAsserted = s.lineAsserted := rfl
@[simp] theorem State.modHeld_commandedDue (s : State) (i : RecordId) (f : HeldCopy → HeldCopy) : (s.modHeld i f).commandedDue = s.commandedDue := rfl
@[simp] theorem State.modHeld_mode (s : State) (i : RecordId) (f : HeldCopy → HeldCopy) : (s.modHeld i f).mode = s.mode := rfl
@[simp] theorem State.modHeld_restartTimer (s : State) (i : RecordId) (f : HeldCopy → HeldCopy) : (s.modHeld i f).restartTimer = s.restartTimer := rfl
@[simp] theorem State.modHeld_gatheringTimer (s : State) (i : RecordId) (f : HeldCopy → HeldCopy) : (s.modHeld i f).gatheringTimer = s.gatheringTimer := rfl
@[simp] theorem State.modHeld_freezeCarried (s : State) (i : RecordId) (f : HeldCopy → HeldCopy) : (s.modHeld i f).freezeCarried = s.freezeCarried := rfl
@[simp] theorem State.modHeld_restartRecord (s : State) (i : RecordId) (f : HeldCopy → HeldCopy) : (s.modHeld i f).restartRecord = s.restartRecord := rfl
@[simp] theorem State.modHeld_store (s : State) (i : RecordId) (f : HeldCopy → HeldCopy) : (s.modHeld i f).store = s.store := rfl
@[simp] theorem State.modHeld_verified (s : State) (i : RecordId) (f : HeldCopy → HeldCopy) : (s.modHeld i f).verified = s.verified := rfl
@[simp] theorem State.modHeld_written (s : State) (i : RecordId) (f : HeldCopy → HeldCopy) : (s.modHeld i f).written = s.written := rfl
@[simp] theorem State.modHeld_force (s : State) (i : RecordId) (f : HeldCopy → HeldCopy) : (s.modHeld i f).force = s.force := rfl
@[simp] theorem State.modHeld_validation (s : State) (i : RecordId) (f : HeldCopy → HeldCopy) : (s.modHeld i f).validation = s.validation := rfl
@[simp] theorem State.modHeld_ports (s : State) (i : RecordId) (f : HeldCopy → HeldCopy) : (s.modHeld i f).ports = s.ports := rfl
@[simp] theorem State.modHeld_apps (s : State) (i : RecordId) (f : HeldCopy → HeldCopy) : (s.modHeld i f).apps = s.apps := rfl
@[simp] theorem State.modHeld_nodes (s : State) (i : RecordId) (f : HeldCopy → HeldCopy) : (s.modHeld i f).nodes = s.nodes := rfl
@[simp] theorem State.modHeld_substs (s : State) (i : RecordId) (f : HeldCopy → HeldCopy) : (s.modHeld i f).substs = s.substs := rfl
@[simp] theorem State.modHeld_pass (s : State) (i : RecordId) (f : HeldCopy → HeldCopy) : (s.modHeld i f).pass = s.pass := rfl
@[simp] theorem State.modHeld_spoils (s : State) (i : RecordId) (f : HeldCopy → HeldCopy) : (s.modHeld i f).spoils = s.spoils := rfl
@[simp] theorem State.modHeld_publicationCount (s : State) (i : RecordId) (f : HeldCopy → HeldCopy) : (s.modHeld i f).publicationCount = s.publicationCount := rfl
@[simp] theorem State.modHeld_published (s : State) (i : RecordId) (f : HeldCopy → HeldCopy) : (s.modHeld i f).published = s.published := rfl
@[simp] theorem State.modHeld_evaluation (s : State) (i : RecordId) (f : HeldCopy → HeldCopy) : (s.modHeld i f).evaluation = s.evaluation := rfl
@[simp] theorem State.modHeld_coupled (s : State) (i : RecordId) (f : HeldCopy → HeldCopy) : (s.modHeld i f).coupled = s.coupled := rfl
@[simp] theorem State.modHeld_entries (s : State) (i : RecordId) (f : HeldCopy → HeldCopy) : (s.modHeld i f).entries = s.entries := rfl
@[simp] theorem State.modHeld_ticketCounter (s : State) (i : RecordId) (f : HeldCopy → HeldCopy) : (s.modHeld i f).ticketCounter = s.ticketCounter := rfl
@[simp] theorem State.modHeld_ended (s : State) (i : RecordId) (f : HeldCopy → HeldCopy) : (s.modHeld i f).ended = s.ended := rfl
@[simp] theorem State.modHeld_programmes (s : State) (i : RecordId) (f : HeldCopy → HeldCopy) : (s.modHeld i f).programmes = s.programmes := rfl
@[simp] theorem State.modHeld_waitingOrder (s : State) (i : RecordId) (f : HeldCopy → HeldCopy) : (s.modHeld i f).waitingOrder = s.waitingOrder := rfl
@[simp] theorem State.modHeld_restrictions (s : State) (i : RecordId) (f : HeldCopy → HeldCopy) : (s.modHeld i f).restrictions = s.restrictions := rfl
@[simp] theorem State.modHeld_stored (s : State) (i : RecordId) (f : HeldCopy → HeldCopy) : (s.modHeld i f).stored = s.stored := rfl
@[simp] theorem State.modHeld_writes (s : State) (i : RecordId) (f : HeldCopy → HeldCopy) : (s.modHeld i f).writes = s.writes := rfl

/-! ### ticketIssued -/

@[simp] theorem State.ticketIssued_pending (s : State) (t : Nat) : (s.ticketIssued t).pending = s.pending := rfl
@[simp] theorem State.ticketIssued_now (s : State) (t : Nat) : (s.ticketIssued t).now = s.now := rfl
@[simp] theorem State.ticketIssued_supplyGood (s : State) (t : Nat) : (s.ticketIssued t).supplyGood = s.supplyGood := rfl
@[simp] theorem State.ticketIssued_lineAsserted (s : State) (t : Nat) : (s.ticketIssued t).lineAsserted = s.lineAsserted := rfl
@[simp] theorem State.ticketIssued_commandedDue (s : State) (t : Nat) : (s.ticketIssued t).commandedDue = s.commandedDue := rfl
@[simp] theorem State.ticketIssued_mode (s : State) (t : Nat) : (s.ticketIssued t).mode = s.mode := rfl
@[simp] theorem State.ticketIssued_restartTimer (s : State) (t : Nat) : (s.ticketIssued t).restartTimer = s.restartTimer := rfl
@[simp] theorem State.ticketIssued_gatheringTimer (s : State) (t : Nat) : (s.ticketIssued t).gatheringTimer = s.gatheringTimer := rfl
@[simp] theorem State.ticketIssued_freezeCarried (s : State) (t : Nat) : (s.ticketIssued t).freezeCarried = s.freezeCarried := rfl
@[simp] theorem State.ticketIssued_restartRecord (s : State) (t : Nat) : (s.ticketIssued t).restartRecord = s.restartRecord := rfl
@[simp] theorem State.ticketIssued_store (s : State) (t : Nat) : (s.ticketIssued t).store = s.store := rfl
@[simp] theorem State.ticketIssued_verified (s : State) (t : Nat) : (s.ticketIssued t).verified = s.verified := rfl
@[simp] theorem State.ticketIssued_written (s : State) (t : Nat) : (s.ticketIssued t).written = s.written := rfl
@[simp] theorem State.ticketIssued_force (s : State) (t : Nat) : (s.ticketIssued t).force = s.force := rfl
@[simp] theorem State.ticketIssued_validation (s : State) (t : Nat) : (s.ticketIssued t).validation = s.validation := rfl
@[simp] theorem State.ticketIssued_ports (s : State) (t : Nat) : (s.ticketIssued t).ports = s.ports := rfl
@[simp] theorem State.ticketIssued_apps (s : State) (t : Nat) : (s.ticketIssued t).apps = s.apps := rfl
@[simp] theorem State.ticketIssued_nodes (s : State) (t : Nat) : (s.ticketIssued t).nodes = s.nodes := rfl
@[simp] theorem State.ticketIssued_substs (s : State) (t : Nat) : (s.ticketIssued t).substs = s.substs := rfl
@[simp] theorem State.ticketIssued_held (s : State) (t : Nat) : (s.ticketIssued t).held = s.held := rfl
@[simp] theorem State.ticketIssued_pass (s : State) (t : Nat) : (s.ticketIssued t).pass = s.pass := rfl
@[simp] theorem State.ticketIssued_spoils (s : State) (t : Nat) : (s.ticketIssued t).spoils = s.spoils := rfl
@[simp] theorem State.ticketIssued_publicationCount (s : State) (t : Nat) : (s.ticketIssued t).publicationCount = s.publicationCount := rfl
@[simp] theorem State.ticketIssued_published (s : State) (t : Nat) : (s.ticketIssued t).published = s.published := rfl
@[simp] theorem State.ticketIssued_evaluation (s : State) (t : Nat) : (s.ticketIssued t).evaluation = s.evaluation := rfl
@[simp] theorem State.ticketIssued_coupled (s : State) (t : Nat) : (s.ticketIssued t).coupled = s.coupled := rfl
@[simp] theorem State.ticketIssued_entries (s : State) (t : Nat) : (s.ticketIssued t).entries = s.entries := rfl
@[simp] theorem State.ticketIssued_ended (s : State) (t : Nat) : (s.ticketIssued t).ended = s.ended := rfl
@[simp] theorem State.ticketIssued_programmes (s : State) (t : Nat) : (s.ticketIssued t).programmes = s.programmes := rfl
@[simp] theorem State.ticketIssued_waitingOrder (s : State) (t : Nat) : (s.ticketIssued t).waitingOrder = s.waitingOrder := rfl
@[simp] theorem State.ticketIssued_restrictions (s : State) (t : Nat) : (s.ticketIssued t).restrictions = s.restrictions := rfl
@[simp] theorem State.ticketIssued_stored (s : State) (t : Nat) : (s.ticketIssued t).stored = s.stored := rfl
@[simp] theorem State.ticketIssued_writes (s : State) (t : Nat) : (s.ticketIssued t).writes = s.writes := rfl

/-! ### startPass -/

@[simp] theorem State.startPass_pending (s : State) (h : Bool) : (s.startPass h).pending = s.pending := rfl
@[simp] theorem State.startPass_now (s : State) (h : Bool) : (s.startPass h).now = s.now := rfl
@[simp] theorem State.startPass_supplyGood (s : State) (h : Bool) : (s.startPass h).supplyGood = s.supplyGood := rfl
@[simp] theorem State.startPass_lineAsserted (s : State) (h : Bool) : (s.startPass h).lineAsserted = s.lineAsserted := rfl
@[simp] theorem State.startPass_commandedDue (s : State) (h : Bool) : (s.startPass h).commandedDue = s.commandedDue := rfl
@[simp] theorem State.startPass_mode (s : State) (h : Bool) : (s.startPass h).mode = s.mode := rfl
@[simp] theorem State.startPass_restartTimer (s : State) (h : Bool) : (s.startPass h).restartTimer = s.restartTimer := rfl
@[simp] theorem State.startPass_gatheringTimer (s : State) (h : Bool) : (s.startPass h).gatheringTimer = s.gatheringTimer := rfl
@[simp] theorem State.startPass_freezeCarried (s : State) (h : Bool) : (s.startPass h).freezeCarried = s.freezeCarried := rfl
@[simp] theorem State.startPass_restartRecord (s : State) (h : Bool) : (s.startPass h).restartRecord = s.restartRecord := rfl
@[simp] theorem State.startPass_store (s : State) (h : Bool) : (s.startPass h).store = s.store := rfl
@[simp] theorem State.startPass_verified (s : State) (h : Bool) : (s.startPass h).verified = s.verified := rfl
@[simp] theorem State.startPass_written (s : State) (h : Bool) : (s.startPass h).written = s.written := rfl
@[simp] theorem State.startPass_force (s : State) (h : Bool) : (s.startPass h).force = s.force := rfl
@[simp] theorem State.startPass_validation (s : State) (h : Bool) : (s.startPass h).validation = s.validation := rfl
@[simp] theorem State.startPass_ports (s : State) (h : Bool) : (s.startPass h).ports = s.ports := rfl
@[simp] theorem State.startPass_apps (s : State) (h : Bool) : (s.startPass h).apps = s.apps := rfl
@[simp] theorem State.startPass_nodes (s : State) (h : Bool) : (s.startPass h).nodes = s.nodes := rfl
@[simp] theorem State.startPass_substs (s : State) (h : Bool) : (s.startPass h).substs = s.substs := rfl
@[simp] theorem State.startPass_held (s : State) (h : Bool) : (s.startPass h).held = s.held := rfl
@[simp] theorem State.startPass_spoils (s : State) (h : Bool) : (s.startPass h).spoils = s.spoils := rfl
@[simp] theorem State.startPass_publicationCount (s : State) (h : Bool) : (s.startPass h).publicationCount = s.publicationCount := rfl
@[simp] theorem State.startPass_published (s : State) (h : Bool) : (s.startPass h).published = s.published := rfl
@[simp] theorem State.startPass_evaluation (s : State) (h : Bool) : (s.startPass h).evaluation = s.evaluation := rfl
@[simp] theorem State.startPass_coupled (s : State) (h : Bool) : (s.startPass h).coupled = s.coupled := rfl
@[simp] theorem State.startPass_entries (s : State) (h : Bool) : (s.startPass h).entries = s.entries := rfl
@[simp] theorem State.startPass_ticketCounter (s : State) (h : Bool) : (s.startPass h).ticketCounter = s.ticketCounter := rfl
@[simp] theorem State.startPass_ended (s : State) (h : Bool) : (s.startPass h).ended = s.ended := rfl
@[simp] theorem State.startPass_programmes (s : State) (h : Bool) : (s.startPass h).programmes = s.programmes := rfl
@[simp] theorem State.startPass_waitingOrder (s : State) (h : Bool) : (s.startPass h).waitingOrder = s.waitingOrder := rfl
@[simp] theorem State.startPass_restrictions (s : State) (h : Bool) : (s.startPass h).restrictions = s.restrictions := rfl
@[simp] theorem State.startPass_stored (s : State) (h : Bool) : (s.startPass h).stored = s.stored := rfl
@[simp] theorem State.startPass_writes (s : State) (h : Bool) : (s.startPass h).writes = s.writes := rfl

/-! ### placeAnswer -/

@[simp] theorem State.placeAnswer_pending (s : State) (p n : Nat) (a : Outgoing) : (s.placeAnswer p n a).pending = s.pending := rfl
@[simp] theorem State.placeAnswer_now (s : State) (p n : Nat) (a : Outgoing) : (s.placeAnswer p n a).now = s.now := rfl
@[simp] theorem State.placeAnswer_supplyGood (s : State) (p n : Nat) (a : Outgoing) : (s.placeAnswer p n a).supplyGood = s.supplyGood := rfl
@[simp] theorem State.placeAnswer_lineAsserted (s : State) (p n : Nat) (a : Outgoing) : (s.placeAnswer p n a).lineAsserted = s.lineAsserted := rfl
@[simp] theorem State.placeAnswer_commandedDue (s : State) (p n : Nat) (a : Outgoing) : (s.placeAnswer p n a).commandedDue = s.commandedDue := rfl
@[simp] theorem State.placeAnswer_mode (s : State) (p n : Nat) (a : Outgoing) : (s.placeAnswer p n a).mode = s.mode := rfl
@[simp] theorem State.placeAnswer_restartTimer (s : State) (p n : Nat) (a : Outgoing) : (s.placeAnswer p n a).restartTimer = s.restartTimer := rfl
@[simp] theorem State.placeAnswer_gatheringTimer (s : State) (p n : Nat) (a : Outgoing) : (s.placeAnswer p n a).gatheringTimer = s.gatheringTimer := rfl
@[simp] theorem State.placeAnswer_freezeCarried (s : State) (p n : Nat) (a : Outgoing) : (s.placeAnswer p n a).freezeCarried = s.freezeCarried := rfl
@[simp] theorem State.placeAnswer_restartRecord (s : State) (p n : Nat) (a : Outgoing) : (s.placeAnswer p n a).restartRecord = s.restartRecord := rfl
@[simp] theorem State.placeAnswer_store (s : State) (p n : Nat) (a : Outgoing) : (s.placeAnswer p n a).store = s.store := rfl
@[simp] theorem State.placeAnswer_verified (s : State) (p n : Nat) (a : Outgoing) : (s.placeAnswer p n a).verified = s.verified := rfl
@[simp] theorem State.placeAnswer_written (s : State) (p n : Nat) (a : Outgoing) : (s.placeAnswer p n a).written = s.written := rfl
@[simp] theorem State.placeAnswer_force (s : State) (p n : Nat) (a : Outgoing) : (s.placeAnswer p n a).force = s.force := rfl
@[simp] theorem State.placeAnswer_validation (s : State) (p n : Nat) (a : Outgoing) : (s.placeAnswer p n a).validation = s.validation := rfl
@[simp] theorem State.placeAnswer_apps (s : State) (p n : Nat) (a : Outgoing) : (s.placeAnswer p n a).apps = s.apps := rfl
@[simp] theorem State.placeAnswer_nodes (s : State) (p n : Nat) (a : Outgoing) : (s.placeAnswer p n a).nodes = s.nodes := rfl
@[simp] theorem State.placeAnswer_substs (s : State) (p n : Nat) (a : Outgoing) : (s.placeAnswer p n a).substs = s.substs := rfl
@[simp] theorem State.placeAnswer_held (s : State) (p n : Nat) (a : Outgoing) : (s.placeAnswer p n a).held = s.held := rfl
@[simp] theorem State.placeAnswer_pass (s : State) (p n : Nat) (a : Outgoing) : (s.placeAnswer p n a).pass = s.pass := rfl
@[simp] theorem State.placeAnswer_spoils (s : State) (p n : Nat) (a : Outgoing) : (s.placeAnswer p n a).spoils = s.spoils := rfl
@[simp] theorem State.placeAnswer_publicationCount (s : State) (p n : Nat) (a : Outgoing) : (s.placeAnswer p n a).publicationCount = s.publicationCount := rfl
@[simp] theorem State.placeAnswer_published (s : State) (p n : Nat) (a : Outgoing) : (s.placeAnswer p n a).published = s.published := rfl
@[simp] theorem State.placeAnswer_evaluation (s : State) (p n : Nat) (a : Outgoing) : (s.placeAnswer p n a).evaluation = s.evaluation := rfl
@[simp] theorem State.placeAnswer_coupled (s : State) (p n : Nat) (a : Outgoing) : (s.placeAnswer p n a).coupled = s.coupled := rfl
@[simp] theorem State.placeAnswer_entries (s : State) (p n : Nat) (a : Outgoing) : (s.placeAnswer p n a).entries = s.entries := rfl
@[simp] theorem State.placeAnswer_ticketCounter (s : State) (p n : Nat) (a : Outgoing) : (s.placeAnswer p n a).ticketCounter = s.ticketCounter := rfl
@[simp] theorem State.placeAnswer_ended (s : State) (p n : Nat) (a : Outgoing) : (s.placeAnswer p n a).ended = s.ended := rfl
@[simp] theorem State.placeAnswer_programmes (s : State) (p n : Nat) (a : Outgoing) : (s.placeAnswer p n a).programmes = s.programmes := rfl
@[simp] theorem State.placeAnswer_waitingOrder (s : State) (p n : Nat) (a : Outgoing) : (s.placeAnswer p n a).waitingOrder = s.waitingOrder := rfl
@[simp] theorem State.placeAnswer_restrictions (s : State) (p n : Nat) (a : Outgoing) : (s.placeAnswer p n a).restrictions = s.restrictions := rfl
@[simp] theorem State.placeAnswer_stored (s : State) (p n : Nat) (a : Outgoing) : (s.placeAnswer p n a).stored = s.stored := rfl
@[simp] theorem State.placeAnswer_writes (s : State) (p n : Nat) (a : Outgoing) : (s.placeAnswer p n a).writes = s.writes := rfl

/-! ### queueTail -/

@[simp] theorem State.queueTail_pending (s : State) (p t : Nat) : (s.queueTail p t).pending = s.pending := rfl
@[simp] theorem State.queueTail_now (s : State) (p t : Nat) : (s.queueTail p t).now = s.now := rfl
@[simp] theorem State.queueTail_supplyGood (s : State) (p t : Nat) : (s.queueTail p t).supplyGood = s.supplyGood := rfl
@[simp] theorem State.queueTail_lineAsserted (s : State) (p t : Nat) : (s.queueTail p t).lineAsserted = s.lineAsserted := rfl
@[simp] theorem State.queueTail_commandedDue (s : State) (p t : Nat) : (s.queueTail p t).commandedDue = s.commandedDue := rfl
@[simp] theorem State.queueTail_mode (s : State) (p t : Nat) : (s.queueTail p t).mode = s.mode := rfl
@[simp] theorem State.queueTail_restartTimer (s : State) (p t : Nat) : (s.queueTail p t).restartTimer = s.restartTimer := rfl
@[simp] theorem State.queueTail_gatheringTimer (s : State) (p t : Nat) : (s.queueTail p t).gatheringTimer = s.gatheringTimer := rfl
@[simp] theorem State.queueTail_freezeCarried (s : State) (p t : Nat) : (s.queueTail p t).freezeCarried = s.freezeCarried := rfl
@[simp] theorem State.queueTail_restartRecord (s : State) (p t : Nat) : (s.queueTail p t).restartRecord = s.restartRecord := rfl
@[simp] theorem State.queueTail_store (s : State) (p t : Nat) : (s.queueTail p t).store = s.store := rfl
@[simp] theorem State.queueTail_verified (s : State) (p t : Nat) : (s.queueTail p t).verified = s.verified := rfl
@[simp] theorem State.queueTail_written (s : State) (p t : Nat) : (s.queueTail p t).written = s.written := rfl
@[simp] theorem State.queueTail_force (s : State) (p t : Nat) : (s.queueTail p t).force = s.force := rfl
@[simp] theorem State.queueTail_validation (s : State) (p t : Nat) : (s.queueTail p t).validation = s.validation := rfl
@[simp] theorem State.queueTail_apps (s : State) (p t : Nat) : (s.queueTail p t).apps = s.apps := rfl
@[simp] theorem State.queueTail_nodes (s : State) (p t : Nat) : (s.queueTail p t).nodes = s.nodes := rfl
@[simp] theorem State.queueTail_substs (s : State) (p t : Nat) : (s.queueTail p t).substs = s.substs := rfl
@[simp] theorem State.queueTail_held (s : State) (p t : Nat) : (s.queueTail p t).held = s.held := rfl
@[simp] theorem State.queueTail_pass (s : State) (p t : Nat) : (s.queueTail p t).pass = s.pass := rfl
@[simp] theorem State.queueTail_spoils (s : State) (p t : Nat) : (s.queueTail p t).spoils = s.spoils := rfl
@[simp] theorem State.queueTail_publicationCount (s : State) (p t : Nat) : (s.queueTail p t).publicationCount = s.publicationCount := rfl
@[simp] theorem State.queueTail_published (s : State) (p t : Nat) : (s.queueTail p t).published = s.published := rfl
@[simp] theorem State.queueTail_evaluation (s : State) (p t : Nat) : (s.queueTail p t).evaluation = s.evaluation := rfl
@[simp] theorem State.queueTail_coupled (s : State) (p t : Nat) : (s.queueTail p t).coupled = s.coupled := rfl
@[simp] theorem State.queueTail_entries (s : State) (p t : Nat) : (s.queueTail p t).entries = s.entries := rfl
@[simp] theorem State.queueTail_ticketCounter (s : State) (p t : Nat) : (s.queueTail p t).ticketCounter = s.ticketCounter := rfl
@[simp] theorem State.queueTail_ended (s : State) (p t : Nat) : (s.queueTail p t).ended = s.ended := rfl
@[simp] theorem State.queueTail_programmes (s : State) (p t : Nat) : (s.queueTail p t).programmes = s.programmes := rfl
@[simp] theorem State.queueTail_waitingOrder (s : State) (p t : Nat) : (s.queueTail p t).waitingOrder = s.waitingOrder := rfl
@[simp] theorem State.queueTail_restrictions (s : State) (p t : Nat) : (s.queueTail p t).restrictions = s.restrictions := rfl
@[simp] theorem State.queueTail_stored (s : State) (p t : Nat) : (s.queueTail p t).stored = s.stored := rfl
@[simp] theorem State.queueTail_writes (s : State) (p t : Nat) : (s.queueTail p t).writes = s.writes := rfl

/-! ### queueLeave -/

@[simp] theorem State.queueLeave_pending (s : State) (p t : Nat) : (s.queueLeave p t).pending = s.pending := rfl
@[simp] theorem State.queueLeave_now (s : State) (p t : Nat) : (s.queueLeave p t).now = s.now := rfl
@[simp] theorem State.queueLeave_supplyGood (s : State) (p t : Nat) : (s.queueLeave p t).supplyGood = s.supplyGood := rfl
@[simp] theorem State.queueLeave_lineAsserted (s : State) (p t : Nat) : (s.queueLeave p t).lineAsserted = s.lineAsserted := rfl
@[simp] theorem State.queueLeave_commandedDue (s : State) (p t : Nat) : (s.queueLeave p t).commandedDue = s.commandedDue := rfl
@[simp] theorem State.queueLeave_mode (s : State) (p t : Nat) : (s.queueLeave p t).mode = s.mode := rfl
@[simp] theorem State.queueLeave_restartTimer (s : State) (p t : Nat) : (s.queueLeave p t).restartTimer = s.restartTimer := rfl
@[simp] theorem State.queueLeave_gatheringTimer (s : State) (p t : Nat) : (s.queueLeave p t).gatheringTimer = s.gatheringTimer := rfl
@[simp] theorem State.queueLeave_freezeCarried (s : State) (p t : Nat) : (s.queueLeave p t).freezeCarried = s.freezeCarried := rfl
@[simp] theorem State.queueLeave_restartRecord (s : State) (p t : Nat) : (s.queueLeave p t).restartRecord = s.restartRecord := rfl
@[simp] theorem State.queueLeave_store (s : State) (p t : Nat) : (s.queueLeave p t).store = s.store := rfl
@[simp] theorem State.queueLeave_verified (s : State) (p t : Nat) : (s.queueLeave p t).verified = s.verified := rfl
@[simp] theorem State.queueLeave_written (s : State) (p t : Nat) : (s.queueLeave p t).written = s.written := rfl
@[simp] theorem State.queueLeave_force (s : State) (p t : Nat) : (s.queueLeave p t).force = s.force := rfl
@[simp] theorem State.queueLeave_validation (s : State) (p t : Nat) : (s.queueLeave p t).validation = s.validation := rfl
@[simp] theorem State.queueLeave_apps (s : State) (p t : Nat) : (s.queueLeave p t).apps = s.apps := rfl
@[simp] theorem State.queueLeave_nodes (s : State) (p t : Nat) : (s.queueLeave p t).nodes = s.nodes := rfl
@[simp] theorem State.queueLeave_substs (s : State) (p t : Nat) : (s.queueLeave p t).substs = s.substs := rfl
@[simp] theorem State.queueLeave_held (s : State) (p t : Nat) : (s.queueLeave p t).held = s.held := rfl
@[simp] theorem State.queueLeave_pass (s : State) (p t : Nat) : (s.queueLeave p t).pass = s.pass := rfl
@[simp] theorem State.queueLeave_spoils (s : State) (p t : Nat) : (s.queueLeave p t).spoils = s.spoils := rfl
@[simp] theorem State.queueLeave_publicationCount (s : State) (p t : Nat) : (s.queueLeave p t).publicationCount = s.publicationCount := rfl
@[simp] theorem State.queueLeave_published (s : State) (p t : Nat) : (s.queueLeave p t).published = s.published := rfl
@[simp] theorem State.queueLeave_evaluation (s : State) (p t : Nat) : (s.queueLeave p t).evaluation = s.evaluation := rfl
@[simp] theorem State.queueLeave_coupled (s : State) (p t : Nat) : (s.queueLeave p t).coupled = s.coupled := rfl
@[simp] theorem State.queueLeave_entries (s : State) (p t : Nat) : (s.queueLeave p t).entries = s.entries := rfl
@[simp] theorem State.queueLeave_ticketCounter (s : State) (p t : Nat) : (s.queueLeave p t).ticketCounter = s.ticketCounter := rfl
@[simp] theorem State.queueLeave_ended (s : State) (p t : Nat) : (s.queueLeave p t).ended = s.ended := rfl
@[simp] theorem State.queueLeave_programmes (s : State) (p t : Nat) : (s.queueLeave p t).programmes = s.programmes := rfl
@[simp] theorem State.queueLeave_waitingOrder (s : State) (p t : Nat) : (s.queueLeave p t).waitingOrder = s.waitingOrder := rfl
@[simp] theorem State.queueLeave_restrictions (s : State) (p t : Nat) : (s.queueLeave p t).restrictions = s.restrictions := rfl
@[simp] theorem State.queueLeave_stored (s : State) (p t : Nat) : (s.queueLeave p t).stored = s.stored := rfl
@[simp] theorem State.queueLeave_writes (s : State) (p t : Nat) : (s.queueLeave p t).writes = s.writes := rfl

/-! ### queueHead -/

@[simp] theorem State.queueHead_pending (s : State) (p t : Nat) : (s.queueHead p t).pending = s.pending := rfl
@[simp] theorem State.queueHead_now (s : State) (p t : Nat) : (s.queueHead p t).now = s.now := rfl
@[simp] theorem State.queueHead_supplyGood (s : State) (p t : Nat) : (s.queueHead p t).supplyGood = s.supplyGood := rfl
@[simp] theorem State.queueHead_lineAsserted (s : State) (p t : Nat) : (s.queueHead p t).lineAsserted = s.lineAsserted := rfl
@[simp] theorem State.queueHead_commandedDue (s : State) (p t : Nat) : (s.queueHead p t).commandedDue = s.commandedDue := rfl
@[simp] theorem State.queueHead_mode (s : State) (p t : Nat) : (s.queueHead p t).mode = s.mode := rfl
@[simp] theorem State.queueHead_restartTimer (s : State) (p t : Nat) : (s.queueHead p t).restartTimer = s.restartTimer := rfl
@[simp] theorem State.queueHead_gatheringTimer (s : State) (p t : Nat) : (s.queueHead p t).gatheringTimer = s.gatheringTimer := rfl
@[simp] theorem State.queueHead_freezeCarried (s : State) (p t : Nat) : (s.queueHead p t).freezeCarried = s.freezeCarried := rfl
@[simp] theorem State.queueHead_restartRecord (s : State) (p t : Nat) : (s.queueHead p t).restartRecord = s.restartRecord := rfl
@[simp] theorem State.queueHead_store (s : State) (p t : Nat) : (s.queueHead p t).store = s.store := rfl
@[simp] theorem State.queueHead_verified (s : State) (p t : Nat) : (s.queueHead p t).verified = s.verified := rfl
@[simp] theorem State.queueHead_written (s : State) (p t : Nat) : (s.queueHead p t).written = s.written := rfl
@[simp] theorem State.queueHead_force (s : State) (p t : Nat) : (s.queueHead p t).force = s.force := rfl
@[simp] theorem State.queueHead_validation (s : State) (p t : Nat) : (s.queueHead p t).validation = s.validation := rfl
@[simp] theorem State.queueHead_apps (s : State) (p t : Nat) : (s.queueHead p t).apps = s.apps := rfl
@[simp] theorem State.queueHead_nodes (s : State) (p t : Nat) : (s.queueHead p t).nodes = s.nodes := rfl
@[simp] theorem State.queueHead_substs (s : State) (p t : Nat) : (s.queueHead p t).substs = s.substs := rfl
@[simp] theorem State.queueHead_held (s : State) (p t : Nat) : (s.queueHead p t).held = s.held := rfl
@[simp] theorem State.queueHead_pass (s : State) (p t : Nat) : (s.queueHead p t).pass = s.pass := rfl
@[simp] theorem State.queueHead_spoils (s : State) (p t : Nat) : (s.queueHead p t).spoils = s.spoils := rfl
@[simp] theorem State.queueHead_publicationCount (s : State) (p t : Nat) : (s.queueHead p t).publicationCount = s.publicationCount := rfl
@[simp] theorem State.queueHead_published (s : State) (p t : Nat) : (s.queueHead p t).published = s.published := rfl
@[simp] theorem State.queueHead_evaluation (s : State) (p t : Nat) : (s.queueHead p t).evaluation = s.evaluation := rfl
@[simp] theorem State.queueHead_coupled (s : State) (p t : Nat) : (s.queueHead p t).coupled = s.coupled := rfl
@[simp] theorem State.queueHead_entries (s : State) (p t : Nat) : (s.queueHead p t).entries = s.entries := rfl
@[simp] theorem State.queueHead_ticketCounter (s : State) (p t : Nat) : (s.queueHead p t).ticketCounter = s.ticketCounter := rfl
@[simp] theorem State.queueHead_ended (s : State) (p t : Nat) : (s.queueHead p t).ended = s.ended := rfl
@[simp] theorem State.queueHead_programmes (s : State) (p t : Nat) : (s.queueHead p t).programmes = s.programmes := rfl
@[simp] theorem State.queueHead_waitingOrder (s : State) (p t : Nat) : (s.queueHead p t).waitingOrder = s.waitingOrder := rfl
@[simp] theorem State.queueHead_restrictions (s : State) (p t : Nat) : (s.queueHead p t).restrictions = s.restrictions := rfl
@[simp] theorem State.queueHead_stored (s : State) (p t : Nat) : (s.queueHead p t).stored = s.stored := rfl
@[simp] theorem State.queueHead_writes (s : State) (p t : Nat) : (s.queueHead p t).writes = s.writes := rfl

/-! ### changeTable -/

@[simp] theorem State.changeTable_pending (s : State) (c : TableChange) (q : Option Requester) : (s.changeTable c q).pending = s.pending := rfl
@[simp] theorem State.changeTable_now (s : State) (c : TableChange) (q : Option Requester) : (s.changeTable c q).now = s.now := rfl
@[simp] theorem State.changeTable_supplyGood (s : State) (c : TableChange) (q : Option Requester) : (s.changeTable c q).supplyGood = s.supplyGood := rfl
@[simp] theorem State.changeTable_lineAsserted (s : State) (c : TableChange) (q : Option Requester) : (s.changeTable c q).lineAsserted = s.lineAsserted := rfl
@[simp] theorem State.changeTable_commandedDue (s : State) (c : TableChange) (q : Option Requester) : (s.changeTable c q).commandedDue = s.commandedDue := rfl
@[simp] theorem State.changeTable_mode (s : State) (c : TableChange) (q : Option Requester) : (s.changeTable c q).mode = s.mode := rfl
@[simp] theorem State.changeTable_restartTimer (s : State) (c : TableChange) (q : Option Requester) : (s.changeTable c q).restartTimer = s.restartTimer := rfl
@[simp] theorem State.changeTable_gatheringTimer (s : State) (c : TableChange) (q : Option Requester) : (s.changeTable c q).gatheringTimer = s.gatheringTimer := rfl
@[simp] theorem State.changeTable_freezeCarried (s : State) (c : TableChange) (q : Option Requester) : (s.changeTable c q).freezeCarried = s.freezeCarried := rfl
@[simp] theorem State.changeTable_restartRecord (s : State) (c : TableChange) (q : Option Requester) : (s.changeTable c q).restartRecord = s.restartRecord := rfl
@[simp] theorem State.changeTable_store (s : State) (c : TableChange) (q : Option Requester) : (s.changeTable c q).store = s.store := rfl
@[simp] theorem State.changeTable_verified (s : State) (c : TableChange) (q : Option Requester) : (s.changeTable c q).verified = s.verified := rfl
@[simp] theorem State.changeTable_written (s : State) (c : TableChange) (q : Option Requester) : (s.changeTable c q).written = s.written := rfl
@[simp] theorem State.changeTable_force (s : State) (c : TableChange) (q : Option Requester) : (s.changeTable c q).force = s.force := rfl
@[simp] theorem State.changeTable_validation (s : State) (c : TableChange) (q : Option Requester) : (s.changeTable c q).validation = s.validation := rfl
@[simp] theorem State.changeTable_ports (s : State) (c : TableChange) (q : Option Requester) : (s.changeTable c q).ports = s.ports := rfl
@[simp] theorem State.changeTable_apps (s : State) (c : TableChange) (q : Option Requester) : (s.changeTable c q).apps = s.apps := rfl
@[simp] theorem State.changeTable_nodes (s : State) (c : TableChange) (q : Option Requester) : (s.changeTable c q).nodes = s.nodes := rfl
@[simp] theorem State.changeTable_substs (s : State) (c : TableChange) (q : Option Requester) : (s.changeTable c q).substs = s.substs := rfl
@[simp] theorem State.changeTable_held (s : State) (c : TableChange) (q : Option Requester) : (s.changeTable c q).held = s.held := rfl
@[simp] theorem State.changeTable_pass (s : State) (c : TableChange) (q : Option Requester) : (s.changeTable c q).pass = s.pass := rfl
@[simp] theorem State.changeTable_spoils (s : State) (c : TableChange) (q : Option Requester) : (s.changeTable c q).spoils = s.spoils := rfl
@[simp] theorem State.changeTable_publicationCount (s : State) (c : TableChange) (q : Option Requester) : (s.changeTable c q).publicationCount = s.publicationCount := rfl
@[simp] theorem State.changeTable_published (s : State) (c : TableChange) (q : Option Requester) : (s.changeTable c q).published = s.published := rfl
@[simp] theorem State.changeTable_evaluation (s : State) (c : TableChange) (q : Option Requester) : (s.changeTable c q).evaluation = s.evaluation := rfl
@[simp] theorem State.changeTable_coupled (s : State) (c : TableChange) (q : Option Requester) : (s.changeTable c q).coupled = s.coupled := rfl
@[simp] theorem State.changeTable_entries (s : State) (c : TableChange) (q : Option Requester) : (s.changeTable c q).entries = s.entries := rfl
@[simp] theorem State.changeTable_ticketCounter (s : State) (c : TableChange) (q : Option Requester) : (s.changeTable c q).ticketCounter = s.ticketCounter := rfl
@[simp] theorem State.changeTable_ended (s : State) (c : TableChange) (q : Option Requester) : (s.changeTable c q).ended = s.ended := rfl
@[simp] theorem State.changeTable_programmes (s : State) (c : TableChange) (q : Option Requester) : (s.changeTable c q).programmes = s.programmes := rfl
@[simp] theorem State.changeTable_waitingOrder (s : State) (c : TableChange) (q : Option Requester) : (s.changeTable c q).waitingOrder = s.waitingOrder := rfl
@[simp] theorem State.changeTable_stored (s : State) (c : TableChange) (q : Option Requester) : (s.changeTable c q).stored = s.stored := rfl

/-! ### unverify -/

@[simp] theorem State.unverify_pending (s : State) : (s.unverify).pending = s.pending := rfl
@[simp] theorem State.unverify_now (s : State) : (s.unverify).now = s.now := rfl
@[simp] theorem State.unverify_supplyGood (s : State) : (s.unverify).supplyGood = s.supplyGood := rfl
@[simp] theorem State.unverify_lineAsserted (s : State) : (s.unverify).lineAsserted = s.lineAsserted := rfl
@[simp] theorem State.unverify_commandedDue (s : State) : (s.unverify).commandedDue = s.commandedDue := rfl
@[simp] theorem State.unverify_mode (s : State) : (s.unverify).mode = s.mode := rfl
@[simp] theorem State.unverify_restartTimer (s : State) : (s.unverify).restartTimer = s.restartTimer := rfl
@[simp] theorem State.unverify_gatheringTimer (s : State) : (s.unverify).gatheringTimer = s.gatheringTimer := rfl
@[simp] theorem State.unverify_freezeCarried (s : State) : (s.unverify).freezeCarried = s.freezeCarried := rfl
@[simp] theorem State.unverify_restartRecord (s : State) : (s.unverify).restartRecord = s.restartRecord := rfl
@[simp] theorem State.unverify_store (s : State) : (s.unverify).store = s.store := rfl
@[simp] theorem State.unverify_written (s : State) : (s.unverify).written = s.written := rfl
@[simp] theorem State.unverify_force (s : State) : (s.unverify).force = s.force := rfl
@[simp] theorem State.unverify_ports (s : State) : (s.unverify).ports = s.ports := rfl
@[simp] theorem State.unverify_apps (s : State) : (s.unverify).apps = s.apps := rfl
@[simp] theorem State.unverify_nodes (s : State) : (s.unverify).nodes = s.nodes := rfl
@[simp] theorem State.unverify_substs (s : State) : (s.unverify).substs = s.substs := rfl
@[simp] theorem State.unverify_held (s : State) : (s.unverify).held = s.held := rfl
@[simp] theorem State.unverify_pass (s : State) : (s.unverify).pass = s.pass := rfl
@[simp] theorem State.unverify_spoils (s : State) : (s.unverify).spoils = s.spoils := rfl
@[simp] theorem State.unverify_publicationCount (s : State) : (s.unverify).publicationCount = s.publicationCount := rfl
@[simp] theorem State.unverify_published (s : State) : (s.unverify).published = s.published := rfl
@[simp] theorem State.unverify_evaluation (s : State) : (s.unverify).evaluation = s.evaluation := rfl
@[simp] theorem State.unverify_coupled (s : State) : (s.unverify).coupled = s.coupled := rfl
@[simp] theorem State.unverify_entries (s : State) : (s.unverify).entries = s.entries := rfl
@[simp] theorem State.unverify_ticketCounter (s : State) : (s.unverify).ticketCounter = s.ticketCounter := rfl
@[simp] theorem State.unverify_ended (s : State) : (s.unverify).ended = s.ended := rfl
@[simp] theorem State.unverify_programmes (s : State) : (s.unverify).programmes = s.programmes := rfl
@[simp] theorem State.unverify_waitingOrder (s : State) : (s.unverify).waitingOrder = s.waitingOrder := rfl
@[simp] theorem State.unverify_restrictions (s : State) : (s.unverify).restrictions = s.restrictions := rfl
@[simp] theorem State.unverify_stored (s : State) : (s.unverify).stored = s.stored := rfl
@[simp] theorem State.unverify_writes (s : State) : (s.unverify).writes = s.writes := rfl

end Sys2Proof.Machine
end

