-- ==== Sys2Proof/Laws/Ops.lean ====
section
/-! SUPPORT. What each named operation can do, said once: lookups after an update, notices, answers, the taking of a
frame, and the ordered insertions. -/

namespace Sys2Proof.Machine

/-! ### Lookups after an update -/

theorem State.port_modPort (s : State) (p : Nat) (f : Port → Port) (q : Nat) :
    (s.modPort p f).port q = if p = q ∧ q < s.ports.length then f (s.port q) else s.port q := by
  simp only [State.port, State.modPort, List.getD_eq_getElem?_getD, List.getElem?_modify]
  by_cases h : q < s.ports.length
  · by_cases e : p = q <;> simp [h, e]
  · simp [h]

theorem State.port_modPort_ne (s : State) (p : Nat) (f : Port → Port) (q : Nat) (h : p ≠ q) :
    (s.modPort p f).port q = s.port q := by simp [State.port_modPort, h]

@[simp] theorem State.modPort_length (s : State) (p : Nat) (f : Port → Port) :
    (s.modPort p f).ports.length = s.ports.length := by simp [State.modPort]

/-- Two updates of one port are one. -/
theorem State.modPort_modPort (s : State) (p : Nat) (f g : Port → Port) :
    (s.modPort p f).modPort p g = s.modPort p (fun q => g (f q)) := by
  simp only [State.modPort]
  congr 1
  apply List.ext_getElem?
  intro i
  simp only [List.getElem?_modify]
  cases s.ports[i]? <;> by_cases h : p = i <;> simp [h]

theorem State.modPort_congr (s : State) (p : Nat) (f g : Port → Port) (h : f (s.port p) = g (s.port p)) :
    s.modPort p f = s.modPort p g := by
  simp only [State.modPort]
  congr 1
  apply List.ext_getElem?
  intro i
  simp only [List.getElem?_modify]
  by_cases hi : p = i
  · subst hi
    cases hp : s.ports[p]? with
    | none => simp
    | some q => simp [State.port, hp] at h; simp [h]
  · simp [hi]

theorem find?_map_key {α : Type} (key : α → Nat) (a b : Nat) (f : α → α) (hf : ∀ r, key (f r) = key r) (l : List α) :
    (l.map (fun r => if key r = a then f r else r)).find? (fun r => key r == b) =
      (l.find? (fun r => key r == b)).map (fun r => if b = a then f r else r) := by
  induction l with
  | nil => rfl
  | cons x xs ih =>
    by_cases hx : key x = b
    · by_cases ha : key x = a
      · have : b = a := hx ▸ ha
        simp [hx, hf, this]
      · have : b ≠ a := fun e => ha (hx.trans e)
        simp [hx, this]
    · have : ¬ key (if key x = a then f x else x) = b := by split <;> simp [hf, hx]
      simp [hx, this, ih]

/-- The live record of apparatus `b` after an update of that of `a`. -/
theorem State.app_modApp (s : State) (a b : Nat) (f : AppLive → AppLive) (hf : ∀ r, (f r).number = r.number) :
    (s.modApp a f).app b = (s.app b).map (fun r => if b = a then f r else r) :=
  find?_map_key AppLive.number a b f hf s.apps

/-- The live record of node `m` after an update of that of `n`. -/
theorem State.node_modNode (s : State) (n m : Nat) (f : NodeLive → NodeLive) (hf : ∀ r, (f r).number = r.number) :
    (s.modNode n f).node m = (s.node m).map (fun r => if m = n then f r else r) :=
  find?_map_key NodeLive.number n m f hf s.nodes

/-- The entry of ticket `u` after an update of that of `t`. -/
theorem State.entry_modEntry (s : State) (t u : Nat) (f : Entry → Entry) (hf : ∀ e, (f e).ticket = e.ticket) :
    (s.modEntry t f).entry u = (s.entry u).map (fun e => if u = t then f e else e) :=
  find?_map_key Entry.ticket t u f hf s.entries

/-- The programme of ticket `u` after an update of that of `t`. -/
theorem State.programme_modProgramme (s : State) (t u : Nat) (f : Programme → Programme)
    (hf : ∀ p, (f p).ticket = p.ticket) :
    (s.modProgramme t f).programme u = (s.programme u).map (fun p => if u = t then f p else p) :=
  find?_map_key Programme.ticket t u f hf s.programmes

theorem State.entry_mem {s : State} {t : Nat} {e : Entry} (h : s.entry t = some e) : e ∈ s.entries ∧ e.ticket = t :=
  ⟨List.mem_of_find?_eq_some h, by simpa using List.find?_some h⟩

theorem State.programme_mem {s : State} {t : Nat} {p : Programme} (h : s.programme t = some p) :
    p ∈ s.programmes ∧ p.ticket = t :=
  ⟨List.mem_of_find?_eq_some h, by simpa using List.find?_some h⟩

theorem State.app_mem {s : State} {a : Nat} {r : AppLive} (h : s.app a = some r) : r ∈ s.apps ∧ r.number = a :=
  ⟨List.mem_of_find?_eq_some h, by simpa using List.find?_some h⟩

/-! ### Ordered insertion -/

theorem mem_insertBy {α : Type} (key : α → Nat) (x y : α) (l : List α) : y ∈ insertBy key x l ↔ y = x ∨ y ∈ l := by
  induction l with
  | nil => simp [insertBy]
  | cons z zs ih =>
    simp only [insertBy]
    split <;> simp [ih, or_left_comm]

@[simp] theorem length_insertBy {α : Type} (key : α → Nat) (x : α) (l : List α) :
    (insertBy key x l).length = l.length + 1 := by
  induction l with
  | nil => rfl
  | cons z zs ih => simp only [insertBy]; split <;> simp [ih]

/-- What `putBy` puts in: the record, and of the others those with another key. In a strictly ascending list nothing else
with that key can stand. -/
theorem mem_putBy {α : Type} (key : α → Nat) (x y : α) (l : List α) (hs : l.Pairwise (fun u v => key u < key v)) :
    y ∈ putBy key x l ↔ y = x ∨ (y ∈ l ∧ key y ≠ key x) := by
  induction l with
  | nil => simp [putBy]
  | cons z zs ih =>
    rw [List.pairwise_cons] at hs
    simp only [putBy]
    split
    · rename_i h
      have h2 : ∀ u ∈ z :: zs, key u ≠ key x := by
        intro u hu
        rcases List.mem_cons.1 hu with rfl | hu
        · omega
        · have := hs.1 u hu; omega
      constructor
      · rintro hy
        rcases List.mem_cons.1 hy with rfl | hy
        · exact .inl rfl
        · exact .inr ⟨hy, h2 y hy⟩
      · rintro (rfl | ⟨hy, _⟩)
        · simp
        · exact List.mem_cons_of_mem _ hy
    · split
      · rename_i h1 h2
        have h3 : ∀ u ∈ zs, key u ≠ key x := by intro u hu; have := hs.1 u hu; omega
        constructor
        · intro hy
          rcases List.mem_cons.1 hy with rfl | hy
          · exact .inl rfl
          · exact .inr ⟨List.mem_cons_of_mem _ hy, h3 y hy⟩
        · rintro (rfl | ⟨hy, hk⟩)
          · simp
          · rcases List.mem_cons.1 hy with rfl | hy
            · exact absurd h2.symm hk
            · exact List.mem_cons_of_mem _ hy
      · rename_i h1 h2
        simp only [List.mem_cons, ih hs.2]
        constructor
        · rintro (rfl | rfl | ⟨hy, hk⟩)
          · exact .inr ⟨.inl rfl, fun e => h2 e.symm⟩
          · exact .inl rfl
          · exact .inr ⟨.inr hy, hk⟩
        · rintro (rfl | ⟨rfl | hy, hk⟩)
          · exact .inr (.inl rfl)
          · exact .inl rfl
          · exact .inr (.inr ⟨hy, hk⟩)

/-- A strictly ascending list stays so. -/
theorem pairwise_putBy {α : Type} (key : α → Nat) (x : α) (l : List α) (hs : l.Pairwise (fun u v => key u < key v)) :
    (putBy key x l).Pairwise (fun u v => key u < key v) := by
  induction l with
  | nil => simp [putBy]
  | cons z zs ih =>
    have hz := hs
    rw [List.pairwise_cons] at hs
    simp only [putBy]
    split
    · rename_i h
      refine List.pairwise_cons.2 ⟨?_, hz⟩
      intro u hu
      rcases List.mem_cons.1 hu with rfl | hu
      · exact h
      · exact Nat.lt_trans h (hs.1 u hu)
    · split
      · rename_i h1 h2
        exact List.pairwise_cons.2 ⟨fun u hu => h2 ▸ hs.1 u hu, hs.2⟩
      · rename_i h1 h2
        refine List.pairwise_cons.2 ⟨?_, ih hs.2⟩
        intro u hu
        rcases (mem_putBy key x u zs hs.2).1 hu with rfl | ⟨hu, _⟩
        · omega
        · exact hs.1 u hu

/-- A strictly ascending list stays so when a record with a new key comes in. -/
theorem pairwise_insertBy {α : Type} (key : α → Nat) (x : α) (l : List α) (hs : l.Pairwise (fun u v => key u < key v))
    (hx : ∀ u ∈ l, key u ≠ key x) : (insertBy key x l).Pairwise (fun u v => key u < key v) := by
  induction l with
  | nil => simp [insertBy]
  | cons z zs ih =>
    have hz := hs
    rw [List.pairwise_cons] at hs
    simp only [insertBy]
    split
    · rename_i h
      refine List.pairwise_cons.2 ⟨?_, hz⟩
      intro u hu
      rcases List.mem_cons.1 hu with rfl | hu
      · exact h
      · exact Nat.lt_trans h (hs.1 u hu)
    · rename_i h
      refine List.pairwise_cons.2 ⟨?_, ih hs.2 (fun u hu => hx u (List.mem_cons_of_mem _ hu))⟩
      intro u hu
      rcases (mem_insertBy key x u zs).1 hu with rfl | hu
      · have := hx z (by simp); omega
      · exact hs.1 u hu

/-! ### Notices -/

/-- A notice changes one port's transmit list, or nothing. -/
theorem State.notify_eq (s : State) (p : Nat) (n : Notice) :
    s.notify p n = s ∨
    ((s.port p).state = .active ∧ noticeCount (s.port p).transmit < 32 ∧
      s.notify p n = s.modPort p (fun q => { q with transmit := q.transmit ++ [.notice n] })) := by
  unfold State.notify
  split
  · rename_i h; exact .inr ⟨h.1, h.2, rfl⟩
  · exact .inl rfl

/-- What a notice, a broadcast, an answer or a queue change leaves: only ports change. -/
def State.OnlyPorts (s t : State) : Prop := { t with ports := s.ports } = s

theorem State.OnlyPorts.refl (s : State) : s.OnlyPorts s := rfl

theorem State.OnlyPorts.trans {s t u : State} (h1 : s.OnlyPorts t) (h2 : t.OnlyPorts u) : s.OnlyPorts u := by
  unfold State.OnlyPorts at *
  have : { u with ports := s.ports } = ({ t with ports := s.ports } : State) := by rw [← h2]
  rw [this, h1]

theorem State.modPort_onlyPorts (s : State) (p : Nat) (f : Port → Port) : s.OnlyPorts (s.modPort p f) := rfl

theorem State.notify_onlyPorts (s : State) (p : Nat) (n : Notice) : s.OnlyPorts (s.notify p n) := by
  rcases s.notify_eq p n with h | ⟨_, _, h⟩ <;> rw [h]
  · rfl
  · rfl

theorem foldl_onlyPorts {α : Type} (g : State → α → State) (hg : ∀ (s : State) (x : α), s.OnlyPorts (g s x)) (l : List α) (s : State) :
    s.OnlyPorts (l.foldl g s) := by
  induction l generalizing s with
  | nil => rfl
  | cons x xs ih => exact (hg s x).trans (ih (g s x))

theorem State.broadcast_onlyPorts (s : State) (n : Notice) : s.OnlyPorts (s.broadcast n) := by
  apply foldl_onlyPorts
  intro t p
  split
  · exact t.notify_onlyPorts p n
  · rfl

theorem State.sendRevoke_onlyPorts (s : State) (e : Entry) : s.OnlyPorts (s.sendRevoke e) := by
  unfold State.sendRevoke
  split
  · exact s.notify_onlyPorts _ _
  · rfl

theorem State.answerRequester_onlyPorts (s : State) (r : Option Requester) (c : AnswerCode) (x : List Byte) :
    s.OnlyPorts (s.answerRequester r c x) := by
  unfold State.answerRequester
  split <;> rfl

/-- A change of mode changes the mode and the ports. -/
theorem State.changeMode_eq (s : State) (m : Mode) :
    { s.changeMode m with ports := s.ports } = { s with mode := m } := by
  have := State.broadcast_onlyPorts { s with mode := m } (.modeChanged s.mode m)
  exact this

/-! ### Only transmit lists grow -/

/-- Port by port, `t` differs from `s` only in what its transmit lists have gained at their tails. -/
def State.Gains (s t : State) : Prop :=
  s.ports.length = t.ports.length ∧
  ∀ p, ∃ l, t.port p = { s.port p with transmit := (s.port p).transmit ++ l }

theorem State.Gains.refl (s : State) : s.Gains s := ⟨rfl, fun p => ⟨[], by simp⟩⟩

theorem State.Gains.trans {s t u : State} (h1 : s.Gains t) (h2 : t.Gains u) : s.Gains u := by
  refine ⟨h1.1.trans h2.1, fun p => ?_⟩
  obtain ⟨l, hl⟩ := h1.2 p
  obtain ⟨m, hm⟩ := h2.2 p
  exact ⟨l ++ m, by rw [hm, hl]; simp⟩

theorem State.notify_gains (s : State) (p : Nat) (n : Notice) : s.Gains (s.notify p n) := by
  rcases s.notify_eq p n with h | ⟨_, _, h⟩ <;> rw [h]
  · exact State.Gains.refl s
  · refine ⟨by simp, fun q => ?_⟩
    rw [State.port_modPort]
    split
    · exact ⟨[.notice n], rfl⟩
    · exact ⟨[], by simp⟩

theorem foldl_gains {α : Type} (g : State → α → State) (hg : ∀ (s : State) (x : α), s.Gains (g s x)) (l : List α) (s : State) :
    s.Gains (l.foldl g s) := by
  induction l generalizing s with
  | nil => exact State.Gains.refl s
  | cons x xs ih => exact (hg s x).trans (ih (g s x))

theorem State.broadcast_gains (s : State) (n : Notice) : s.Gains (s.broadcast n) := by
  apply foldl_gains
  intro t p
  split
  · exact t.notify_gains p n
  · exact State.Gains.refl t

theorem State.sendRevoke_gains (s : State) (e : Entry) : s.Gains (s.sendRevoke e) := by
  unfold State.sendRevoke
  split
  · exact s.notify_gains _ _
  · exact State.Gains.refl s

/-- A notice reaches an ACTIVE port with a free notice place. -/
theorem State.notify_mem (s : State) (p : Nat) (n : Notice) (ha : (s.port p).state = .active)
    (hc : noticeCount (s.port p).transmit < 32) : Outgoing.notice n ∈ ((s.notify p n).port p).transmit := by
  have hp : p < s.ports.length := by
    by_contra h
    simp [State.port, List.getElem?_eq_none (Nat.le_of_not_lt h), Port.missing, Port.afterReset] at ha
  unfold State.notify
  rw [if_pos ⟨ha, hc⟩, State.port_modPort, if_pos ⟨rfl, hp⟩]
  simp

/-! ### Taking a frame -/

/-- The taking of a frame of port `p` that its command accepts: what the handler makes of the state with the request in
progress, and the answer before the notices of the event. -/
theorem State.takeFrame_taken (s : State) (p : Nat) (f : Frame) (accepts : Frame → Bool) (k : Byte → Byte)
    (h : Frame → State → State × Reply) (hf : s.takeable p = some f) (ha : accepts f = true) :
    s.takeFrame p accepts k h =
      (let r := h f (s.modPort p (fun q => { q with inProgress := some (Frame.started f) }))
       match r.2 with
       | .now c x => r.1.placeAnswer p (s.port p).transmit.length (.answer (k f.kind) f.tag c x)
       | .later => r.1) := by
  simp only [State.takeFrame, hf, ha, if_true]
  rfl

/-- A command that no frame of the port is for changes nothing (log 1). -/
theorem State.takeFrame_idle (s : State) (p : Nat) (accepts : Frame → Bool) (k : Byte → Byte)
    (h : Frame → State → State × Reply) (hn : ∀ f, s.takeable p = some f → accepts f = false) :
    s.takeFrame p accepts k h = s := by
  unfold State.takeFrame
  split
  · rfl
  · rename_i f hf; simp [hn f hf]

theorem State.takeable_eq_some {s : State} {p : Nat} {f : Frame} (h : s.takeable p = some f) :
    (s.port p).role ≠ .unused ∧ (s.port p).inProgress = none ∧ (s.port p).inbound.head? = some f := by
  unfold State.takeable at h
  split at h
  · cases h
  · rename_i hr
    split at h
    · cases h
    · rename_i hi; exact ⟨hr, hi, h⟩

/-- A port that offers a frame may take it. -/
theorem State.Offers.takeable {s : State} {p : Nat} {f : Frame} (h : s.Offers p f) : s.takeable p = some f := by
  simp [State.takeable, h.used, h.free, h.head]

/-- An answer at once to a request that changed only its own port's progress: the state the statements call answered. -/
theorem State.answered_eq (s : State) (p : Nat) (f : Frame) (c : AnswerCode) (x : List Byte) :
    (s.modPort p (fun q => { q with inProgress := some (Frame.started f) })).placeAnswer p (s.port p).transmit.length
      (Frame.answer f c x) = s.answered p f c x := by
  unfold State.placeAnswer State.answered
  rw [State.modPort_modPort]
  apply State.modPort_congr
  simp

/-- An answer at once to a request that changed other things and left its port's transmit list as it was. -/
theorem State.placeAnswer_end (s : State) (p n : Nat) (a : Outgoing) (h : (s.port p).transmit.length = n) :
    s.placeAnswer p n a = s.modPort p (fun q => { q with transmit := q.transmit ++ [a] }) := by
  unfold State.placeAnswer
  apply State.modPort_congr
  simp [← h]

end Sys2Proof.Machine
end

