-- ==== Sys2Proof/Laws/Cascade.lean ====
section
/-! SUPPORT. What an event's tasks can do: what no task changes, and the one induction over a run. -/

namespace Sys2Proof.Machine

/-- A state with everything that a task may change taken out of it: what is left, no task changes. -/
def State.outer (s : State) : State :=
  { s with
    mode := .service, ports := [], apps := [], evaluation := none, coupled := [], entries := [], ticketCounter := 0,
    ended := [], programmes := [], waitingOrder := [], restrictions := [], writes := [] }

/-- An apparatus record without what a task or the movement supervisor may change: ticket, last outcome, last operating
time and overflow mark. -/
def AppLive.outer (r : AppLive) : AppLive :=
  { r with ticket := none, lastOutcome := none, lastOperatingTime := none, overflow := false }

/-- A port without what a task may change: queue and transmit list. -/
def Port.outer (q : Port) : Port := { q with queue := [], transmit := [] }

/-- `t` comes from `s` by tasks: only what tasks change has changed, and transmit lists only grew at their tails. -/
structure State.Within (s t : State) : Prop where
  outer : t.outer = s.outer
  apps : t.apps.map AppLive.outer = s.apps.map AppLive.outer
  ports : t.ports.map Port.outer = s.ports.map Port.outer
  transmit : ∀ p, (s.port p).transmit <+: (t.port p).transmit
  mode : t.mode = s.mode ∨ (s.mode = .freezing ∧ t.mode = .frozen)

theorem State.Within.refl (s : State) : s.Within s := ⟨rfl, rfl, rfl, fun _ => List.prefix_rfl, .inl rfl⟩

theorem State.Within.trans {s t u : State} (h1 : s.Within t) (h2 : t.Within u) : s.Within u := by
  refine ⟨h2.outer.trans h1.outer, h2.apps.trans h1.apps, h2.ports.trans h1.ports,
    fun p => (h1.transmit p).trans (h2.transmit p), ?_⟩
  rcases h1.mode with a | ⟨a, b⟩ <;> rcases h2.mode with c | ⟨c, d⟩
  · exact .inl (c.trans a)
  · exact .inr ⟨a ▸ c, d⟩
  · exact .inr ⟨a, c.trans b⟩
  · rw [b] at c; cases c

/-! ### The updates that tasks are made of -/

theorem map_outer_mod (a : Nat) (f : AppLive → AppLive) (hf : ∀ r, (f r).outer = r.outer) (l : List AppLive) :
    (l.map (fun r => if r.number = a then f r else r)).map AppLive.outer = l.map AppLive.outer := by
  rw [List.map_map]
  apply List.map_congr_left
  intro r _
  simp only [Function.comp]
  split <;> simp [hf]

theorem State.modApp_within (s : State) (a : Nat) (f : AppLive → AppLive) (hf : ∀ r, (f r).outer = r.outer) :
    s.Within (s.modApp a f) :=
  ⟨rfl, map_outer_mod a f hf s.apps, rfl, fun _ => List.prefix_rfl, .inl rfl⟩

theorem map_modify_outer (p : Nat) (f : Port → Port) (hf : ∀ q, (f q).outer = q.outer) (l : List Port) :
    (l.modify p f).map Port.outer = l.map Port.outer := by
  apply List.ext_getElem?
  intro i
  simp only [List.getElem?_map, List.getElem?_modify]
  cases l[i]? with
  | none => rfl
  | some q => by_cases h : p = i <;> simp [h, hf]

theorem State.modPort_within (s : State) (p : Nat) (f : Port → Port) (hf : ∀ q, (f q).outer = q.outer)
    (ht : ∀ q, q.transmit <+: (f q).transmit) : s.Within (s.modPort p f) := by
  refine ⟨rfl, rfl, map_modify_outer p f hf s.ports, fun q => ?_, .inl rfl⟩
  rw [State.port_modPort]
  split
  · exact ht _
  · exact List.prefix_rfl

theorem State.notify_within (s : State) (p : Nat) (n : Notice) : s.Within (s.notify p n) := by
  rcases s.notify_eq p n with h | ⟨_, _, h⟩ <;> rw [h]
  · exact State.Within.refl s
  · exact s.modPort_within p _ (fun _ => rfl) (fun q => List.prefix_append _ _)

theorem foldl_within {α : Type} (g : State → α → State) (hg : ∀ (s : State) (x : α), s.Within (g s x)) (l : List α)
    (s : State) : s.Within (l.foldl g s) := by
  induction l generalizing s with
  | nil => exact State.Within.refl s
  | cons x xs ih => exact (hg s x).trans (ih (g s x))

theorem State.broadcast_within (s : State) (n : Notice) : s.Within (s.broadcast n) := by
  apply foldl_within
  intro t p
  split
  · exact t.notify_within p n
  · exact State.Within.refl t

theorem State.sendRevoke_within (s : State) (e : Entry) : s.Within (s.sendRevoke e) := by
  unfold State.sendRevoke
  split
  · exact s.notify_within _ _
  · exact State.Within.refl s

/-- Updates of what tasks own alone are within. -/
theorem State.within_of_eq {s t : State} (ho : t.outer = s.outer) (ha : t.apps = s.apps) (hp : t.ports = s.ports)
    (hm : t.mode = s.mode) : s.Within t :=
  ⟨ho, by rw [ha], by rw [hp], fun p => by simp [State.port, hp], .inl hm⟩

/-! ### The tasks -/

theorem State.judge_within (s : State) (a : Nat) (x y : Pos) : s.Within (s.judge a x y).1 := by
  unfold State.judge
  cases s.appDesc a with
  | none => exact State.Within.refl s
  | some d =>
    cases hu : isUnbidden d.kind x y with
    | true => simpa [hu] using s.broadcast_within (.unbidden a x y)
    | false =>
      cases ht : isTrip d.kind x y with
      | true => simpa [hu, ht] using s.modApp_within a (fun r => { r with lastOutcome := some .tripped }) (fun _ => rfl)
      | false => simpa [hu, ht] using State.Within.refl s

theorem State.dropCarry_within (s : State) (e : Entry) : s.Within (s.dropCarry e).1 := by
  unfold State.dropCarry
  split
  · exact State.Within.refl s
  · split
    · exact State.Within.refl s
    · split
      · exact State.within_of_eq rfl rfl rfl rfl
      · exact State.Within.refl s

theorem State.takeOut_within (s : State) (e : Entry) (o : MoveOutcome) : s.Within (s.takeOut e o) := by
  have h1 : s.Within (s.queueLeave e.owner e.ticket) :=
    s.modPort_within e.owner (fun q => { q with queue := q.queue.filter (· ≠ e.ticket) }) (fun _ => rfl)
      (fun _ => List.prefix_rfl)
  have h2 := (s.queueLeave e.owner e.ticket).modApp_within e.apparatus
    (fun r => { r with ticket := none, lastOutcome := some (.movement o) }) (fun _ => rfl)
  exact (h1.trans h2).trans (State.within_of_eq (t := s.takeOut e o) rfl rfl rfl rfl)

theorem State.retire_within (s : State) (t : Nat) (o : MoveOutcome) : s.Within (s.retire t o).1 := by
  unfold State.retire
  split
  · exact State.Within.refl s
  · rename_i e _
    refine State.Within.trans ?_ (State.notify_within _ _ _)
    refine State.Within.trans ?_ (State.takeOut_within _ _ _)
    split
    · exact State.Within.refl s
    · exact s.dropCarry_within e

theorem State.blockEnd_within (s : State) (t : Nat) : s.Within (s.blockEnd t).1 := by
  unfold State.blockEnd
  split
  · split
    · exact s.sendRevoke_within _
    · exact State.Within.refl s
  · exact State.Within.refl s

theorem State.placeInspect_within (s : State) (a : Nat) : s.Within (s.placeInspect a).1 := by
  unfold State.placeInspect
  split
  · exact State.within_of_eq rfl rfl rfl rfl
  · split
    · exact State.Within.refl s
    · split
      · split
        · exact State.within_of_eq rfl rfl rfl rfl
        · exact State.Within.refl s
      · exact s.modApp_within a _ (fun _ => rfl)

theorem State.enqueue_within (s : State) (t : Nat) : s.Within (s.enqueue t).1 := by
  unfold State.enqueue
  split
  · exact State.Within.refl s
  · split
    · exact State.Within.refl s
    · split <;> exact State.within_of_eq rfl rfl rfl rfl

theorem State.requeue_within (s : State) (t : Nat) : s.Within (s.requeue t).1 := by
  unfold State.requeue
  split
  · split
    · exact s.enqueue_within t
    · exact State.Within.refl s
  · exact State.Within.refl s

theorem State.endProgramme_within (s : State) (p : Programme) (r : Option StopReason) :
    s.Within (s.endProgramme p r).1 := by
  have h1 : s.Within { s with
      programmes := s.programmes.filter (fun q => q.ticket ≠ p.ticket)
      waitingOrder := s.waitingOrder.filter (· ≠ p.ticket) } := State.within_of_eq rfl rfl rfl rfl
  exact h1.trans (State.notify_within _ _ _)

theorem State.makeEntry_within (s : State) (owner a : Nat) (g : Target) (q : Option (Nat × Nat)) (c : Bool) :
    s.Within (s.makeEntry owner a g q c) := by
  unfold State.makeEntry
  have h1 : s.Within ((s.ticketIssued s.freeTicket).modApp a (fun r => { r with ticket := some s.freeTicket })) :=
    (State.within_of_eq (s := s) (t := s.ticketIssued s.freeTicket) rfl rfl rfl rfl).trans
      (State.modApp_within _ a (fun r => { r with ticket := some s.freeTicket }) (fun _ => rfl))
  split
  · exact h1.trans (State.within_of_eq rfl rfl rfl rfl)
  · refine (h1.trans (State.modPort_within _ owner (fun q => { q with queue := q.queue ++ [s.freeTicket] })
      (fun _ => rfl) (fun _ => List.prefix_rfl))).trans (State.within_of_eq rfl rfl rfl rfl)

theorem State.makeStep_within (s : State) (p : Programme) (st : Step) : s.Within (s.makeStep p st).1 := by
  unfold State.makeStep
  have h := s.makeEntry_within p.owner st.apparatus st.target (some (p.ticket, p.current)) st.coupled
  have h2 := h.trans (State.within_of_eq (s := s.makeEntry p.owner st.apparatus st.target (some (p.ticket, p.current)) st.coupled)
    (t := { (s.makeEntry p.owner st.apparatus st.target (some (p.ticket, p.current)) st.coupled).modProgramme p.ticket (fun q =>
      { q with movement := some s.freeTicket, waiting := none,
               state := if q.state = .stopping then .stopping else .running }) with
      waitingOrder := (s.makeEntry p.owner st.apparatus st.target (some (p.ticket, p.current)) st.coupled).waitingOrder.filter
        (· ≠ p.ticket) }) rfl rfl rfl rfl)
  simp only
  split
  · exact h2
  · split <;> exact h2

theorem State.enterWaiting_within (s : State) (p : Programme) : s.Within (s.enterWaiting p).1 := by
  unfold State.enterWaiting
  split
  · exact State.Within.refl s
  · split
    · exact s.endProgramme_within _ _
    · exact State.within_of_eq rfl rfl rfl rfl

theorem State.startStep_within (s : State) (t : Nat) : s.Within (s.startStep t).1 := by
  unfold State.startStep
  split
  · exact State.Within.refl s
  · split
    · exact State.Within.refl s
    · split
      · exact s.endProgramme_within _ _
      · split
        · exact s.enterWaiting_within _
        · exact s.makeStep_within _ _

theorem State.startCoupled_within (s : State) (t : Nat) : s.Within (s.startCoupled t).1 := by
  unfold State.startCoupled
  split
  · exact State.Within.refl s
  · split
    · exact State.Within.refl s
    · split
      · exact s.endProgramme_within _ _
      · split
        · exact s.endProgramme_within _ _
        · split
          · exact s.endProgramme_within _ _
          · exact s.makeStep_within _ _

theorem State.inform_within (s : State) (p t : Nat) (o : MoveOutcome) (r : Reservation) :
    s.Within (s.inform p t o r).1 := by
  unfold State.inform
  split
  · exact State.Within.refl s
  · split
    · exact State.Within.refl s
    · split
      · exact State.within_of_eq rfl rfl rfl rfl
      · split
        · exact s.endProgramme_within _ _
        · split
          · split
            · exact s.endProgramme_within _ _
            · exact State.within_of_eq rfl rfl rfl rfl
          · exact s.endProgramme_within _ _

theorem State.retry_fst (s : State) (t : Nat) : (s.retry t).1 = s := by
  unfold State.retry
  split
  · split <;> rfl
  · rfl

theorem State.stopProgramme_within (s : State) (t : Nat) (r : StopReason) : s.Within (s.stopProgramme t r).1 := by
  unfold State.stopProgramme
  split
  · exact s.endProgramme_within _ _
  · exact State.Within.refl s

/-- The mode becomes FROZEN only from FREEZING. -/
theorem State.testFrozen_within (s : State) : s.Within s.testFrozen := by
  unfold State.testFrozen
  split
  · rename_i h
    have w := State.broadcast_within { s with mode := .frozen } (.modeChanged s.mode .frozen)
    refine ⟨w.outer, w.apps, w.ports, w.transmit, .inr ⟨h.1, ?_⟩⟩
    rcases w.mode with m | ⟨m, _⟩
    · exact m
    · cases m
  · exact State.Within.refl s

/-- What one task can do. -/
theorem State.runTask_within (s : State) (t : Task) : s.Within (s.runTask t).1 := by
  cases t with
  | retire t o => exact s.retire_within t o
  | judge a x y => exact s.judge_within a x y
  | inspect a => exact s.placeInspect_within a
  | blockEnd t => exact s.blockEnd_within t
  | inform p t o r => exact s.inform_within p t o r
  | stop p r => exact s.stopProgramme_within p r
  | start p => exact s.startStep_within p
  | startCoupled p => exact s.startCoupled_within p
  | enqueue t => exact s.enqueue_within t
  | reoffer => exact State.within_of_eq rfl rfl rfl rfl
  | requeue t => exact s.requeue_within t
  | retry p => simp only [State.runTask, s.retry_fst]; exact State.Within.refl s
  | testFrozen => exact s.testFrozen_within

/-! ### A run -/

/-- The one induction: what every task keeps, a run keeps. -/
theorem runTasks_keeps (P : State → Prop) (h : ∀ (s : State) (t : Task), P s → P (s.runTask t).1) (n : Nat)
    (ts : List Task) (s : State) (hs : P s) : P (runTasks n ts s) := by
  induction n generalizing ts s with
  | zero => exact hs
  | succ n ih =>
    cases ts with
    | nil => exact hs
    | cons t ts => exact ih _ _ (h s t hs)

theorem State.run_keeps (P : State → Prop) (h : ∀ (s : State) (t : Task), P s → P (s.runTask t).1) (s : State)
    (ts : List Task) (hs : P s) : P (s.run ts) := runTasks_keeps P h _ _ _ hs

/-- A run of no tasks. -/
@[simp] theorem State.run_nil (s : State) : s.run [] = s := by
  unfold State.run
  cases taskBound s [] <;> rfl

/-- What a run can do. -/
theorem State.run_within (s : State) (ts : List Task) : s.Within (s.run ts) :=
  s.run_keeps s.Within (fun t x h => h.trans (t.runTask_within x)) ts (State.Within.refl s)

end Sys2Proof.Machine
end

