-- ==== Sys2Proof/Laws/Evaluator.lean ====
section
/-! SUPPORT. What the evaluator and the movement supervisor can do: no more than tasks can. -/

namespace Sys2Proof.Machine

/-- An update of one entry is within. -/
theorem State.modEntry_within (s : State) (t : Nat) (f : Entry → Entry) : s.Within (s.modEntry t f) :=
  State.within_of_eq rfl rfl rfl rfl

theorem State.queueLeave_within (s : State) (p t : Nat) : s.Within (s.queueLeave p t) :=
  s.modPort_within p (fun q => { q with queue := q.queue.filter (· ≠ t) }) (fun _ => rfl) (fun _ => List.prefix_rfl)

theorem State.queueHead_within (s : State) (p t : Nat) : s.Within (s.queueHead p t) :=
  s.modPort_within p (fun q => { q with queue := t :: q.queue.filter (· ≠ t) }) (fun _ => rfl)
    (fun _ => List.prefix_rfl)

/-! ### The end of an evaluation -/

theorem State.release_within (s : State) (e : Entry) (reach : List Nat) : s.Within (s.release e reach) := by
  unfold State.release
  cases s.appDesc e.apparatus with
  | none => exact State.Within.refl s
  | some d =>
    exact ((((s.dropCarry_within e).trans (State.modEntry_within _ _ _)).trans (State.queueLeave_within _ _ _)).trans
      (State.notify_within _ _ _)).trans (State.run_within _ _)

theorem State.defer_within (s : State) (e : Entry) (c : DeferralCause) (r : Bool) : s.Within (s.defer e c r) := by
  unfold State.defer
  split
  · exact s.run_within _
  · simp only
    split
    · exact (State.modEntry_within _ _ _).trans (State.run_within _ _)
    · exact State.modEntry_within _ _ _

theorem State.endDeferred_within (s : State) (e : Entry) (v : Evaluation) (c : DeferralCause) :
    s.Within (s.endDeferred e v c) := by
  unfold State.endDeferred
  split
  · exact s.run_within _
  · split
    · exact s.run_within _
    · exact s.defer_within e c _

theorem State.endVoided_within (s : State) (e : Entry) (v : Evaluation) : s.Within (s.endVoided e v) := by
  unfold State.endVoided
  refine State.Within.trans (s.modEntry_within e.ticket (fun x => { x with voidCount := min 3 (e.voidCount + 1) })) ?_
  simp only
  split
  · exact State.run_within _ _
  · split
    · exact State.run_within _ _
    · split
      · split
        · exact State.run_within _ _
        · exact (State.queueHead_within _ _ _).trans (State.run_within _ _)
      · exact State.defer_within _ _ _ _

theorem State.endPermitted_within (s : State) (e : Entry) (v : Evaluation) (reach : List Nat) :
    s.Within (s.endPermitted e v reach) := by
  unfold State.endPermitted
  split
  · split
    · exact s.run_within _
    · exact s.modEntry_within _ _
  · exact s.release_within e reach

theorem State.endRefused_within (s : State) (e : Entry) (r : Reason) : s.Within (s.endRefused e r) := by
  unfold State.endRefused
  split <;> exact s.run_within _

theorem State.endEvaluation_within (s : State) (v : Verdict) : s.Within (s.endEvaluation v) := by
  unfold State.endEvaluation
  cases s.evaluation with
  | none => exact State.Within.refl s
  | some w =>
    have h : s.Within { s with evaluation := none } := State.within_of_eq rfl rfl rfl rfl
    refine h.trans ?_
    show State.Within { s with evaluation := none } _
    simp only
    split
    · exact State.Within.refl _
    · split
      · exact State.run_within _ _
      · cases v with
        | permit r => exact State.endPermitted_within _ _ _ _
        | defer c => exact State.endDeferred_within _ _ _ _
        | refuse r => exact State.endRefused_within _ _ _
        | void => exact State.endVoided_within _ _ _

/-! ### The grant and the steps of an evaluation -/

theorem State.grant_within (s : State) : s.Within s.grant := by
  unfold State.grant
  split
  · exact State.Within.refl s
  · split
    · exact State.Within.refl s
    · split
      · exact State.Within.refl s
      · exact State.within_of_eq rfl rfl rfl rfl

theorem State.takeResult_within (s : State) (v : Evaluation) (r : StepResult) : s.Within (s.takeResult v r) := by
  cases r with
  | stage st => exact State.within_of_eq rfl rfl rfl rfl
  | refuse e => exact s.endEvaluation_within (.refuse e)

theorem State.predicateCheck_within (s : State) : s.Within s.predicateCheck := by
  unfold State.predicateCheck
  split
  · split
    · exact s.takeResult_within _ _
    · exact State.Within.refl s
  · exact State.Within.refl s

theorem State.bypassSearch_within (s : State) : s.Within s.bypassSearch := by
  unfold State.bypassSearch
  split
  · split
    · exact s.takeResult_within _ _
    · exact State.Within.refl s
  · exact State.Within.refl s

theorem State.stubSearch_within (s : State) : s.Within s.stubSearch := by
  unfold State.stubSearch
  split
  · split
    · exact s.takeResult_within _ _
    · exact State.Within.refl s
  · exact State.Within.refl s

theorem State.closing_within (s : State) : s.Within s.closing := by
  unfold State.closing
  split
  · split
    · exact s.endEvaluation_within _
    · exact State.Within.refl s
  · exact State.Within.refl s

theorem State.evaluatorSees_within (s : State) (i : RecordId) : s.Within (s.evaluatorSees i) := by
  unfold State.evaluatorSees
  split
  · exact State.Within.refl s
  · split
    · exact State.Within.refl s
    · split
      · exact s.endEvaluation_within _
      · exact State.Within.refl s

/-! ### The movement supervisor -/

theorem State.travel_within (s : State) (e : Entry) : s.Within (s.travel e) := by
  unfold State.travel
  split
  · exact State.Within.refl s
  · exact s.modEntry_within _ _

theorem State.settle_within (s : State) (e : Entry) : s.Within (s.settle e) :=
  (s.modEntry_within e.ticket (fun x =>
    { x with state := .settling, flavour := none, deadline := none, operatingTime := some (operatingTime s.now e) })).trans
    (State.modApp_within _ e.apparatus (fun r => { r with lastOperatingTime := some (operatingTime s.now e) })
      (fun _ => rfl))

theorem State.faulted_within (s : State) (e : Entry) : s.Within (s.faulted e) := s.run_within _

theorem State.supervise_within (s : State) (e : Entry) (src : Source) (after : Pos) :
    s.Within (s.supervise e src after) := by
  unfold State.supervise
  split
  · split_ifs
    · exact s.travel_within e
    · exact s.settle_within e
    · exact s.faulted_within e
    · exact s.faulted_within e
    · exact State.Within.refl s
  · split_ifs
    · exact s.travel_within e
    · exact s.settle_within e
    · exact s.faulted_within e
    · exact s.faulted_within e
    · exact State.Within.refl s
  · split_ifs
    · exact s.settle_within e
    · exact s.run_within _
    · exact s.faulted_within e
    · exact s.faulted_within e
    · exact State.Within.refl s
  · exact State.Within.refl s

theorem State.freezeReturn_within (s : State) (e : Entry) : s.Within (s.freezeReturn e) := by
  unfold State.freezeReturn
  refine State.Within.trans (s.modEntry_within e.ticket Entry.returned) ?_
  simp only
  split
  · exact State.run_within _ _
  · split
    · exact State.run_within _ _
    · exact (State.queueHead_within _ _ _).trans (State.run_within _ _)

theorem State.loseEntry_within (s : State) (p : Nat) (e : Entry) : s.Within (s.loseEntry p e) := by
  unfold State.loseEntry
  refine State.Within.trans ?_ (State.run_within _ _)
  split
  · exact s.sendRevoke_within e
  · exact State.Within.refl s

theorem State.loseOwner_within (s : State) (p : Nat) : s.Within (s.loseOwner p) :=
  (foldl_within (fun acc e => acc.loseEntry p e) (fun t e => t.loseEntry_within p e) _ s).trans (State.run_within _ _)

/-! ### What a state within keeps, field by field -/

namespace State.Within

variable {s t : State}

theorem pending (h : s.Within t) : t.pending = s.pending := by
  have e := congrArg State.pending h.outer; exact e
theorem now (h : s.Within t) : t.now = s.now := by
  have e := congrArg State.now h.outer; exact e
theorem supplyGood (h : s.Within t) : t.supplyGood = s.supplyGood := by
  have e := congrArg State.supplyGood h.outer; exact e
theorem lineAsserted (h : s.Within t) : t.lineAsserted = s.lineAsserted := by
  have e := congrArg State.lineAsserted h.outer; exact e
theorem commandedDue (h : s.Within t) : t.commandedDue = s.commandedDue := by
  have e := congrArg State.commandedDue h.outer; exact e
theorem restartTimer (h : s.Within t) : t.restartTimer = s.restartTimer := by
  have e := congrArg State.restartTimer h.outer; exact e
theorem gatheringTimer (h : s.Within t) : t.gatheringTimer = s.gatheringTimer := by
  have e := congrArg State.gatheringTimer h.outer; exact e
theorem freezeCarried (h : s.Within t) : t.freezeCarried = s.freezeCarried := by
  have e := congrArg State.freezeCarried h.outer; exact e
theorem restartRecord (h : s.Within t) : t.restartRecord = s.restartRecord := by
  have e := congrArg State.restartRecord h.outer; exact e
theorem store (h : s.Within t) : t.store = s.store := by
  have e := congrArg State.store h.outer; exact e
theorem verified (h : s.Within t) : t.verified = s.verified := by
  have e := congrArg State.verified h.outer; exact e
theorem written (h : s.Within t) : t.written = s.written := by
  have e := congrArg State.written h.outer; exact e
theorem force (h : s.Within t) : t.force = s.force := by
  have e := congrArg State.force h.outer; exact e
theorem validation (h : s.Within t) : t.validation = s.validation := by
  have e := congrArg State.validation h.outer; exact e
theorem nodes (h : s.Within t) : t.nodes = s.nodes := by
  have e := congrArg State.nodes h.outer; exact e
theorem substs (h : s.Within t) : t.substs = s.substs := by
  have e := congrArg State.substs h.outer; exact e
theorem held (h : s.Within t) : t.held = s.held := by
  have e := congrArg State.held h.outer; exact e
theorem pass (h : s.Within t) : t.pass = s.pass := by
  have e := congrArg State.pass h.outer; exact e
theorem spoils (h : s.Within t) : t.spoils = s.spoils := by
  have e := congrArg State.spoils h.outer; exact e
theorem publicationCount (h : s.Within t) : t.publicationCount = s.publicationCount := by
  have e := congrArg State.publicationCount h.outer; exact e
theorem published (h : s.Within t) : t.published = s.published := by
  have e := congrArg State.published h.outer; exact e
theorem stored (h : s.Within t) : t.stored = s.stored := by
  have e := congrArg State.stored h.outer; exact e

/-- A port's own fields are kept. -/
theorem port (h : s.Within t) (p : Nat) : (t.port p).outer = (s.port p).outer := by
  have := congrArg (fun l => l[p]?) h.ports
  simp only [List.getElem?_map] at this
  simp only [State.port, List.getD_eq_getElem?_getD]
  cases hs : s.ports[p]? <;> cases ht : t.ports[p]? <;> simp_all

/-- An apparatus record's inputs and flags are kept. -/
theorem app (h : s.Within t) (a : Nat) : (t.app a).map AppLive.outer = (s.app a).map AppLive.outer := by
  have key : ∀ l : List AppLive, (l.find? (fun r => r.number == a)).map AppLive.outer =
      (l.map AppLive.outer).find? (fun r => r.number == a) := by
    intro l
    rw [List.find?_map]
    rfl
  simp only [State.app]
  rw [key, key, h.apps]

end State.Within

end Sys2Proof.Machine
end

