-- ==== Sys2Proof/Laws/Image.lean ====
section
/-! SUPPORT. What an image change can do: records, the held change queue, the substitution table and the running pass,
and beyond them no more than tasks can. -/

namespace Sys2Proof.Machine

/-- A state without what an image change may change: what is left, no image change changes. -/
def State.shell (s : State) : State :=
  { s.outer with nodes := [], substs := [], held := [], pass := none, spoils := 0 }

/-- `t` comes from `s` by image changes. -/
structure State.Around (s t : State) : Prop where
  shell : t.shell = s.shell
  ports : t.ports.map Port.outer = s.ports.map Port.outer
  transmit : ∀ p, (s.port p).transmit <+: (t.port p).transmit
  mode : t.mode = s.mode ∨ (s.mode = .freezing ∧ t.mode = .frozen)

theorem State.Within.around {s t : State} (h : s.Within t) : s.Around t := by
  refine ⟨?_, h.ports, h.transmit, h.mode⟩
  unfold State.shell
  rw [h.outer]

theorem State.Around.refl (s : State) : s.Around s := (State.Within.refl s).around

theorem State.Around.trans {s t u : State} (h1 : s.Around t) (h2 : t.Around u) : s.Around u := by
  refine ⟨h2.shell.trans h1.shell, h2.ports.trans h1.ports, fun p => (h1.transmit p).trans (h2.transmit p), ?_⟩
  rcases h1.mode with a | ⟨a, b⟩ <;> rcases h2.mode with c | ⟨c, d⟩
  · exact .inl (c.trans a)
  · exact .inr ⟨a ▸ c, d⟩
  · exact .inr ⟨a, c.trans b⟩
  · rw [b] at c; cases c

/-- Updates that leave the shell, the ports and the mode are around. -/
theorem State.around_of_eq {s t : State} (ho : t.shell = s.shell) (hp : t.ports = s.ports) (hm : t.mode = s.mode) :
    s.Around t := ⟨ho, by rw [hp], fun p => by simp [State.port, hp], .inl hm⟩

theorem foldl_around {α : Type} (g : State → α → State) (hg : ∀ (s : State) (x : α), s.Around (g s x)) (l : List α)
    (s : State) : s.Around (l.foldl g s) := by
  induction l generalizing s with
  | nil => exact State.Around.refl s
  | cons x xs ih => exact (hg s x).trans (ih (g s x))

theorem State.modApp_around (s : State) (a : Nat) (f : AppLive → AppLive) : s.Around (s.modApp a f) :=
  State.around_of_eq rfl rfl rfl

theorem State.modNode_around (s : State) (n : Nat) (f : NodeLive → NodeLive) : s.Around (s.modNode n f) :=
  State.around_of_eq rfl rfl rfl

theorem State.modHeld_around (s : State) (i : RecordId) (f : HeldCopy → HeldCopy) : s.Around (s.modHeld i f) :=
  State.around_of_eq rfl rfl rfl

theorem State.setMarker_around (s : State) (i : RecordId) : s.Around (s.setMarker i) := by
  cases i <;> exact State.around_of_eq rfl rfl rfl

theorem State.topologySees_around (s : State) (wake : Bool) (i : RecordId) : s.Around (s.topologySees wake i) := by
  unfold State.topologySees
  split
  · split <;> exact State.around_of_eq rfl rfl rfl
  · split
    · split <;> exact State.around_of_eq rfl rfl rfl
    · exact State.Around.refl s

theorem State.appChanged_around (s : State) (wake : Bool) (src : Source) (a : Nat) (x y : Pos) :
    s.Around (s.appChanged wake src a x y) := by
  unfold State.appChanged
  have h : s.Around (((s.setMarker (.apparatus a)).topologySees wake (.apparatus a)).evaluatorSees (.apparatus a)) :=
    ((s.setMarker_around _).trans (State.topologySees_around _ _ _)).trans (State.evaluatorSees_within _ _).around
  simp only
  cases s.entryOf a with
  | none =>
    split
    · exact h.trans (State.run_within _ _).around
    · exact h
  | some e =>
    split
    · exact (h.trans (State.supervise_within _ _ _ _).around).trans (State.run_within _ _).around
    · exact h.trans (State.supervise_within _ _ _ _).around

theorem State.nodeChanged_around (s : State) (wake : Bool) (n : Nat) : s.Around (s.nodeChanged wake n) :=
  ((s.setMarker_around _).trans (State.topologySees_around _ _ _)).trans (State.evaluatorSees_within _ _).around

theorem State.setAppInputs_around (s : State) (wake : Bool) (src : Source) (d : AppDesc) (r : Pos) (x : Option Target) :
    s.Around (s.setAppInputs wake src d r x) := by
  unfold State.setAppInputs
  split
  · exact State.Around.refl s
  · simp only
    split
    · exact State.modApp_around _ _ _
    · exact (State.modApp_around _ _ _).trans (State.appChanged_around _ _ _ _ _ _)

theorem State.setNodeInputs_around (s : State) (wake : Bool) (n : Nat) (c : Cls) (x : Option Cand) :
    s.Around (s.setNodeInputs wake n c x) := by
  unfold State.setNodeInputs
  split
  · exact State.Around.refl s
  · simp only
    split
    · exact State.modNode_around _ _ _
    · exact (State.modNode_around _ _ _).trans (State.nodeChanged_around _ _ _)

theorem State.makeHeld_around (s : State) (i : RecordId) (c : HeldCopy) : s.Around (s.makeHeld i c) :=
  ((State.around_of_eq (s := s) (t := { s with held := s.held ++ [{ target := i, copy := c }] }) rfl rfl rfl).trans
    (State.setMarker_around _ i)).trans (State.evaluatorSees_within _ _).around

theorem State.setSubst_around (s : State) (i : RecordId) (x : Option (SubstValue × Nat)) : s.Around (s.setSubst i x) := by
  unfold State.setSubst
  split
  · exact State.around_of_eq rfl rfl rfl
  · split <;> exact State.around_of_eq rfl rfl rfl

theorem State.setAppSubst_around (s : State) (a : Nat) (x : Option (Option Target × Nat)) :
    s.Around (s.setAppSubst a x) := by
  unfold State.setAppSubst
  split
  · exact State.setSubst_around _ _ _
  · exact State.Around.refl s

theorem State.setNodeSubst_around (s : State) (n : Nat) (x : Option Cand) (p : Nat) : s.Around (s.setNodeSubst n x p) :=
  State.setSubst_around _ _ _

theorem State.changeApp_around (s : State) (src : Source) (d : AppDesc) (r : Option Pos)
    (x : Option (Option Target × Nat)) (t : State) (h : s.changeApp src d r x = .applied t) : s.Around t := by
  cases x <;>
  · simp only [State.changeApp] at h
    split at h
    · cases h; exact State.Around.refl s
    · split at h
      · split at h
        · cases h; exact State.modHeld_around _ _ _
        · split at h
          · cases h; exact (State.setAppSubst_around _ _ _).trans (State.setAppInputs_around _ _ _ _ _ _)
          · split at h
            · cases h
            · cases h; exact State.makeHeld_around _ _ _
      · cases h; exact (State.setAppSubst_around _ _ _).trans (State.setAppInputs_around _ _ _ _ _ _)

theorem State.changeNodeSubst_around (s : State) (n : Nat) (x : Option Cand) (p : Nat) (t : State)
    (h : s.changeNodeSubst n x p = .applied t) : s.Around t := by
  unfold State.changeNodeSubst at h
  simp only at h
  split at h
  · cases h; exact State.Around.refl s
  · split at h
    · split at h
      · cases h; exact State.modHeld_around _ _ _
      · split at h
        · cases h; exact (State.setNodeSubst_around _ _ _ _).trans (State.setNodeInputs_around _ _ _ _ _)
        · split at h
          · cases h
          · cases h; exact State.makeHeld_around _ _ _
    · cases h; exact (State.setNodeSubst_around _ _ _ _).trans (State.setNodeInputs_around _ _ _ _ _)

theorem State.applyBlocking_around (s : State) (d : AppDesc) (f : Flags4) : s.Around (s.applyBlocking d f) := by
  unfold State.applyBlocking
  split
  · exact State.Around.refl s
  · simp only
    split
    · exact (State.modApp_around _ _ _).trans (State.run_within _ _).around
    · exact State.modApp_around _ _ _

theorem State.applyAppItem_around (s : State) (p a : Nat) (x : Pos) (f : Flags4) :
    s.Around (s.applyAppItem p a x f).1 := by
  unfold State.applyAppItem
  split
  · exact State.Around.refl s
  · split
    · exact State.Around.refl s
    · split
      · exact State.Around.refl s
      · rename_i t h
        exact (State.changeApp_around _ _ _ _ _ _ h).trans (State.applyBlocking_around _ _ _)

theorem State.applyPresence_around (s : State) (p n v : Nat) : s.Around (s.applyPresence p n v).1 := by
  unfold State.applyPresence
  split
  · simp only
    split
    · exact State.Around.refl s
    · split
      · split
        · dsimp only
          exact (State.modNode_around _ _ _).trans (State.modHeld_around _ _ _)
        · split
          · exact (State.modNode_around _ _ _).trans (State.setNodeInputs_around _ _ _ _ _)
          · split
            · exact State.Around.refl s
            · exact (State.modNode_around _ _ _).trans (State.makeHeld_around _ _ _)
      · exact (State.modNode_around _ _ _).trans (State.setNodeInputs_around _ _ _ _ _)
  · exact State.Around.refl s

/-- A report changes the image alone, and what follows from the image. -/
theorem State.applyItems_around (p : Nat) (items : List ReportItem) (s : State) (i : Nat) (r : ReportResult) :
    s.Around (s.applyItems p items i r).1 := by
  induction items generalizing s i r with
  | nil => exact State.Around.refl s
  | cons x xs ih =>
    have h : s.Around (s.applyItem p x).1 := by
      cases x with
      | apparatus a y f => exact s.applyAppItem_around p a y f
      | presence n v => exact s.applyPresence_around p n v
    simp only [State.applyItems]
    split
    · exact h.trans (ih _ _ _)
    · exact h.trans (ih _ _ _)

theorem State.changeSubst_around (s : State) (i : RecordId) (v : Option SubstValue) (p : Nat) (t : State)
    (h : s.changeSubst i v p = .applied t) : s.Around t := by
  unfold State.changeSubst at h
  cases i with
  | apparatus a =>
    cases hd : s.appDesc a with
    | none => simp only [hd] at h; cases h; exact State.Around.refl s
    | some d => simp only [hd] at h; exact State.changeApp_around _ _ _ _ _ _ h
  | node n => exact State.changeNodeSubst_around _ _ _ _ _ h

theorem State.loseApp_around (s : State) (d : AppDesc) : s.Around (s.loseApp d) := by
  unfold State.loseApp
  have h := s.modHeld_around (.apparatus d.number) HeldCopy.lost
  simp only
  split
  · exact h.trans (State.setAppInputs_around _ _ _ _ _ _)
  · exact h

theorem State.loseNode_around (s : State) (n : Nat) : s.Around (s.loseNode n) := by
  unfold State.loseNode
  have h := (s.modHeld_around (.node n) HeldCopy.lost).trans
    (State.modNode_around _ n (fun x => { x with counter := 0, lastCandidate := none }))
  simp only
  split
  · exact h.trans (State.setNodeInputs_around _ _ _ _ _)
  · exact h

theorem State.loseImage_around (s : State) (p : Nat) : s.Around (s.loseImage p) := by
  unfold State.loseImage
  exact (foldl_around _ State.loseApp_around _ s).trans
    (foldl_around (fun (acc : State) (d : NodeDesc) => acc.loseNode d.number) (fun t d => t.loseNode_around d.number) _ _)

theorem State.applyHeld_around (s : State) (h : HeldEntry) : s.Around (s.applyHeld h) := by
  have h0 : s.Around { s with held := s.held.drop 1 } := State.around_of_eq rfl rfl rfl
  refine h0.trans ?_
  unfold State.applyHeld
  simp only
  split
  · split
    · exact (State.setAppSubst_around _ _ _).trans (State.setAppInputs_around _ _ _ _ _ _)
    · exact State.Around.refl _
  · exact (State.setNodeSubst_around _ _ _ _).trans (State.setNodeInputs_around _ _ _ _ _)
  · exact State.Around.refl _

/-! ### What a state around keeps, field by field -/

namespace State.Around

variable {s t : State}

theorem pending (h : s.Around t) : t.pending = s.pending := by
  have e := congrArg State.pending h.shell; exact e
theorem now (h : s.Around t) : t.now = s.now := by
  have e := congrArg State.now h.shell; exact e
theorem supplyGood (h : s.Around t) : t.supplyGood = s.supplyGood := by
  have e := congrArg State.supplyGood h.shell; exact e
theorem lineAsserted (h : s.Around t) : t.lineAsserted = s.lineAsserted := by
  have e := congrArg State.lineAsserted h.shell; exact e
theorem commandedDue (h : s.Around t) : t.commandedDue = s.commandedDue := by
  have e := congrArg State.commandedDue h.shell; exact e
theorem restartTimer (h : s.Around t) : t.restartTimer = s.restartTimer := by
  have e := congrArg State.restartTimer h.shell; exact e
theorem gatheringTimer (h : s.Around t) : t.gatheringTimer = s.gatheringTimer := by
  have e := congrArg State.gatheringTimer h.shell; exact e
theorem freezeCarried (h : s.Around t) : t.freezeCarried = s.freezeCarried := by
  have e := congrArg State.freezeCarried h.shell; exact e
theorem restartRecord (h : s.Around t) : t.restartRecord = s.restartRecord := by
  have e := congrArg State.restartRecord h.shell; exact e
theorem store (h : s.Around t) : t.store = s.store := by
  have e := congrArg State.store h.shell; exact e
theorem verified (h : s.Around t) : t.verified = s.verified := by
  have e := congrArg State.verified h.shell; exact e
theorem written (h : s.Around t) : t.written = s.written := by
  have e := congrArg State.written h.shell; exact e
theorem force (h : s.Around t) : t.force = s.force := by
  have e := congrArg State.force h.shell; exact e
theorem validation (h : s.Around t) : t.validation = s.validation := by
  have e := congrArg State.validation h.shell; exact e
theorem publicationCount (h : s.Around t) : t.publicationCount = s.publicationCount := by
  have e := congrArg State.publicationCount h.shell; exact e
theorem published (h : s.Around t) : t.published = s.published := by
  have e := congrArg State.published h.shell; exact e
theorem stored (h : s.Around t) : t.stored = s.stored := by
  have e := congrArg State.stored h.shell; exact e
/-- A port's own fields are kept. -/
theorem port (h : s.Around t) (p : Nat) : (t.port p).outer = (s.port p).outer := by
  have := congrArg (fun l => l[p]?) h.ports
  simp only [List.getElem?_map] at this
  simp only [State.port, List.getD_eq_getElem?_getD]
  cases hs : s.ports[p]? <;> cases ht : t.ports[p]? <;> simp_all

end State.Around

end Sys2Proof.Machine
end

