-- ==== Sys2Proof/Laws/Links.lean ====
section
/-! SUPPORT. What the taking of a request can do: the three checks, the handling, the answer. -/

namespace Sys2Proof.Machine

/-- Not held in the reset, a command runs. -/
theorem State.whenRunning_running (s : State) (f : State → State) (h : s.heldInReset = false) : s.whenRunning f = f s := by
  simp [State.whenRunning, h]

/-- Held in the reset, a command changes nothing. -/
theorem State.whenRunning_held (s : State) (f : State → State) (h : s.heldInReset = true) : s.whenRunning f = s := by
  simp [State.whenRunning, h]

/-- The state with a request of port `p` in progress. -/
def State.taking (s : State) (p : Nat) (f : Frame) : State :=
  s.modPort p (fun q => { q with inProgress := some (Frame.started f) })

theorem State.taking_port (s : State) (p : Nat) (f : Frame) (q : Nat) :
    (s.taking p f).port q =
      if p = q ∧ q < s.ports.length then { s.port q with inProgress := some (Frame.started f) } else s.port q :=
  s.port_modPort p _ q

@[simp] theorem State.taking_role (s : State) (p : Nat) (f : Frame) (q : Nat) :
    ((s.taking p f).port q).role = (s.port q).role := by rw [State.taking_port]; split <;> rfl
@[simp] theorem State.taking_state (s : State) (p : Nat) (f : Frame) (q : Nat) :
    ((s.taking p f).port q).state = (s.port q).state := by rw [State.taking_port]; split <;> rfl
@[simp] theorem State.taking_priority (s : State) (p : Nat) (f : Frame) (q : Nat) :
    ((s.taking p f).port q).priority = (s.port q).priority := by rw [State.taking_port]; split <;> rfl
@[simp] theorem State.taking_queue (s : State) (p : Nat) (f : Frame) (q : Nat) :
    ((s.taking p f).port q).queue = (s.port q).queue := by rw [State.taking_port]; split <;> rfl
@[simp] theorem State.taking_transmit (s : State) (p : Nat) (f : Frame) (q : Nat) :
    ((s.taking p f).port q).transmit = (s.port q).transmit := by rw [State.taking_port]; split <;> rfl
@[simp] theorem State.taking_mode (s : State) (p : Nat) (f : Frame) : (s.taking p f).mode = s.mode := rfl

/-- The answer of a request that its handler has dealt with. -/
def State.replied (s : State) (p : Nat) (f : Frame) (r : State × Reply) : State :=
  match r.2 with
  | .now c x => r.1.placeAnswer p (s.port p).transmit.length (Frame.answer f c x)
  | .later => r.1

/-- A request of a kind at the head of its port's inbound list, whatever its checks say. -/
theorem State.request_offered {α : Type} (s : State) (p : Nat) (k : RequestKind) (decode : List Byte → Option α)
    (handle : α → Frame → State → State × Reply) (f : Frame) (h : s.Offers p f) (hk : f.isKind k = true) :
    s.request p k decode handle = s.replied p f (State.checked p k decode handle f (s.taking p f)) := by
  unfold State.request
  rw [State.takeFrame_taken s p f _ _ _ h.takeable hk]
  rfl

/-- R164: a body that does not decode. -/
theorem State.request_malformed {α : Type} (s : State) (p : Nat) (k : RequestKind) (decode : List Byte → Option α)
    (handle : α → Frame → State → State × Reply) (f : Frame) (h : s.Offers p f) (hk : f.isKind k = true)
    (hd : decode f.body = none) : s.request p k decode handle = s.answered p f .malformed [] := by
  rw [State.request_offered s p k decode handle f h hk]
  simp only [State.checked, hd, State.replied, Reply.code]
  exact s.answered_eq p f _ _

/-- R164: a kind that the port's role may not send. -/
theorem State.request_role {α : Type} (s : State) (p : Nat) (k : RequestKind) (decode : List Byte → Option α)
    (handle : α → Frame → State → State × Reply) (f : Frame) (h : s.Offers p f) (hk : f.isKind k = true) (x : α)
    (hd : decode f.body = some x) (hr : (s.port p).role.maySend k = false) :
    s.request p k decode handle = s.answered p f .portRole [] := by
  rw [State.request_offered s p k decode handle f h hk]
  simp only [State.checked, hd, State.replied, Reply.code, State.taking_role, hr, if_true]
  exact s.answered_eq p f _ _

/-- R164: a kind that the mode does not take. -/
theorem State.request_mode {α : Type} (s : State) (p : Nat) (k : RequestKind) (decode : List Byte → Option α)
    (handle : α → Frame → State → State × Reply) (f : Frame) (h : s.Offers p f) (hk : f.isKind k = true) (x : α)
    (hd : decode f.body = some x) (hr : (s.port p).role.maySend k = true) (hm : k.takenIn s.mode = false) :
    s.request p k decode handle = s.answered p f .mode [] := by
  rw [State.request_offered s p k decode handle f h hk]
  simp only [State.checked, hd, State.replied, Reply.code, State.taking_role, State.taking_mode, hr, hm, if_true,
    Bool.true_eq_false, if_false]
  exact s.answered_eq p f _ _

/-- R164: the checks passed, the handler deals with the request. -/
theorem State.request_taken {α : Type} (s : State) (p : Nat) (k : RequestKind) (decode : List Byte → Option α)
    (handle : α → Frame → State → State × Reply) (f : Frame) (h : s.Takes p k f) (x : α) (hd : decode f.body = some x) :
    s.request p k decode handle = s.replied p f (handle x f (s.taking p f)) := by
  rw [State.request_offered s p k decode handle f h.toOffers h.kind]
  simp [State.checked, hd, h.role, h.mode]

/-- A handler that only answers. -/
theorem State.replied_unchanged (s : State) (p : Nat) (f : Frame) (c : AnswerCode) (x : List Byte) :
    s.replied p f (s.taking p f, .now c x) = s.answered p f c x := s.answered_eq p f c x

/-- A handler that left its port's transmit list as it was: the answer stands at the end. -/
theorem State.replied_end (s t : State) (p : Nat) (f : Frame) (c : AnswerCode) (x : List Byte)
    (h : (t.port p).transmit = (s.port p).transmit) :
    s.replied p f (t, .now c x) = t.modPort p (fun q => { q with transmit := q.transmit ++ [Frame.answer f c x] }) :=
  t.placeAnswer_end p _ _ (by rw [h])

/-- A handler whose port's transmit list only grew: the request is answered after what stood in the list before. -/
theorem State.replied_answers (s t : State) (p : Nat) (f : Frame) (c : AnswerCode) (x : List Byte)
    (hp : p < t.ports.length) (h : (s.port p).transmit <+: (t.port p).transmit) :
    s.answers (s.replied p f (t, .now c x)) p f c x := by
  obtain ⟨l, hl⟩ := h
  unfold State.answers State.replied State.placeAnswer
  rw [State.port_modPort, if_pos ⟨rfl, hp⟩]
  simp [← hl]

/-- A handler that changed no port: the answered state is the same whichever comes first. -/
theorem State.replied_answered (s t u : State) (p : Nat) (f : Frame) (c : AnswerCode) (x : List Byte)
    (hp : t.ports = (s.taking p f).ports) (hq : { t with ports := s.ports } = u) :
    s.replied p f (t, .now c x) = u.answered p f c x := by
  rw [State.replied_end _ _ _ _ _ _ (by
    have : t.port p = (s.taking p f).port p := by unfold State.port; rw [hp]
    rw [this]; exact s.taking_transmit p f p)]
  subst hq
  unfold State.answered State.modPort
  rw [hp]
  simp only [State.taking, State.modPort]
  congr 1
  apply List.ext_getElem?
  intro i
  simp only [List.getElem?_modify]
  cases s.ports[i]? <;> by_cases h : p = i <;> simp [h]

/-- The command of a kind, its checks passed: exec answers next with what the handler and the answer leave. -/
theorem next_of_request {α : Type} {s : State} {p : Nat} {k : RequestKind} {f : Frame} (h : s.Takes p k f)
    {decode : List Byte → Option α} {handle : α → Frame → State → State × Reply} {x : α} (hx : decode f.body = some x) :
    (Host.Outcome.next (s.whenRunning (fun s0 => s0.request p k decode handle)) : Host.Outcome State Fault Refusal) =
      .next (s.replied p f (handle x f (s.taking p f))) := by
  rw [s.whenRunning_running _ h.running, State.request_taken s p k decode handle f h x hx]

/-- The operation byte of a LOAD YARD body that decodes. -/
theorem yardOperation_of_decode {body : List Byte} {x : YardOp} (hx : decodeYard body = some x) :
    yardOperation body = some (match x with
      | .writeNode .. => 1 | .removeNode _ => 2 | .writeApparatus _ => 3
      | .removeApparatus _ => 4 | .writePort .. => 5 | .writeSettings _ => 6) := by
  cases body with
  | nil => cases hx
  | cons op rest =>
    simp only [decodeYard] at hx
    simp only [yardOperation]
    have fin : ∀ n, op.toNat = n → 1 ≤ n → n ≤ 6 →
        (if 1 ≤ op.toNat ∧ op.toNat ≤ 6 then some op.toNat else none) = some n := by
      intro n h a b; rw [h, if_pos ⟨a, b⟩]
    split at hx
    · split at hx
      · cases hx; apply fin _ (by assumption) <;> simp
      · cases hx
    · cases hx; apply fin _ (by assumption) <;> simp
    · simp only [Option.map_eq_some_iff] at hx; obtain ⟨_, _, rfl⟩ := hx; apply fin _ (by assumption) <;> simp
    · cases hx; apply fin _ (by assumption) <;> simp
    · simp only [Option.map_eq_some_iff] at hx; obtain ⟨_, _, rfl⟩ := hx; apply fin _ (by assumption) <;> simp
    · cases hx; apply fin _ (by assumption) <;> simp
    · cases hx

/-- The command of a LOAD YARD operation, its checks passed. -/
theorem next_of_load {s : State} {p : Nat} {f : Frame} (h : s.Takes p .loadYard f) {op : Nat} {x : YardOp}
    (hx : decodeYard f.body = some x) (ho : yardOperation f.body = some op) :
    (Host.Outcome.next (s.whenRunning (fun s0 => s0.loadRequest p op)) : Host.Outcome State Fault Refusal) =
      .next (s.replied p f ((s.taking p f).loadYard x)) := by
  rw [s.whenRunning_running _ h.running]
  unfold State.loadRequest
  rw [State.takeFrame_taken s p f _ _ _ h.takeable (by simp [h.kind, ho])]
  refine congrArg _ ?_
  have h1 := s.taking_role p f p
  have h2 := h.role
  have h3 := h.mode
  simp only [State.taking] at h1
  simp only [State.checked, hx, h1, h2, State.modPort_mode, h3, Bool.true_eq_false, if_false]
  rfl

/-- A frame that is not of the kind is not taken. -/
theorem State.request_idle {α : Type} (s : State) (p : Nat) (k : RequestKind) (decode : List Byte → Option α)
    (handle : α → Frame → State → State × Reply) (h : ∀ f, s.takeable p = some f → f.isKind k = false) :
    s.request p k decode handle = s := s.takeFrame_idle p _ _ _ h

/-! ### Free live records (log 5) -/

/-- Every reason is among those of a free outcome (11.2). -/
theorem mem_allReasons (r : Reason) : r ∈ allReasons := by cases r <;> decide

/-- Every outcome is among those of a free last outcome (11.2). -/
theorem mem_allOutcomes (o : MoveOutcome) : o ∈ allOutcomes := by
  cases o with
  | refused r => exact List.mem_append_right _ (List.mem_map.2 ⟨r, mem_allReasons r, rfl⟩)
  | _ => decide

/-- Two bytes make a number of sixteen bits. -/
theorem u16_le (high low : Byte) : u16 high low ≤ 65535 := by
  have h1 := high.isLt
  have h2 := low.isLt
  unfold u16
  omega

theorem freeOpt16_le {present high low : Byte} {n : Nat} (h : freeOpt16 present high low = some n) : n ≤ 65535 := by
  unfold freeOpt16 at h
  split at h
  · cases h
    exact u16_le _ _
  · cases h

/-- R3, R5: what is known of a free apparatus record. -/
theorem freeAppLive_spec (a : Nat) (active : Bool) :
    (freeAppLive a active).effective =
      effectivePosition (freeAppLive a active).substituted active (freeAppLive a active).reported ∧
    (∀ t, (freeAppLive a active).ticket = some t → 1 ≤ t ∧ t ≤ 65535) ∧
    ∀ y, (freeAppLive a active).lastOperatingTime = some y → y ≤ 65535 := by
  refine ⟨rfl, fun t h => ?_, fun y h => freeOpt16_le h⟩
  simp only [freeAppLive] at h
  split at h
  · cases h
  · cases h
    exact ⟨Nat.pos_of_ne_zero ‹_›, u16_le _ _⟩

/-- R4, R6: what is known of a free node record. -/
theorem freeNodeLive_spec (n : Nat) :
    (freeNodeLive n).effective = effectiveClass (freeNodeLive n).substituted (freeNodeLive n).cls ∧
    (freeNodeLive n).counter ≤ 7 ∧ ∀ y, (freeNodeLive n).lastSample = some y → y ≤ Config.maxSample := by
  refine ⟨rfl, ?_, fun y h => ?_⟩
  · have : (freeNodeLive n).counter = (Config.freeLiveByte true n 3).toNat % 8 := rfl
    omega
  · obtain ⟨x, -, rfl⟩ := Option.map_eq_some_iff.1 h
    exact Nat.lt_succ_iff.1 (Nat.mod_lt _ (Nat.succ_pos _))

/-! ### Tickets -/

/-- The number issued next depends on the tables and the counter alone. -/
theorem State.freeTicket_congr {s t : State} (he : t.entries.map Entry.ticket = s.entries.map Entry.ticket)
    (hp : t.programmes.map Programme.ticket = s.programmes.map Programme.ticket)
    (hd : t.ended.map Ended.ticket = s.ended.map Ended.ticket) (hc : t.ticketCounter = s.ticketCounter) :
    t.freeTicket = s.freeTicket := by
  have key : ∀ {α : Type} (f : α → Nat) (l m : List α) (n : Nat), l.map f = m.map f →
      (l.find? (fun x => f x == n)).isSome = (m.find? (fun x => f x == n)).isSome := by
    intro α f l m n h
    rw [List.isSome_find?, List.isSome_find?]
    have e : ∀ l : List α, l.any (fun x => f x == n) = (l.map f).any (· == n) := by simp [List.any_map, Function.comp_def]
    rw [e, e, h]
  have hu : ∀ n, t.ticketUsed n = s.ticketUsed n := by
    intro n
    simp only [State.ticketUsed, State.entry, State.programme, State.endedItem]
    rw [key Entry.ticket _ _ n he, key Programme.ticket _ _ n hp, key Ended.ticket _ _ n hd]
  have hf : ∀ k n, t.freeTicketFrom k n = s.freeTicketFrom k n := by
    intro k
    induction k with
    | zero => intro n; rfl
    | succ k ih => intro n; simp only [State.freeTicketFrom, hu, ih]
  unfold State.freeTicket
  rw [hf, hc]
  have l1 := congrArg List.length he
  have l2 := congrArg List.length hp
  have l3 := congrArg List.length hd
  simp only [List.length_map] at l1 l2 l3
  rw [l1, l2, l3]

end Sys2Proof.Machine
end

