-- ==== Sys2Proof/WellFormed.lean ====
section
/-! DEFINITION. Which commands name a port, a ticket or a frame the engine has. The machine takes an
ill-formed command as one whose event cannot arise (log 1). -/

namespace Sys2Proof

/-- A port number (00_scope.md 5.2). -/
def portOk (p : Nat) : Bool := decide (p < Config.nPorts)

/-- A ticket (00_scope.md 5.2). -/
def ticketOk (t : Nat) : Bool := decide (1 ≤ t ∧ t ≤ 65535)

/-- A command's operands lie in the ranges of 00_scope.md 5.2. The bytes of a received frame are any run
of at least one byte: R161 judges them. -/
def Instr.wf : Instr → Bool
  | .frameReceived p bytes _ => portOk p && !bytes.isEmpty
  | .frameSent p => portOk p
  | .unknownKindFrame p => portOk p
  | .positionReport p => portOk p
  | .moveRequest p => portOk p
  | .programmeRequest p => portOk p
  | .cancel p => portOk p
  | .amend p => portOk p
  | .extend p => portOk p
  | .revokeAnswer p => portOk p
  | .queryApparatus p => portOk p
  | .queryNode p => portOk p
  | .queryMovement p => portOk p
  | .queryProgramme p => portOk p
  | .queryEngine p => portOk p
  | .keepalive p => portOk p
  | .placeRestriction p => portOk p
  | .liftRestriction p => portOk p
  | .queryRestrictions p => portOk p
  | .liftInspectOverflow p => portOk p
  | .substitute p => portOk p
  | .endSubstitution p => portOk p
  | .acknowledgeBlock p => portOk p
  | .setPortPriority p => portOk p
  | .freeze p => portOk p
  | .thaw p => portOk p
  | .enterMaintenance p => portOk p
  | .leaveMaintenance p => portOk p
  | .writeNode p => portOk p
  | .removeNode p => portOk p
  | .writeApparatus p => portOk p
  | .removeApparatus p => portOk p
  | .writePort p => portOk p
  | .writeSettings p => portOk p
  | .commitYard p => portOk p
  | .validationComplete => true
  | .restart p => portOk p
  | .commanded => true
  | .powerOn => true
  | .resetLine => true
  | .restartTimerExpiry => true
  | .gatheringTimerExpiry => true
  | .portLoss p => portOk p
  | .passTakeUp => true
  | .publication => true
  | .endOfHeldPass => true
  | .grant => true
  | .predicateCheck => true
  | .bypassSearchStep => true
  | .stubSearchStep => true
  | .closingEvent => true
  | .restrictionWriteComplete => true
  | .deferralClockExpiry t => ticketOk t
  | .startWindowExpiry t => ticketOk t
  | .travelDeadlineExpiry t => ticketOk t
  | .waitingRemainingExpiry t => ticketOk t
  | .resetLineReleased => true
  | .supplyBelowWorkingLevel => true
  | .validationRecordCheck => true

end Sys2Proof
end

