-- ==== Sys2Proof/Tests/Slice0.lean ====
section
/-! SUPPORT. Tests: ill-formed commands, frames written out by hand, examples, and a witness for each statement. -/

namespace Sys2Proof.Tests

open Sys2Proof Sys2Proof.Machine

/-! ### Ill-formed commands -/

theorem test_wf_port_too_large : (Instr.keepalive 24).wf = false := by decide
theorem test_wf_port_last : (Instr.keepalive 23).wf = true := by decide
theorem test_wf_received_nothing : (Instr.frameReceived 0 [] false).wf = false := by decide
theorem test_wf_received_port : (Instr.frameReceived 24 [1#8] false).wf = false := by decide
theorem test_wf_ticket_zero : (Instr.startWindowExpiry 0).wf = false := by decide
theorem test_wf_ticket_too_large : (Instr.deferralClockExpiry 65536).wf = false := by decide
theorem test_wf_ticket_last : (Instr.travelDeadlineExpiry 65535).wf = true := by decide

/-! ### Frames (11.1) -/

/-- 11.1: the check of the nine bytes 31h to 39h is 29B1h. -/
theorem test_check_of_digits :
    crc16 [0x31#8, 0x32#8, 0x33#8, 0x34#8, 0x35#8, 0x36#8, 0x37#8, 0x38#8, 0x39#8] = 0x29B1#16 := by decide +kernel

/-- 11.3: a CANCEL of ticket 0102h with tag 0007h: length 5, kind 04h. -/
theorem test_frame_front : (frameBytes 0x04#8 7#16 [1#8, 2#8]).take 7 = [0#8, 5#8, 4#8, 0#8, 7#8, 1#8, 2#8] := by
  decide +kernel

theorem test_frame_too_long : checkFrame (frameBytes 0x04#8 7#16 (List.replicate 251 0#8)) false = none := by decide +kernel
theorem test_frame_wrong_check : checkFrame [0#8, 3#8, 4#8, 0#8, 7#8, 0#8, 0#8] false = none := by decide +kernel

/-! ### Bodies (11.3, 11.5) -/

theorem test_body_move : decodeNumberTarget [0x02#8, 0x00#8, 1#8] = some (512, .closed) := by decide
theorem test_body_move_code : decodeNumberTarget [0#8, 1#8, 2#8] = none := by decide
theorem test_body_report :
    decodeReport [2#8, 1#8, 0#8, 9#8, 4#8, 0xF1#8, 2#8, 3#8, 0x07#8, 0xD1#8] =
      some [.apparatus 9 .unknown { Flags4.clear with driveLockout := true }, .presence 3 2001] := by decide
theorem test_body_report_too_many : decodeReport (17#8 :: List.replicate 68 2#8) = none := by decide
theorem test_body_programme :
    decodeProgramme [1#8, 0#8, 2#8, 0#8, 3#8] =
      some [{ apparatus := 2, target := .opened, skipIfThere := true, coupled := true }] := by decide
theorem test_body_place : decodePlace [3#8, 0#8, 5#8, 1#8, 0#8] = some (.workZone, 5, 256) := by decide
theorem test_body_acknowledge : decodeAcknowledge [0#8, 5#8, 4#8, 1#8] = none := by decide
theorem test_body_write_node :
    decodeYard [1#8, 0#8, 5#8, 2#8, 1#8, 0xFF#8] = some (.writeNode 5 .terminal true 255) := by decide

/-! ### A small yard

Port 0 is SUPERVISORY and port 1 a BAY. Busbar 1 and terminal 2 are measured, junction 3 is not. Breaker 1 stands between 1
and 2, disconnector 2 between 1 and 3, and earth switch 3 at 3. -/

def yard : Yard :=
  { factoryYard with
    nodes := [⟨1, .busbar, true, some 1⟩, ⟨2, .terminal, true, some 1⟩, ⟨3, .junction, false, none⟩]
    apparatus := [⟨1, .breaker, 1, 2, 1, 500, 1000, Flags4.clear⟩, ⟨2, .disconnector, 1, 3, 1, 500, 1000, Flags4.clear⟩,
      ⟨3, .earthSwitch, 3, 0, 1, 500, 1000, Flags4.clear⟩]
    ports := [⟨.supervisory, 5, 500⟩, ⟨.bay, 5, 500⟩] ++ List.replicate 22 factoryPort }

def app (n : Nat) (p : Pos) : AppLive :=
  { AppLive.fresh n with reported := p, effective := p, marker := false }

def node (n : Nat) (c : Cls) : NodeLive :=
  { NodeLive.fresh n with cls := c, effective := c, marker := false }

/-- The yard in SERVICE: breaker and disconnector closed, earth switch open, all live, and published so. -/
def svc : State :=
  { State.reset with
    mode := .service, restartTimer := none, store := yard, force := yard, verified := true
    ports := yard.ports.map (fun d =>
      { Port.afterReset d with
        state := if d.role = .unused then .silent else .active
        silenceTimer := if d.role = .unused then none else some 500 })
    apps := [app 1 .closed, app 2 .closed, app 3 .opened], nodes := [node 1 .live, node 2 .live]
    publicationCount := 1
    published :=
      { initial := false
        nodes := [(0, ⟨0, 0, .earthed⟩), (1, ⟨1, 1, .live⟩), (2, ⟨1, 1, .live⟩), (3, ⟨1, 1, .live⟩)]
        positions := [(3, .opened), (1, .closed), (2, .closed)] } }

/-- A request frame with tag 7. -/
def frame (k : RequestKind) (body : List Byte) : Frame := { kind := BitVec.ofNat 8 k.code, tag := 7#16, body := body }

/-- A frame waits at the head of a port's inbound list. -/
def ask (s : State) (p : Nat) (f : Frame) : State := s.modPort p (fun q => { q with inbound := [f] })

/-- A request of kind `k` waits at port `p`. -/
def req (s : State) (p : Nat) (k : RequestKind) (body : List Byte) : State := ask s p (frame k body)

/-- The state after a command. -/
def after (s : State) (c : Instr) : State :=
  match exec c s with
  | .next t => t
  | _ => s

/-- The codes of the answers in a port's transmit list. -/
def codes (s : State) (p : Nat) : List AnswerCode :=
  (s.port p).transmit.filterMap (fun x => match x with
    | .answer _ _ c _ => some c
    | .notice _ => none)

theorem offers {s : State} {p : Nat} {f : Frame} (h : (!s.heldInReset && decide (p < s.ports.length) &&
    (s.port p).role != .unused && (s.port p).inProgress == none && (s.port p).inbound.head? == some f) = true) :
    s.Offers p f := by
  simp only [Bool.and_eq_true, Bool.not_eq_true', decide_eq_true_eq, bne_iff_ne, beq_iff_eq] at h
  exact ⟨h.1.1.1.1, h.1.1.1.2, h.1.1.2, h.1.2, h.2⟩

theorem takes {s : State} {p : Nat} {k : RequestKind} {f : Frame} (h : (!s.heldInReset && decide (p < s.ports.length) &&
    (s.port p).role != .unused && (s.port p).inProgress == none && (s.port p).inbound.head? == some f) = true)
    (g : (f.isKind k && (s.port p).role.maySend k && k.takenIn s.mode) = true) : s.Takes p k f := by
  simp only [Bool.and_eq_true] at g
  exact { offers h with kind := g.1.1, role := g.1.2, mode := g.2 }

/-- A movement entry of port 1 with ticket `n`, of apparatus `a` to `g`, in a state. -/
def ent (n a : Nat) (g : Target) (st : EntryState) : Entry :=
  { newEntry n 1 a g none false (svc.footprintOf a) with state := st }

/-- The yard with one movement entry. -/
def live (e : Entry) : State :=
  { svc with
    entries := [e], ticketCounter := e.ticket + 1
    ports := if e.state.held then svc.ports else svc.ports.modify 1 (fun q => { q with queue := [e.ticket] })
    apps := svc.apps.map (fun r => if r.number = e.apparatus then { r with ticket := some e.ticket } else r) }

/-- A programme of port 1 with ticket 9 and one step. -/
def prog (st : ProgrammeState) : Programme :=
  { newProgramme 9 1 [⟨2, .opened, false, false⟩] with state := st }

/-! ### Witnesses: steps and the line -/

theorem witness_StepTakesFront : ({ svc with pending := [.grant] } : State).pending = .grant :: [] := rfl

theorem witness_IdleStepPassesTime :
    (({ svc with supplyGood := false } : State).pending = [] ∧
      ({ svc with supplyGood := false } : State).heldInReset = true) ∧
    (svc.heldInReset = false ∧ ({ svc with mode := .gathering, gatheringTimer := some 0 } : State).firstDue =
      some .gatheringTimerExpiry) ∧
    (live { ent 5 2 .opened .deferred with deadline := some 0 }).firstDue = some (.deferralClockExpiry 5) ∧
    (live { ent 5 2 .opened .deferred with deadline := some 1 }).firstDue = none ∧
    (live { ent 5 2 .opened .suspended with deadline := some 0 }).firstDue = none := by decide +kernel

theorem witness_RequestChecksInOrder_kind :
    ((ask svc 1 ⟨0x00#8, 7#16, []⟩).Offers 1 ⟨0x00#8, 7#16, []⟩ ∧ Frame.isRequest ⟨0x00#8, 7#16, []⟩ = false) ∧
    ((ask svc 1 ⟨0x1D#8, 7#16, []⟩).Offers 1 ⟨0x1D#8, 7#16, []⟩ ∧ Frame.isRequest ⟨0x1D#8, 7#16, []⟩ = false) :=
  ⟨⟨offers (by decide), by decide⟩, ⟨offers (by decide), by decide⟩⟩

theorem witness_RequestChecksInOrder_body :
    (req svc 1 .positionReport [0#8]).Offers 1 (frame .positionReport [0#8]) ∧
    Instr.positionReport 1 ∈ commandsFor 1 (frame .positionReport [0#8]) ∧
    requestDecodes .positionReport [0#8] = false ∧
    (req svc 0 .loadYard [7#8]).Offers 0 (frame .loadYard [7#8]) ∧
    Instr.writeSettings 0 ∈ commandsFor 0 (frame .loadYard [7#8]) ∧ requestDecodes .loadYard [7#8] = false :=
  ⟨offers (by decide), by decide, by decide, offers (by decide), by decide, by decide⟩

theorem witness_RequestChecksInOrder_role :
    (req svc 1 .restart []).Offers 1 (frame .restart []) ∧ Instr.restart 1 ∈ commandsFor 1 (frame .restart []) ∧
    requestDecodes .restart [] = true ∧ ((req svc 1 .restart []).port 1).role.maySend .restart = false :=
  ⟨offers (by decide), by decide, by decide, by decide⟩

theorem witness_RequestChecksInOrder_mode :
    (req svc 0 .loadYard [2#8, 0#8, 1#8]).Offers 0 (frame .loadYard [2#8, 0#8, 1#8]) ∧
    Instr.removeNode 0 ∈ commandsFor 0 (frame .loadYard [2#8, 0#8, 1#8]) ∧
    requestDecodes .loadYard [2#8, 0#8, 1#8] = true ∧
    ((req svc 0 .loadYard [2#8, 0#8, 1#8]).port 0).role.maySend .loadYard = true ∧
    RequestKind.loadYard.takenIn svc.mode = false :=
  ⟨offers (by decide), by decide, by decide, by decide, by decide⟩

theorem witness_OtherRequestCommandsChangeNothing :
    Instr.thaw 0 ∈ requestCommands 0 ∧
    ∀ f, (req svc 0 .freeze []).Offers 0 f → Instr.thaw 0 ∉ commandsFor 0 f :=
  ⟨by decide, fun f h => by
    have e : f = frame .freeze [] := by
      have : ((req svc 0 .freeze []).port 0).inbound.head? = some (frame .freeze []) := by decide
      rw [h.head] at this
      exact Option.some.inj this
    subst e
    decide⟩

theorem witness_FramesAgree :
    (List.replicate 250 0#8).length ≤ 250 ∧
    checkFrame [0#8, 5#8, 4#8, 0#8, 7#8, 1#8, 2#8, 0xAD#8, 0x2A#8] false = some (frame .cancel [1#8, 2#8]) := by
  decide +kernel

theorem witness_LineCommands :
    (svc.heldInReset = false ∧ 23 < svc.ports.length ∧ (svc.port 23).role = .unused) ∧
    (checkFrame [0#8, 5#8] false = none) ∧
    ((svc.port 1).role ≠ .unused ∧
      checkFrame (frameBytes 0x0D#8 7#16 []) false = some (frame .keepalive [])) ∧
    (((svc.modPort 1 (fun q => { q with transmit := [.notice (.revoke 5 2)] })).port 1).transmit =
      .notice (.revoke 5 2) :: []) ∧
    (((svc.modPort 1 (fun q =>
        { q with transmit := [.answer 0x8D#8 7#16 .done []], inProgress := some (Frame.started (frame .keepalive [])) })).port
      1).inProgress = some (Frame.started (frame .keepalive []))) := by decide +kernel

/-! ### Witnesses: queries -/

theorem witness_ImageQueriesAnswer :
    ((req svc 1 .queryApparatus [2#8, 1#8]).Takes 1 .queryApparatus (frame .queryApparatus [2#8, 1#8]) ∧
      decodeNumber16 [2#8, 1#8] = some 513 ∧ yard.apparatus.find? (fun d => d.number == 513) = none) ∧
    ((req svc 1 .queryApparatus [0#8, 3#8]).Takes 1 .queryApparatus (frame .queryApparatus [0#8, 3#8]) ∧
      (yard.apparatus.find? (fun d => d.number == 3)).isSome = true) ∧
    ((req svc 0 .queryNode [0#8]).Takes 0 .queryNode (frame .queryNode [0#8]) ∧ decodeNumber8 [0#8] = some 0) ∧
    ((req svc 0 .queryNode [1#8]).Takes 0 .queryNode (frame .queryNode [1#8]) ∧
      (yard.nodes.find? (fun d => d.number == 1)).isSome = true) ∧
    ((req svc 0 .queryNode [4#8]).Takes 0 .queryNode (frame .queryNode [4#8]) ∧
      yard.nodes.find? (fun d => d.number == 4) = none) :=
  ⟨⟨takes (by decide) (by decide), by decide, by decide⟩, ⟨takes (by decide) (by decide), by decide⟩,
    ⟨takes (by decide) (by decide), by decide⟩, ⟨takes (by decide) (by decide), by decide⟩,
    takes (by decide) (by decide), by decide⟩

/-- A described apparatus and a measured node with no live record, and a node that is not measured. -/
theorem witness_ImageQueriesAnswer_absent :
    (let s := { svc with apps := [], nodes := [] }
     (req s 1 .queryApparatus [0#8, 3#8]).Takes 1 .queryApparatus (frame .queryApparatus [0#8, 3#8]) ∧ s.app 3 = none ∧
       (req s 1 .queryNode [1#8]).Takes 1 .queryNode (frame .queryNode [1#8]) ∧ s.node 1 = none) ∧
    (req svc 0 .queryNode [3#8]).Takes 0 .queryNode (frame .queryNode [3#8]) ∧
    (svc.nodeDesc 3).map NodeDesc.measured = some false :=
  ⟨⟨takes (by decide) (by decide), rfl, takes (by decide) (by decide), rfl⟩, takes (by decide) (by decide), by decide⟩

/-- Ticket 5 is live, 6 has ended, 9 is a programme and 7 is nothing. -/
def tickets : State :=
  { live (ent 5 2 .opened .queued) with
    ended := [⟨6, 1, 1, .completed, some 10⟩], programmes := [prog .running] }

theorem witness_TableQueriesAnswer_movement :
    (req tickets 1 .queryMovement [0#8, 5#8]).Takes 1 .queryMovement (frame .queryMovement [0#8, 5#8]) ∧
    decodeNumber16 [0#8, 5#8] = some 5 ∧ (tickets.entry 5).isSome = true ∧
    (tickets.entry 6 = none ∧ (tickets.endedItem 6).isSome = true) ∧
    (tickets.entry 9 = none ∧ tickets.endedItem 9 = none ∧ (tickets.programme 9).isSome = true) ∧
    (tickets.entry 7 = none ∧ tickets.endedItem 7 = none ∧ tickets.programme 7 = none) :=
  ⟨takes (by decide) (by decide), by decide⟩

theorem witness_TableQueriesAnswer_programme :
    (req tickets 1 .queryProgramme [0#8, 9#8]).Takes 1 .queryProgramme (frame .queryProgramme [0#8, 9#8]) ∧
    decodeNumber16 [0#8, 9#8] = some 9 ∧ (tickets.programme 9).isSome = true ∧
    (tickets.programme 5 = none ∧ (tickets.entry 5).isSome = true) ∧
    (tickets.programme 7 = none ∧ tickets.entry 7 = none ∧ tickets.endedItem 7 = none) :=
  ⟨takes (by decide) (by decide), by decide⟩

theorem witness_TableQueriesAnswer_restrictions :
    (req svc 0 .queryRestrictions [0#8]).Takes 0 .queryRestrictions (frame .queryRestrictions [0#8]) ∧
    (req svc 0 .queryRestrictions [1#8]).Takes 0 .queryRestrictions (frame .queryRestrictions [1#8]) ∧
    (req svc 0 .queryRestrictions [64#8]).Takes 0 .queryRestrictions (frame .queryRestrictions [64#8]) ∧
    (req svc 0 .queryRestrictions [65#8]).Takes 0 .queryRestrictions (frame .queryRestrictions [65#8]) ∧
    decodeNumber8 [64#8] = some 64 :=
  ⟨takes (by decide) (by decide), takes (by decide) (by decide), takes (by decide) (by decide),
    takes (by decide) (by decide), by decide⟩

theorem witness_EngineQueriesAnswer :
    (frame .queryEngine []).body = [] ∧ (req svc 1 .queryEngine []).Takes 1 .queryEngine (frame .queryEngine []) ∧
    (req svc 1 .keepalive []).Takes 1 .keepalive (frame .keepalive []) ∧
    (svc.heldInReset = false ∧ 1 < svc.ports.length ∧ (svc.port 1).role ≠ .unused ∧
      checkFrame (frameBytes 0x0D#8 7#16 []) false = some (frame .keepalive []) ∧
      (frame .keepalive []).isKind .keepalive = true) :=
  ⟨rfl, takes (by decide) (by decide), takes (by decide) (by decide), by decide +kernel⟩

/-! ### Witnesses: the yard image -/

/-- Port `p` may take a request of kind `k`. -/
def ready (s : State) (p : Nat) (k : RequestKind) : Bool :=
  !s.heldInReset && decide (p < s.ports.length) && (s.port p).role != .unused && (s.port p).inProgress == none &&
    (s.port p).role.maySend k && k.takenIn s.mode

theorem takes_req {s : State} {p : Nat} {k : RequestKind} (body : List Byte) (h : ready s p k = true) :
    (req s p k body).Takes p k (frame k body) := by
  simp only [ready, Bool.and_eq_true, Bool.not_eq_true', decide_eq_true_eq, bne_iff_ne, beq_iff_eq] at h
  obtain ⟨⟨⟨⟨⟨h1, h2⟩, h3⟩, h4⟩, h5⟩, h6⟩ := h
  have e : (req s p k body).port p = { s.port p with inbound := [frame k body] } := by
    unfold req ask
    rw [State.port_modPort, if_pos ⟨rfl, h2⟩]
  exact { running := h1, listed := by simpa [req, ask] using h2, used := by rw [e]; exact h3, free := by rw [e]; exact h4,
          head := by rw [e]; rfl, kind := by cases k <;> rfl, role := by rw [e]; exact h5, mode := h6 }

/-- A pass that has taken up node 0. -/
def passing : Pass :=
  { held := false, takenUp := [0], reached := [1, 2, 3], readApps := [⟨3, .opened, false⟩], readNodes := []
    draft := [(0, ⟨0, 0, .earthed⟩)] }

/-- A complete pass. -/
def complete (h : Bool) : Pass :=
  { held := h, takenUp := [0, 1, 2, 3], reached := [], draft := svc.published.nodes
    readApps := [⟨3, .opened, false⟩, ⟨1, .closed, false⟩, ⟨2, .closed, true⟩]
    readNodes := [⟨1, .live, true⟩, ⟨2, .live, false⟩] }

/-- A held pass runs, complete, and some entries are held. -/
def holding (l : List HeldEntry) : State := { svc with pass := some (complete true), spoils := 3, held := l }

/-- Held entries of 32 other targets. -/
def heldOthers : List HeldEntry := (List.range 32).map (fun i => ⟨.node (100 + i), .node .dead none 0⟩)

/-- An evaluation of entry 5 at a stage. -/
def evaluating (a : Nat) (g : Target) (st : Stage) : State :=
  let s := live (ent 5 a g .evaluating)
  { s with evaluation := some { s.newEvaluation (ent 5 a g .evaluating) with stage := st } }

/-- The evaluation looks at no more than the footprint. -/
def narrow (s : State) : State := { s with evaluation := s.evaluation.map (fun v => { v with candidateReach := [] }) }

/-- Port 1 reports one item of apparatus `a`. -/
def item (s : State) (a : Byte) (pos flags : Byte) : State := req s 1 .positionReport [1#8, 1#8, 0#8, a, pos, flags]

/-- The yard with the conditions of breaker 1 LATCHED. -/
def latching : State :=
  { svc with force := { yard with apparatus :=
      [⟨1, .breaker, 1, 2, 1, 500, 1000, ⟨true, true, true, true⟩⟩] ++ yard.apparatus.drop 1 } }

/-- One item outside a held pass: an image change with all flags, with no pass, with a pass that has or has not read the
apparatus, with an evaluation of it, and a report that changes nothing. -/
theorem witness_ReportedApparatusItem :
    (∀ flags : Fin 16, (item latching 1#8 0#8 (BitVec.ofNat 8 flags)).Takes 1 .positionReport
      (frame .positionReport [1#8, 1#8, 0#8, 1#8, 0#8, BitVec.ofNat 8 flags])) ∧
    decodeReport [1#8, 1#8, 0#8, 1#8, 0#8, 0x0F#8] = some [.apparatus 1 .opened ⟨true, true, true, true⟩] ∧
    (latching.heldPassRunning = false ∧ latching.app 1 = some (app 1 .closed) ∧
      latching.appDesc 1 = some ⟨1, .breaker, 1, 2, 1, 500, 1000, ⟨true, true, true, true⟩⟩) ∧
    (let s := item { svc with pass := some (complete false), spoils := 2 } 1#8 0#8 0#8
     s.heldPassRunning = false ∧ (∃ y ∈ (complete false).readApps, y.number = 1) ∧ s.pass = some (complete false)) ∧
    (∀ y ∈ passing.readApps, y.number ≠ 1) ∧
    (let s := evaluating 1 .opened (.check 1)
     s.liesIn (.apparatus 1) ((ent 5 1 .opened .evaluating).footprint ++ []) = true ∧
       s.entry 5 = some (ent 5 1 .opened .evaluating) ∧ s.evaluation.map Evaluation.ticket = some 5) ∧
    decodeReport [1#8, 1#8, 0#8, 1#8, 1#8, 0#8] = some [.apparatus 1 .closed Flags4.clear] :=
  ⟨fun _ => takes_req _ (by decide), by decide, by decide, by decide, by decide, by decide, by decide⟩

/-- A report about an apparatus whose live entry stands in any state, to each position. -/
theorem witness_ReportedApparatusItem_entry (st : EntryState) :
    let e := ent 5 2 .opened st
    (∀ pos : Byte, (item (live e) 2#8 pos 0#8).Takes 1 .positionReport
      (frame .positionReport [1#8, 1#8, 0#8, 2#8, pos, 0#8])) ∧
    (decodeReport [1#8, 1#8, 0#8, 2#8, 2#8, 0#8] = some [.apparatus 2 .travelling Flags4.clear] ∧
      decodeReport [1#8, 1#8, 0#8, 2#8, 3#8, 0#8] = some [.apparatus 2 .faulty Flags4.clear] ∧
      decodeReport [1#8, 1#8, 0#8, 2#8, 0#8, 0#8] = some [.apparatus 2 .opened Flags4.clear]) ∧
    ((live e).heldPassRunning = false ∧ (live e).entryOf 2 = some e ∧ (live e).entry 5 = some e ∧
      ((live e).port 1).state = .active ∧ (live e).evaluation = none ∧ e.programme = none ∧ (live e).mode ≠ .freezing ∧
      (∀ x ∈ (live e).entries, x.apparatus = 2 → x.ticket = 5) ∧
      ((live e).app 2).map (fun r => (r.substituted, r.effective, r.present)) = some (none, .closed, Flags4.clear)) ∧
    ((live e).entries.any (fun e => e.state == .deferred) = false → (live e).calm) := by
  refine ⟨fun _ => takes_req _ (by cases st <;> decide), by decide, by cases st <;> decide, fun h => ⟨?_, rfl⟩⟩
  intro x hx hs
  rw [List.any_eq_false] at h
  exact h x hx (by rw [hs]; rfl)

theorem calm_of {s : State} (h : (∀ e ∈ s.entries, e.state ≠ .deferred) ∧ s.waitingOrder = []) : s.calm := h

/-- RETURNED: a movement back to the position it left. -/
theorem witness_ReportedApparatusItem_returned :
    let s := { live (ent 5 2 .opened .travelling) with apps := [app 1 .closed, { app 2 .travelling with ticket := some 5 }, app 3 .opened] }
    ready s 1 .positionReport = true ∧ s.calm ∧ Pos.closed = Target.opposite .opened ∧
    (s.app 2).map AppLive.effective = some .travelling :=
  ⟨by decide, calm_of (by decide), by decide, by decide⟩

/-- The body of a report of breaker 1 TRAVELLING, of apparatus 9, which is not described, and of node 1. -/
def severalItems : List Byte := [3#8, 1#8, 0#8, 1#8, 2#8, 0#8, 1#8, 0#8, 9#8, 0#8, 0#8, 2#8, 1#8, 0#8, 100#8]

/-- R7: a report of several items, one of them not the port's. -/
theorem witness_ReportedApparatusItem_several :
    (req svc 1 .positionReport severalItems).Takes 1 .positionReport (frame .positionReport severalItems) ∧
    decodeReport severalItems =
      some [.apparatus 1 .travelling Flags4.clear, .apparatus 9 .opened Flags4.clear, .presence 1 100] ∧
    svc.pass = none ∧ (svc.node 1).isSome = true ∧ (svc.nodeDesc 1).any (fun d => d.measured && d.port == some 1) = true ∧
    (svc.appDesc 1).any (fun d => d.port == 1) = true ∧ svc.appDesc 9 = none ∧ (svc.app 1).isSome = true :=
  ⟨takes_req _ (by decide), by decide⟩

/-- R7: the refused item does not stop the report, and the answer counts the items applied. -/
theorem test_several_items :
    let t := after (req svc 1 .positionReport severalItems) (.positionReport 1)
    (t.port 1).transmit.head? = some (.answer 0x81#8 7#16 .notYourItem [2#8, 2#8, 0x0A#8]) ∧
    (t.app 1).map AppLive.reported = some .travelling ∧ (t.node 1).map NodeLive.lastSample = some (some 100) := by
  decide +kernel

/-- Disconnector 2 travels for programme 9. -/
def travelling : State :=
  { live { ent 5 2 .opened .travelling with programme := some (9, 1) } with
    apps := [app 1 .closed, { app 2 .travelling with ticket := some 5 }, app 3 .opened]
    programmes := [{ prog .running with movement := some 5 }] }

/-- RETURNED and FAULTED in a programme. -/
theorem witness_ReportedApparatusItem_programme :
    (∀ pos : Byte, (item travelling 2#8 pos 0#8).Takes 1 .positionReport
      (frame .positionReport [1#8, 1#8, 0#8, 2#8, pos, 0#8])) ∧
    travelling.programme 9 = some { prog .running with movement := some 5 } ∧
    (travelling.entryOf 2).map Entry.programme = some (some (9, 1)) ∧ travelling.calm ∧
    (travelling.port 1).state = .active ∧ travelling.mode ≠ .freezing ∧ travelling.evaluation = none ∧
    (∀ x ∈ travelling.entries, x.apparatus = 2 → x.ticket = 5) :=
  ⟨fun _ => takes_req _ (by decide), by decide, by decide, calm_of (by decide), by decide⟩

/-- R127: the programme stops with the outcome of its movement. -/
theorem test_programme_faulted :
    (after (item travelling 2#8 3#8 0#8) (.positionReport 1)).programmes = [] ∧
    Outgoing.notice (.programmeEnded 9 1 (some (.outcome .faulted))) ∈
      ((after (item travelling 2#8 3#8 0#8) (.positionReport 1)).port 1).transmit := by decide +kernel

/-- R22, R142: an unbidden opening of disconnector 2 makes an INSPECT, and breaker 1 opening is a trip. -/
theorem test_unbidden_and_trip :
    (after (item svc 2#8 0#8 0#8) (.positionReport 1)).restrictions = [⟨1, .inspect, 2, none, 0, some 1⟩] ∧
    ((after (item svc 2#8 0#8 0#8) (.positionReport 1)).port 0).transmit = [.notice (.unbidden 2 .closed .opened)] ∧
    ((after (item svc 1#8 0#8 0#8) (.positionReport 1)).app 1).map AppLive.lastOutcome = some (some .tripped) ∧
    (after (item svc 1#8 0#8 0#8) (.positionReport 1)).restrictions = [] := by decide +kernel

/-- In a held pass: a held entry stands, none stands and room is left, the queue is full, and the position is the same. -/
theorem witness_ReportedApparatusItem_held (l : List HeldEntry) :
    (item (holding l) 1#8 0#8 0#8).Takes 1 .positionReport (frame .positionReport [1#8, 1#8, 0#8, 1#8, 0#8, 0#8]) ∧
    (holding l).heldPassRunning = true ∧ (holding l).app 1 = some (app 1 .closed) ∧
    (holding [⟨.apparatus 1, .apparatus .unknown none 0⟩]).heldFor (.apparatus 1) =
      some ⟨.apparatus 1, .apparatus .unknown none 0⟩ ∧
    (holding heldOthers).heldFor (.apparatus 1) = none ∧ 32 ≤ (holding heldOthers).held.length ∧
    (holding []).heldFor (.apparatus 1) = none ∧ (holding []).held.length < 32 ∧
    effectivePosition none true .opened ≠ (app 1 .closed).effective ∧
    effectivePosition none true .closed = (app 1 .closed).effective :=
  ⟨takes_req _ (by rfl), rfl, rfl, by decide, by decide, by decide, by decide, by decide, by decide, by decide⟩

/-- R40: the item is refused HELD_FULL. -/
theorem test_held_full :
    ((after (item (holding heldOthers) 1#8 0#8 0#8) (.positionReport 1)).port 1).transmit =
      [.answer 0x81#8 7#16 .heldFull [0#8, 1#8, 0x17#8]] := by decide +kernel

/-- The counter of node 1 at a count, its last candidate DEAD. -/
def counted (c : Nat) : State :=
  { svc with nodes := [{ node 1 .live with counter := c, lastCandidate := some .dead }, node 2 .dead] }

/-- Port 1 reports one sample of node `n`. -/
def sample (s : State) (n v : Byte) : State := req s 1 .positionReport [1#8, 2#8, n, 0#8, v]

theorem witness_ReportedPresenceItem :
    (∀ c, (sample (counted c) 1#8 200#8).Takes 1 .positionReport
      (frame .positionReport [1#8, 2#8, 1#8, 0#8, 200#8])) ∧
    decodeReport [1#8, 2#8, 1#8, 0#8, 200#8] = some [.presence 1 200] ∧ (counted 2).heldPassRunning = false ∧
    svc.nodeDesc 1 = some ⟨1, .busbar, true, some 1⟩ ∧ svc.node 1 = some (node 1 .live) ∧
    candidate svc.force.settings .live 200 = .dead ∧ candidate svc.force.settings .live 201 = .live ∧
    candidate svc.force.settings .dead 699 = .dead ∧ candidate svc.force.settings .dead 700 = .live ∧
    candidate svc.force.settings .unknown (min 65535 2000) = .live ∧
    ((counted 1).node 1).map NodeLive.counter = some 1 ∧ 1 + 1 < svc.force.settings.confirmCount ∧
    ((counted 2).node 1).map NodeLive.lastCandidate = some (some .dead) ∧ 2 + 1 = svc.force.settings.confirmCount :=
  ⟨fun _ => takes_req _ (by rfl), by decide⟩

/-- The third dead sample of node 1 is an image change, with a pass or an evaluation that has node 1, or has not. -/
theorem witness_ReportedPresenceItem_change :
    (∀ s, s = { counted 2 with pass := some (complete false) } ∨ s = { counted 2 with pass := some passing } ∨
        s = { evaluating 1 .opened (.check 1) with nodes := (counted 2).nodes } ∨
        s = { narrow (evaluating 3 .closed (.check 1)) with nodes := (counted 2).nodes } →
      (sample s 1#8 200#8).Takes 1 .positionReport (frame .positionReport [1#8, 2#8, 1#8, 0#8, 200#8]) ∧
      s.heldPassRunning = false) ∧
    (∃ y ∈ (complete false).readNodes, y.number = 1) ∧ (∀ y ∈ passing.readNodes, y.number ≠ 1) ∧
    (1 ∈ (ent 5 1 .opened .evaluating).footprint ++ [] ∧ 1 ∉ (ent 5 3 .closed .evaluating).footprint ++ []) ∧
    ((evaluating 1 .opened (.check 1)).evaluation.map (fun v => (v.ticket, v.expired, v.reoffer)) =
        some (5, false, false) ∧ (evaluating 1 .opened (.check 1)).muted 1 = false ∧
      (ent 5 1 .opened .evaluating).voidCount < 2 ∧ (ent 5 1 .opened .evaluating).coupled = false ∧
      2 ≤ ({ ent 5 1 .opened .evaluating with voidCount := 2 } : Entry).voidCount ∧
      svc.force.settings.deferralLimit ≠ 0) := by
  refine ⟨?_, by decide, by decide, by decide, by decide⟩
  rintro s (rfl | rfl | rfl | rfl) <;> exact ⟨takes_req _ (by decide), rfl⟩

/-- R11: DEAD is taken on the third sample running. -/
theorem test_third_dead_sample :
    ((after (sample (counted 2) 1#8 200#8) (.positionReport 1)).node 1).map NodeLive.cls = some .dead := by
  decide +kernel

/-- R79, R87: the first void returns the entry to QUEUED, the third defers it UNSETTLED. -/
theorem test_void :
    (let s := { evaluating 1 .opened (.check 1) with nodes := (counted 2).nodes }
     (after (sample s 1#8 200#8) (.positionReport 1)).entries.map (fun e => (e.state, e.voidCount)) = [(.queued, 1)]) ∧
    (let s := { evaluating 1 .opened (.check 1) with
                  nodes := (counted 2).nodes, entries := [{ ent 5 1 .opened .evaluating with voidCount := 2 }] }
     (after (sample s 1#8 200#8) (.positionReport 1)).entries.map (fun e => (e.state, e.cause)) =
       [(.deferred, some .unsettled)]) := by decide +kernel

theorem witness_ReportedPresenceItem_held (l : List HeldEntry) :
    (sample { holding l with nodes := (counted 2).nodes } 1#8 200#8).Takes 1 .positionReport
      (frame .positionReport [1#8, 2#8, 1#8, 0#8, 200#8]) ∧
    ({ holding l with nodes := (counted 2).nodes } : State).heldPassRunning = true ∧
    (holding [⟨.node 1, .node .live none 0⟩]).heldFor (.node 1) = some ⟨.node 1, .node .live none 0⟩ ∧
    ((holding heldOthers).heldFor (.node 1) = none ∧ 32 ≤ (holding heldOthers).held.length) ∧
    ((holding []).heldFor (.node 1) = none ∧ (holding []).held.length < 32) ∧
    (classify svc.force.settings .live 2 (some .dead) .dead).2 ≠ .live ∧
    (classify svc.force.settings .live 1 (some .dead) .dead).2 = .live :=
  ⟨takes_req _ (by rfl), rfl, by decide, by decide, by decide, by decide, by decide⟩

theorem witness_ForeignItemsRefused :
    (req svc 1 .positionReport [1#8, 1#8, 0#8, 0#8, 0#8, 0#8]).Takes 1 .positionReport
      (frame .positionReport [1#8, 1#8, 0#8, 0#8, 0#8, 0#8]) ∧
    decodeReport [1#8, 1#8, 0#8, 0#8, 0#8, 0#8] = some [.apparatus 0 .opened Flags4.clear] ∧ svc.appDesc 0 = none ∧
    svc.appDesc 4 = none ∧ (svc.nodeDesc 3).map NodeDesc.measured = some false :=
  ⟨takes_req _ (by decide), by decide⟩

/-- A substitution stands on apparatus 1 and on node 1. -/
def substituted : State :=
  { svc with
    substs := [⟨.apparatus 1, .position .opened, 0⟩, ⟨.node 1, .cls .dead, 0⟩]
    apps := [{ app 1 .closed with substituted := some .opened, effective := .opened }, app 2 .closed, app 3 .opened]
    nodes := [{ node 1 .live with substituted := some .dead, effective := .dead }, node 2 .live] }

theorem witness_SubstitutionsAct_apparatus :
    svc.heldPassRunning = false ∧ svc.held = [] ∧
    (req svc 0 .substitute [0#8, 0#8, 1#8, 0#8]).Takes 0 .substitute (frame .substitute [0#8, 0#8, 1#8, 0#8]) ∧
    decodeSubstitute [0#8, 0#8, 1#8, 0#8] = some (.apparatus 1, .position .opened) ∧
    (svc.app 1).map AppLive.ticket = some none ∧ svc.substs.length < 16 ∧
    (req substituted 0 .endSubstitution [0#8, 0#8, 1#8]).Takes 0 .endSubstitution
      (frame .endSubstitution [0#8, 0#8, 1#8]) ∧
    decodeEndSubstitution [0#8, 0#8, 1#8] = some (.apparatus 1) ∧
    (substituted.subst (.apparatus 1)).isSome = true :=
  ⟨by decide, by decide, takes_req _ (by decide), by decide, by decide, by decide, takes_req _ (by decide), by decide,
    by decide⟩

theorem witness_SubstitutionsAct_node :
    (req svc 0 .substitute [1#8, 0#8, 1#8, 3#8]).Takes 0 .substitute (frame .substitute [1#8, 0#8, 1#8, 3#8]) ∧
    decodeSubstitute [1#8, 0#8, 1#8, 3#8] = some (.node 1, .cls .dead) ∧
    (svc.nodeDesc 1).map NodeDesc.measured = some true ∧ (svc.node 1).isSome = true ∧
    (req substituted 0 .endSubstitution [1#8, 0#8, 1#8]).Takes 0 .endSubstitution
      (frame .endSubstitution [1#8, 0#8, 1#8]) ∧
    decodeEndSubstitution [1#8, 0#8, 1#8] = some (.node 1) ∧ (substituted.subst (.node 1)).isSome = true :=
  ⟨takes_req _ (by decide), by decide, by decide, by decide, takes_req _ (by decide), by decide, by decide⟩

/-- Substitutions in a held pass: the held entry of the target stands, or none stands with the queue full or not. -/
theorem witness_SubstitutionsAct_held (l : List HeldEntry) (v : Byte) :
    (req (holding l) 0 .substitute [0#8, 0#8, 1#8, v]).Takes 0 .substitute (frame .substitute [0#8, 0#8, 1#8, v]) ∧
    decodeSubstitute [0#8, 0#8, 1#8, 1#8] = some (.apparatus 1, .position .closed) ∧
    (holding l).heldPassRunning = true ∧ ((holding l).app 1).map AppLive.ticket = some none ∧
    (req (holding l) 0 .substitute [1#8, 0#8, 1#8, 3#8]).Takes 0 .substitute
      (frame .substitute [1#8, 0#8, 1#8, 3#8]) ∧
    ((holding heldOthers).substCount < 16 ∧ (holding heldOthers).heldFor (.apparatus 1) = none ∧
      (holding heldOthers).heldFor (.node 1) = none ∧ 32 ≤ (holding heldOthers).held.length) ∧
    ((holding []).substCount < 16 ∧ (holding []).heldFor (.apparatus 1) = none ∧ (holding []).held.length < 32) ∧
    ((holding [⟨.apparatus 1, .apparatus .unknown none 0⟩]).substCount < 16 ∧
      (holding [⟨.apparatus 1, .apparatus .unknown none 0⟩]).heldFor (.apparatus 1) =
        some ⟨.apparatus 1, .apparatus .unknown none 0⟩) ∧
    (Target.pos .opened ≠ (app 1 .closed).effective ∧ Target.pos .closed = (app 1 .closed).effective ∧
      Cand.toCls .dead ≠ (node 1 .live).effective) :=
  ⟨takes_req _ (by rfl), by decide, rfl, rfl, takes_req _ (by rfl), by decide, by decide, by decide, by decide⟩

/-- END SUBSTITUTION in a held pass. -/
theorem witness_SubstitutionsAct_ended (l : List HeldEntry) :
    let s := { substituted with pass := some (complete true), spoils := 3, held := l }
    (req s 0 .endSubstitution [0#8, 0#8, 1#8]).Takes 0 .endSubstitution (frame .endSubstitution [0#8, 0#8, 1#8]) ∧
    s.heldPassRunning = true ∧ s.substStands (.apparatus 1) = true ∧
    effectivePosition none (substituted.reporterActive ⟨1, .breaker, 1, 2, 1, 500, 1000, Flags4.clear⟩) .closed ≠ .opened ∧
    (holding heldOthers).heldFor (.apparatus 1) = none ∧ (holding []).heldFor (.apparatus 1) = none ∧
    (holding [⟨.apparatus 1, .apparatus .opened (some .closed) 0⟩]).heldFor (.apparatus 1) =
      some ⟨.apparatus 1, .apparatus .opened (some .closed) 0⟩ :=
  ⟨takes_req _ (by rfl), rfl, rfl, by decide, by decide, by decide, by decide⟩

/-- R15: a SUBSTITUTE makes its table entry before its image change acts: a programme that retries its step on the
apparatus in the same event meets the substitution and stops SUBSTITUTED. -/
theorem test_substitute_before_cascade :
    let s := evaluating 1 .opened (.check 1)
    let u := { s with
      evaluation := s.evaluation.map (fun v => { v with expired := true })
      entries := [{ ent 5 1 .opened .evaluating with cause := some .reserved }], ended := []
      programmes := [{ newProgramme 9 1 [⟨2, .opened, false, false⟩] with state := .waiting, waiting := some 100 }]
      waitingOrder := [9] }
    let t := after (req u 0 .substitute [0#8, 0#8, 2#8, 0#8]) (.substitute 0)
    t.programmes = [] ∧ t.ended.map Ended.outcome = [.refused .zoneEngaged] ∧
    Outgoing.notice (.programmeEnded 9 1 (some .substituted)) ∈ (t.port 1).transmit := by decide +kernel

/-- Sixteen substitutions of node 2 stand. -/
def tabled : State := { svc with substs := List.replicate 16 ⟨.node 2, .cls .dead, 0⟩ }

/-- The refusals of SUBSTITUTE and END SUBSTITUTION: a target not described or not measured, a value of the wrong kind, an
engaged apparatus, a full table, and no substitution. -/
theorem witness_SubstitutionsAct_refused :
    (∀ y n v : Byte, (req svc 0 .substitute [y, 0#8, n, v]).Takes 0 .substitute (frame .substitute [y, 0#8, n, v]) ∧
      (req svc 0 .endSubstitution [y, 0#8, n]).Takes 0 .endSubstitution (frame .endSubstitution [y, 0#8, n])) ∧
    (decodeSubstitute [0#8, 0#8, 4#8, 0#8] = some (.apparatus 4, .position .opened) ∧ svc.appDesc 4 = none) ∧
    (decodeSubstitute [1#8, 0#8, 3#8, 2#8] = some (.node 3, .cls .live) ∧
      (svc.nodeDesc 3).map NodeDesc.measured = some false) ∧
    (decodeSubstitute [0#8, 0#8, 1#8, 2#8] = some (.apparatus 1, .cls .live) ∧ (svc.appDesc 1).isSome = true) ∧
    (decodeSubstitute [1#8, 0#8, 1#8, 0#8] = some (.node 1, .position .opened) ∧
      (svc.nodeDesc 1).map NodeDesc.measured = some true) ∧
    (let s := live (ent 5 1 .opened .queued)
     (req s 0 .substitute [0#8, 0#8, 1#8, 0#8]).Takes 0 .substitute (frame .substitute [0#8, 0#8, 1#8, 0#8]) ∧
       (s.app 1).map AppLive.ticket = some (some 5)) ∧
    ((req tabled 0 .substitute [0#8, 0#8, 1#8, 0#8]).Takes 0 .substitute (frame .substitute [0#8, 0#8, 1#8, 0#8]) ∧
      tabled.substStands (.apparatus 1) = false ∧ tabled.substCount = 16 ∧ tabled.engaged 1 = false) ∧
    (decodeEndSubstitution [0#8, 0#8, 4#8] = some (.apparatus 4) ∧ decodeEndSubstitution [0#8, 0#8, 1#8] = some (.apparatus 1) ∧
      svc.substStands (.apparatus 1) = false) :=
  ⟨fun _ _ _ => ⟨takes_req _ (by decide), takes_req _ (by decide)⟩, by decide, by decide, by decide, by decide,
    ⟨takes_req _ (by decide), by decide⟩, ⟨takes_req _ (by decide), by decide⟩, by decide⟩

/-- R15, R16: the answers to them. -/
theorem test_substitute_refused :
    codes (after (req svc 0 .substitute [0#8, 0#8, 4#8, 0#8]) (.substitute 0)) 0 = [.unknownTarget] ∧
    codes (after (req svc 0 .substitute [0#8, 0#8, 1#8, 2#8]) (.substitute 0)) 0 = [.outOfRange] ∧
    codes (after (req (live (ent 5 1 .opened .queued)) 0 .substitute [0#8, 0#8, 1#8, 0#8]) (.substitute 0)) 0 = [.engaged] ∧
    codes (after (req tabled 0 .substitute [0#8, 0#8, 1#8, 0#8]) (.substitute 0)) 0 = [.tableFull] ∧
    codes (after (req svc 0 .endSubstitution [0#8, 0#8, 1#8]) (.endSubstitution 0)) 0 = [.notApplicable] := by
  decide +kernel

/-! ### Witnesses: re-offers and liftings -/

theorem distinct_of {s : State} (h : (s.entries.map Entry.ticket).Nodup) : s.distinct := h

theorem witness_ReofferReturnsDeferred :
    (live (ent 5 2 .opened .deferred)).distinct ∧ svc.mode.isFreeze = false ∧
    (live (ent 5 2 .opened .deferred)).waitingOrder = [] ∧
    ∀ e ∈ (live (ent 5 2 .opened .deferred)).entries, e.state = .deferred →
      (live (ent 5 2 .opened .deferred)).muted e.owner = false := by
  unfold State.distinct; decide

/-- Breaker 1 with the condition latched, with latch number 255, and present or not. -/
def latched (now : Bool) : State :=
  { svc with apps := [{ app 1 .closed with
      latched := ⟨true, false, false, false⟩, present := ⟨now, false, false, false⟩
      latchNumbers := ⟨255, 0, 0, 0⟩ }, app 2 .closed, app 3 .opened] }

theorem witness_LiftingsAct_acknowledge :
    (req (latched false) 0 .acknowledgeBlock [0#8, 1#8, 0#8, 255#8]).Takes 0 .acknowledgeBlock
      (frame .acknowledgeBlock [0#8, 1#8, 0#8, 255#8]) ∧
    decodeAcknowledge [0#8, 1#8, 0#8, 255#8] = some (1, .driveLockout, 255) ∧
    decodeAcknowledge [0#8, 1#8, 3#8, 255#8] = some (1, .gasPressure, 255) ∧
    (latched false).calm ∧ (latched true).calm ∧ ((latched false).app 1).isSome = true :=
  ⟨takes (by decide) (by decide), by decide, by decide, calm_of (by decide), calm_of (by decide), by decide⟩

theorem witness_LiftingsAct_unknown :
    (req svc 0 .acknowledgeBlock [0#8, 4#8, 0#8, 0#8]).Takes 0 .acknowledgeBlock
      (frame .acknowledgeBlock [0#8, 4#8, 0#8, 0#8]) ∧
    decodeAcknowledge [0#8, 4#8, 0#8, 0#8] = some (4, .driveLockout, 0) ∧ svc.appDesc 4 = none :=
  ⟨takes (by decide) (by decide), by decide⟩

/-- The answers of ACKNOWLEDGE BLOCK, one after another check. -/
theorem test_acknowledge :
    codes (after (req (latched false) 0 .acknowledgeBlock [0#8, 1#8, 3#8, 255#8]) (.acknowledgeBlock 0)) 0 =
      [.notApplicable] ∧
    codes (after (req (latched true) 0 .acknowledgeBlock [0#8, 1#8, 0#8, 255#8]) (.acknowledgeBlock 0)) 0 =
      [.stillPresent] ∧
    codes (after (req (latched false) 0 .acknowledgeBlock [0#8, 1#8, 0#8, 0#8]) (.acknowledgeBlock 0)) 0 = [.staleAck] ∧
    codes (after (req (latched false) 0 .acknowledgeBlock [0#8, 1#8, 0#8, 255#8]) (.acknowledgeBlock 0)) 0 = [.done] := by
  decide +kernel

/-- A LOCKED restriction of apparatus 2 under id 64, and the overflow mark on apparatus 1. -/
def restricted : State :=
  { svc with
    restrictions := [⟨64, .locked, 2, some 0, 7, none⟩], stored := [⟨64, .locked, 2, some 0, 7, none⟩]
    apps := [{ app 1 .closed with overflow := true }, app 2 .closed, app 3 .opened] }

theorem witness_LiftingsAct_restrictions :
    restricted.calm ∧
    (req restricted 0 .liftRestriction [64#8]).Takes 0 .liftRestriction (frame .liftRestriction [64#8]) ∧
    (req restricted 0 .liftRestriction [65#8]).Takes 0 .liftRestriction (frame .liftRestriction [65#8]) ∧
    (req restricted 0 .liftRestriction [0#8]).Takes 0 .liftRestriction (frame .liftRestriction [0#8]) ∧
    restricted.restrictions.any (fun r => r.id == 64) = true ∧ restricted.restrictions.any (fun r => r.id == 1) = false ∧
    (req restricted 0 .liftInspectOverflow [0#8, 1#8]).Takes 0 .liftInspectOverflow
      (frame .liftInspectOverflow [0#8, 1#8]) ∧
    restricted.overflowMark 1 = true ∧ restricted.overflowMark 2 = false ∧ restricted.appDesc 0 = none :=
  ⟨calm_of (by decide), takes (by decide) (by decide), takes (by decide) (by decide), takes (by decide) (by decide),
    by decide, by decide, takes (by decide) (by decide), by decide⟩

/-! ### Witnesses: movement requests -/

theorem calmBut_of {s : State} {t : Nat} (h : (∀ e ∈ s.entries, e.state = .deferred → e.ticket = t) ∧ s.waitingOrder = []) :
    s.calmBut t := h

theorem calmButProgramme_of {s : State} {t : Nat}
    (h : (∀ e ∈ s.entries, e.state ≠ .deferred) ∧ ∀ x ∈ s.waitingOrder, x = t) : s.calmButProgramme t := h

theorem witness_MoveRequestAccepted :
    (req svc 1 .moveRequest [0#8, 2#8, 0#8]).Takes 1 .moveRequest (frame .moveRequest [0#8, 2#8, 0#8]) ∧
    decodeNumberTarget [0#8, 2#8, 0#8] = some (2, .opened) ∧ svc.mode = .service ∧
    svc.appDesc 2 = some ⟨2, .disconnector, 1, 3, 1, 500, 1000, Flags4.clear⟩ ∧ svc.app 2 = some (app 2 .closed) ∧
    (svc.port 1).priority ≠ 0 ∧ svc.substitutionOn 2 = false ∧ (app 2 .closed).ticket = none ∧
    ((live (ent 5 1 .opened .queued)).port 1).queue.length < 4 ∧ (live (ent 5 1 .opened .queued)).entries.length < 16 :=
  ⟨takes (by decide) (by decide), by decide⟩

/-- R97: the ticket, the entry and the answer of the first MOVE REQUEST. -/
theorem test_first_move :
    (after (req svc 1 .moveRequest [0#8, 2#8, 0#8]) (.moveRequest 1)).entries =
      [{ ent 1 2 .opened .queued with footprint := [1, 3] }] ∧
    ((after (req svc 1 .moveRequest [0#8, 2#8, 0#8]) (.moveRequest 1)).port 1).transmit =
      [.answer 0x82#8 7#16 .accepted [0#8, 1#8]] := by decide +kernel

/-- Four tickets stand in the queue of port 1, or sixteen entries in the table. -/
def crowded (queue entries : Nat) : State :=
  { svc with
    ports := svc.ports.modify 1 (fun q => { q with queue := List.range queue })
    entries := List.replicate entries (ent 5 1 .opened .queued) }

theorem witness_MoveRequestRefused :
    (∀ a : Fin 5, (req svc 1 .moveRequest [0#8, BitVec.ofNat 8 a, 0#8]).Takes 1 .moveRequest
      (frame .moveRequest [0#8, BitVec.ofNat 8 a, 0#8])) ∧
    decodeNumberTarget [0#8, 4#8, 0#8] = some (4, .opened) ∧ svc.appDesc 4 = none ∧
    (req { svc with mode := .frozen } 0 .moveRequest [0#8, 2#8, 0#8]).Takes 0 .moveRequest
      (frame .moveRequest [0#8, 2#8, 0#8]) ∧
    (req (svc.modPort 0 (fun q => { q with priority := 0 })) 0 .moveRequest [0#8, 2#8, 0#8]).Takes 0 .moveRequest
      (frame .moveRequest [0#8, 2#8, 0#8]) ∧
    substituted.substitutionOn 1 = true ∧ (live (ent 5 2 .opened .queued)).engaged 2 = true ∧
    (4 ≤ ((crowded 4 15).port 1).queue.length ∧ (crowded 4 15).engaged 2 = false) ∧
    (((crowded 3 16).port 1).queue.length < 4 ∧ 16 ≤ (crowded 3 16).entries.length) ∧
    (∀ m : Mode, (req { svc with mode := m } 0 .moveRequest [0#8, 2#8, 0#8]).Offers 0
      (frame .moveRequest [0#8, 2#8, 0#8])) ∧
    (frame .moveRequest [0#8, 2#8, 0#8]).isKind .moveRequest = true :=
  ⟨by intro a; fin_cases a <;> exact takes (by decide) (by decide), by decide, by decide,
    takes (by decide) (by decide), takes (by decide) (by decide), by decide, by decide, by decide, by decide,
    fun m => offers (by cases m <;> decide), by decide⟩

/-- A request that names ticket 5, held by one entry of port 1 in some state. -/
def asking (e : Entry) (k : RequestKind) (more : List Byte) : State := req (live e) 1 k ([0#8, 5#8] ++ more)

theorem witness_CancelActsByState (st : EntryState) :
    (asking (ent 5 2 .opened st) .cancel []).Takes 1 .cancel (frame .cancel [0#8, 5#8]) ∧
    decodeNumber16 [0#8, 5#8] = some 5 ∧ (live (ent 5 2 .opened st)).entry 5 = some (ent 5 2 .opened st) ∧
    (ent 5 2 .opened st).owner = 1 ∧ (ent 5 2 .opened st).state = st ∧ (ent 5 2 .opened st).programme = none ∧
    (asking (ent 5 2 .opened st) .cancel []).calmBut 5 := by
  cases st <;> exact ⟨takes (by decide) (by decide), by decide, by decide, by decide, by decide, by decide,
    calmBut_of (by decide)⟩

/-- Ticket 4 is an entry of port 0, 6 an ended item of port 1, 8 one of port 0 whose apparatus is not described, 9 a programme
and 7 nothing. -/
def naming : State :=
  { tickets with
    entries := [{ ent 4 2 .opened .queued with owner := 0 }]
    ended := [⟨6, 1, 1, .completed, some 10⟩, ⟨8, 0, 4, .completed, none⟩] }

/-- What the tickets of `naming` name (5.2). -/
theorem naming_tickets :
    ((naming.entry 4).map Entry.owner = some 0 ∧ (naming.port 1).role = .bay) ∧
    (∀ n : Fin 6, naming.entry (5 + n) = none) ∧
    ((naming.programme 9).isSome = true ∧ naming.programme 6 = none ∧ naming.programme 7 = none ∧
      naming.programme 8 = none) ∧
    ((naming.endedItem 6).map Ended.owner = some 1 ∧ (naming.endedItem 6).map Ended.apparatus = some 1 ∧
      (naming.appDesc 1).map AppDesc.port = some 1) ∧
    ((naming.endedItem 8).map Ended.owner = some 0 ∧ (naming.endedItem 8).map Ended.apparatus = some 4 ∧
      naming.appDesc 4 = none) ∧ naming.endedItem 7 = none := by decide

/-- The requests that name a ticket of `naming`. -/
theorem witness_CancelActsByState_ticket (n : Byte) :
    (req naming 1 .cancel [0#8, n]).Takes 1 .cancel (frame .cancel [0#8, n]) ∧ decodeNumber16 [0#8, 8#8] = some 8 :=
  ⟨takes_req _ (by decide), by decide⟩
theorem witness_AmendActsByState_ticket (n : Byte) :
    (req naming 1 .amend [0#8, n, 1#8]).Takes 1 .amend (frame .amend [0#8, n, 1#8]) ∧
    decodeNumberTarget [0#8, 8#8, 1#8] = some (8, .closed) := ⟨takes_req _ (by decide), by decide⟩
theorem witness_ExtendActsByState_ticket (n : Byte) :
    (req naming 1 .extend [0#8, n, 0#8, 1#8]).Takes 1 .extend (frame .extend [0#8, n, 0#8, 1#8]) ∧
    decodeExtend [0#8, 8#8, 0#8, 1#8] = some (8, 1) := ⟨takes_req _ (by decide), by decide⟩
theorem witness_RevokeAnswerActsByState_ticket (n : Byte) :
    (req naming 1 .revokeAnswer [0#8, n, 0#8]).Takes 1 .revokeAnswer (frame .revokeAnswer [0#8, n, 0#8]) ∧
    decodeRevokeAnswer [0#8, 8#8, 0#8] = some (8, .withdrawn) := ⟨takes_req _ (by decide), by decide⟩

/-- 5.2: the answers for an entry of another port, an ended item, one of another port, a programme and nothing. -/
theorem test_tickets :
    ([4#8, 6#8, 8#8, 7#8].map (fun n => codes (after (req naming 1 .cancel [0#8, n]) (.cancel 1)) 1) =
      [[.portRole], [.tooLate], [.portRole], [.unknownTicket]]) ∧
    ([6#8, 8#8, 9#8, 7#8].map (fun n => codes (after (req naming 1 .amend [0#8, n, 1#8]) (.amend 1)) 1) =
      [[.tooLate], [.portRole], [.notApplicable], [.unknownTicket]]) ∧
    ([4#8, 6#8, 8#8, 9#8, 7#8].map (fun n => codes (after (req naming 1 .extend [0#8, n, 0#8, 1#8]) (.extend 1)) 1) =
      [[.portRole], [.tooLate], [.portRole], [.notApplicable], [.unknownTicket]]) ∧
    ([6#8, 8#8, 9#8, 7#8].map (fun n => codes (after (req naming 1 .revokeAnswer [0#8, n, 0#8]) (.revokeAnswer 1)) 1) =
      [[.notApplicable], [.portRole], [.notApplicable], [.unknownTicket]]) := by decide +kernel

/-- R110: a CANCEL of a RELEASED entry revokes it and is answered first. -/
theorem test_cancel_released :
    ((after (asking (ent 5 2 .opened .released) .cancel []) (.cancel 1)).port 1).transmit =
      [.answer 0x84#8 7#16 .done [1#8, 5#8], .notice (.revoke 5 2)] := by decide +kernel

/-- Programme 9 in a state, its movement the entry 5. -/
def running (st : ProgrammeState) (e : EntryState) : State :=
  { live { ent 5 2 .opened e with programme := some (9, 1) } with
    programmes := [{ prog st with movement := some 5 }] }

/-- Programme 9 waiting, with no entry. -/
def waiting : State := { svc with programmes := [{ prog .waiting with waiting := some 0 }], waitingOrder := [9] }

theorem witness_CancelProgrammeActsByState :
    ((req waiting 1 .cancel [0#8, 9#8]).Takes 1 .cancel (frame .cancel [0#8, 9#8]) ∧ waiting.entry 9 = none ∧
      waiting.programme 9 = some { prog .waiting with waiting := some 0 } ∧ waiting.calmButProgramme 9) ∧
    (let s := { svc with programmes := [{ prog .running with owner := 0 }] }
     (req s 1 .cancel [0#8, 9#8]).Takes 1 .cancel (frame .cancel [0#8, 9#8]) ∧
       s.programme 9 = some { prog .running with owner := 0 } ∧ (s.port 1).role = .bay) ∧
    (let s := { svc with programmes := [prog .running] }
     (req s 1 .cancel [0#8, 9#8]).Takes 1 .cancel (frame .cancel [0#8, 9#8]) ∧ s.programme 9 = some (prog .running) ∧
       (prog .running).movement = none) ∧
    (req (running .stopping .travelling) 1 .cancel [0#8, 9#8]).Takes 1 .cancel (frame .cancel [0#8, 9#8]) :=
  ⟨⟨takes_req _ (by decide), by decide, by decide, calmButProgramme_of (by decide)⟩, ⟨takes_req _ (by decide), by decide⟩,
    ⟨takes_req _ (by decide), by decide⟩, takes_req _ (by decide)⟩

/-- A RUNNING programme whose movement stands in any state. -/
theorem witness_CancelProgrammeActsByState_running (st : EntryState) :
    let s := running .running st
    let e : Entry := { ent 5 2 .opened st with programme := some (9, 1) }
    (req s 1 .cancel [0#8, 9#8]).Takes 1 .cancel (frame .cancel [0#8, 9#8]) ∧ s.entry 9 = none ∧
    (s.programme 9).map (fun g => (g.owner, g.state, g.movement)) = some (1, .running, some 5) ∧ s.entry 5 = some e ∧
    s.reportingPort 2 = some 1 ∧ (s.port 1).state = .active ∧ s.calmBut 5 := by
  cases st <;> exact ⟨takes_req _ (by decide), by decide, by decide, by decide, by decide, by decide,
    calmBut_of (by decide)⟩

/-- R128, R131: the CANCEL of a programme whose movement is QUEUED ends both. -/
theorem test_cancel_programme :
    ((after (req (running .running .queued) 1 .cancel [0#8, 9#8]) (.cancel 1)).port 1).transmit =
      [.answer 0x84#8 7#16 .done [3#8], .notice (.movementEnded 5 .cancelled none),
        .notice (.programmeEnded 9 1 (some (.outcome .cancelled)))] := by decide +kernel

theorem witness_AmendActsByState (st : EntryState) :
    (asking (ent 5 2 .opened st) .amend [1#8]).Takes 1 .amend (frame .amend [0#8, 5#8, 1#8]) ∧
    decodeNumberTarget [0#8, 5#8, 1#8] = some (5, .closed) ∧ decodeNumberTarget [0#8, 5#8, 0#8] = some (5, .opened) ∧
    (live (ent 5 2 .opened st)).entry 5 = some (ent 5 2 .opened st) ∧ (ent 5 2 .opened st).target = .opened ∧
    (live (ent 5 2 .opened st)).muted 1 = false ∧ (ent 5 2 .opened st).cancelPending = false := by
  cases st <;> exact ⟨takes (by decide) (by decide), by decide⟩

theorem witness_ExtendActsByState :
    (∀ a : Fin 2, (asking { ent 5 2 .opened .travelling with deadline := some 48000 } .extend
        [0x2E#8, BitVec.ofNat 8 (0xE0 + a)]).Takes 1 .extend
      (frame .extend [0#8, 5#8, 0x2E#8, BitVec.ofNat 8 (0xE0 + a)])) ∧
    decodeExtend [0#8, 5#8, 0x2E#8, 0xE0#8] = some (5, 12000) ∧ decodeExtend [0#8, 5#8, 0x2E#8, 0xE1#8] = some (5, 12001) ∧
    decodeExtend [0#8, 5#8, 0#8, 0#8] = some (5, 0) ∧
    (asking (ent 5 2 .opened .queued) .extend [0#8, 1#8]).Takes 1 .extend (frame .extend [0#8, 5#8, 0#8, 1#8]) :=
  ⟨by intro a; fin_cases a <;> exact takes (by decide) (by decide), by decide, by decide, by decide,
    takes (by decide) (by decide)⟩

/-- R106: 480.00 s extended by 120.00 s reaches 600.00 s and is not clamped; by 120.01 s it is. -/
theorem test_extend_clamped :
    codes (after (asking { ent 5 2 .opened .travelling with deadline := some 48000 } .extend [0x2E#8, 0xE0#8]) (.extend 1)) 1 =
      [.done] ∧
    codes (after (asking { ent 5 2 .opened .travelling with deadline := some 48000 } .extend [0x2E#8, 0xE1#8]) (.extend 1)) 1 =
      [.clamped] := by decide +kernel

theorem witness_RevokeAnswerActsByState :
    (∀ r : Byte, (asking { ent 5 2 .opened .revoking with flavour := some .freeze } .revokeAnswer [r]).Takes 1
      .revokeAnswer (frame .revokeAnswer [0#8, 5#8, r])) ∧
    decodeRevokeAnswer [0#8, 5#8, 0#8] = some (5, .withdrawn) ∧ decodeRevokeAnswer [0#8, 5#8, 1#8] = some (5, .started) ∧
    (live { ent 5 2 .opened .revoking with flavour := some .freeze }).appDesc 2 =
      some ⟨2, .disconnector, 1, 3, 1, 500, 1000, Flags4.clear⟩ ∧
    (live { ent 5 2 .opened .revoking with flavour := some .freeze }).calm ∧
    (live { ent 5 2 .opened .revoking with flavour := some .cancel }).calm ∧
    ((live { ent 5 2 .opened .revoking with flavour := some .freeze }).port 1).queue.length < 4 ∧
    (live (ent 5 2 .opened .released)).mode = .service ∧
    (asking (ent 5 2 .opened .released) .revokeAnswer [0#8]).Takes 1 .revokeAnswer
      (frame .revokeAnswer [0#8, 5#8, 0#8]) :=
  ⟨fun _ => takes_req _ (by decide), by decide, by decide, by decide, calm_of (by decide), calm_of (by decide),
    by decide, by decide, takes_req _ (by decide)⟩

/-- A freeze-flavoured entry, or a cancelled one, in a mode of the freeze, and with four tickets in its owner's queue. -/
def freezing (m : Mode) (r : RevokeFlavour) (queue : List Nat) : State :=
  State.modPort { live { ent 5 2 .opened .revoking with flavour := some r } with mode := m } 1
    (fun q => { q with queue := queue })

theorem witness_RevokeAnswerActsByState_freeze :
    (∀ m r l, m = .freezing ∨ m = .frozen ∨ m = .service → (req (freezing m r l) 1 .revokeAnswer [0#8, 5#8, 0#8]).Takes 1
      .revokeAnswer (frame .revokeAnswer [0#8, 5#8, 0#8])) ∧
    (∀ r : RevokeFlavour, (freezing .freezing r []).entry 5 = some { ent 5 2 .opened .revoking with flavour := some r }) ∧
    (freezing .freezing .freeze []).heldBack { ent 5 2 .opened .revoking with flavour := some .freeze } = true ∧
    ((freezing .freezing .freeze []).muted 1 = false ∧ (freezing .freezing .freeze []).calm) ∧
    (freezing .freezing .cancel []).calm ∧
    (4 ≤ ((freezing .frozen .freeze [1, 2, 3, 4]).port 1).queue.length ∧ (freezing .frozen .freeze [1, 2, 3, 4]).calm ∧
      (ent 5 2 .opened .revoking).programme = none) := by
  refine ⟨?_, by intro r; cases r <;> decide, by decide, ⟨by decide, calm_of (by decide)⟩, calm_of (by decide),
    ⟨by decide, calm_of (by decide), by decide⟩⟩
  rintro m r l (rfl | rfl | rfl) <;> cases r <;> exact takes_req _ (by rfl)

/-- R154, R155: the last freeze-flavoured entry returns SUSPENDED and the freeze is complete; with a full queue it ends. -/
theorem test_freeze_return :
    (let t := after (req (freezing .freezing .freeze []) 1 .revokeAnswer [0#8, 5#8, 0#8]) (.revokeAnswer 1)
     t.entries.map Entry.state = [.suspended] ∧ t.mode = .frozen ∧ (t.port 1).queue = [5] ∧
       (t.port 0).transmit = [.notice (.modeChanged .freezing .frozen)]) ∧
    (after (req (freezing .frozen .freeze [1, 2, 3, 4]) 1 .revokeAnswer [0#8, 5#8, 0#8]) (.revokeAnswer 1)).ended.map
      Ended.outcome = [.refused .queueFull] := by decide +kernel

theorem witness_IssuedTicketIsFree :
    ({ svc with ticketCounter := 65535 } : State).tableLaw ∧ 1 ≤ ({ svc with ticketCounter := 65535 } : State).ticketCounter ∧
    ({ svc with ticketCounter := 65535 } : State).ticketCounter ≤ 65535 :=
  ⟨⟨by decide, by decide, by decide, by decide⟩, by decide, by decide⟩

/-- R94: the counter wraps from 65535 to 1, past a ticket that is taken. -/
theorem test_ticket_wraps :
    State.freeTicket { live (ent 65535 2 .opened .queued) with ticketCounter := 65535 } = 1 := by decide +kernel

theorem witness_EntryTimersExpire (st : EntryState) (c : DeferralCause) (r : RevokeFlavour) :
    let e : Entry := { ent 5 2 .opened st with deadline := some 0, cause := some c, flavour := some r }
    (live e).heldInReset = false ∧ (live e).entry 5 = some e ∧ e.deadline = some 0 ∧ e.programme = none ∧
    (live e).calmBut 5 ∧ (live e).mode ≠ .freezing ∧ e.state = st ∧ e.cause = some c ∧ e.flavour = some r ∧
    e.coupled = false ∧ ((live e).port 1).queue.length < 4 ∧ (live e).muted 1 = false ∧
    (∀ x ∈ (live e).entries, x.apparatus = e.apparatus → x.ticket = 5) := by
  cases st <;> cases c <;> cases r <;>
    exact ⟨by decide, by decide, by decide, by decide, calmBut_of (by decide), by decide⟩

/-- R103, R142: the travel deadline expires; with a full table the overflow mark is set, and with a standing INSPECT the
count rises no further than 255. -/
theorem test_travel_expiry :
    (let s := live { ent 5 2 .opened .travelling with deadline := some 0 }
     let full := (List.range' 1 64).map (fun i => (⟨i, .locked, 1, none, i, none⟩ : Restriction))
     (after { s with restrictions := full } (.travelDeadlineExpiry 5)).overflowMark 2 = true ∧
     (after { s with restrictions := [⟨3, .inspect, 2, none, 0, some 255⟩] } (.travelDeadlineExpiry 5)).restrictions =
       [⟨3, .inspect, 2, none, 0, some 255⟩]) := by decide +kernel

theorem witness_BlockedReleaseEnds :
    (live (ent 5 2 .opened .released)).entry 5 = some (ent 5 2 .opened .released) ∧
    (live (ent 5 2 .opened .released)).calm ∧ (live (ent 5 2 .opened .released)).mode ≠ .freezing ∧
    (live (ent 5 2 .opened .released)).reportingPort 2 = some 1 ∧
    ((live (ent 5 2 .opened .released)).port 1).state = .active :=
  ⟨by decide, calm_of (by decide), by decide⟩

/-- A report of a condition on apparatus 2 while its entry is RELEASED. -/
theorem witness_BlockedReleaseEnds_report :
    let s := live (ent 5 2 .opened .released)
    (item s 2#8 1#8 1#8).Takes 1 .positionReport (frame .positionReport [1#8, 1#8, 0#8, 2#8, 1#8, 1#8]) ∧
    decodeReport [1#8, 1#8, 0#8, 2#8, 1#8, 1#8] = some [.apparatus 2 .closed ⟨true, false, false, false⟩] ∧
    s.heldPassRunning = false ∧ (s.app 2).map (fun r => (r.effective, r.present)) = some (.closed, Flags4.clear) ∧
    (∃ c, (⟨true, false, false, false⟩ : Flags4).get c = true ∧ Flags4.clear.get c = false) ∧
    (∀ x ∈ s.entries, x.apparatus = 2 → x.ticket = 5) ∧ (ent 5 2 .opened .released).programme = none :=
  ⟨takes_req _ (by decide), by decide, by decide, by decide, ⟨.driveLockout, by decide⟩, by decide, by decide⟩

/-! ### Witnesses: programmes -/

theorem witness_ProgrammeAccepted :
    (req svc 1 .programmeRequest [1#8, 0#8, 2#8, 0#8, 0#8]).Takes 1 .programmeRequest
      (frame .programmeRequest [1#8, 0#8, 2#8, 0#8, 0#8]) ∧
    decodeProgramme [1#8, 0#8, 2#8, 0#8, 0#8] = some (⟨2, .opened, false, false⟩ :: []) ∧
    svc.tableLaw ∧ svc.ticketLaw ∧ svc.reportingPort 2 = some 1 ∧ (svc.port 1).priority ≠ 0 ∧
    svc.programmes.length < 8 ∧ svc.substitutionOn 2 = false ∧ svc.engaged 2 = false ∧
    (svc.port 1).queue.length < 4 ∧ svc.entries.length < 16 :=
  ⟨takes_req _ (by decide), by decide, ⟨by decide, by decide, by decide, by decide⟩,
    ⟨by decide, by decide, by decide⟩, by decide⟩

/-- The step is SKIP_IF_THERE, and disconnector 2 is there. -/
theorem witness_ProgrammeAccepted_skip :
    (req svc 1 .programmeRequest [1#8, 0#8, 2#8, 1#8, 1#8]).Takes 1 .programmeRequest
      (frame .programmeRequest [1#8, 0#8, 2#8, 1#8, 1#8]) ∧
    decodeProgramme [1#8, 0#8, 2#8, 1#8, 1#8] = some [⟨2, .closed, true, false⟩] ∧
    svc.alreadyThere ⟨2, .closed, true, false⟩ = true ∧ svc.calm ∧ (svc.port 1).state = .active :=
  ⟨takes_req _ (by decide), by decide, by decide, calm_of (by decide), by decide⟩

/-- Programme 9 has entry 5 on disconnector 2, SETTLING at its target, and a second step. -/
def stepping (more : List Step) : State :=
  { live { ent 5 2 .closed .settling with programme := some (9, 1), reach := some [3] } with
    programmes := [{ newProgramme 9 1 (⟨2, .closed, false, false⟩ :: more) with movement := some 5 }] }

/-- The programme goes on: no more steps, a step on a substituted, an engaged or a free apparatus, COUPLED or not. -/
theorem witness_ProgrammeAccepted_goes_on (more : List Step) :
    let s := stepping more
    let g : Programme := { newProgramme 9 1 (⟨2, .closed, false, false⟩ :: more) with movement := some 5 }
    let e : Entry := { ent 5 2 .closed .settling with programme := some (9, 1), reach := some [3] }
    s.programme 9 = some g ∧ (s.programmes.map Programme.ticket).Nodup ∧ s.entry 5 = some e ∧ e.owner = g.owner ∧
    g.state = .running ∧ g.waiting = none ∧ g.carry = none ∧ (s.port 1).state = .active ∧ s.calmBut 5 ∧ s.tableLaw ∧
    s.ticketLaw ∧ s.mode.isFreeze = false ∧ (∃ r, s.app 2 = some r ∧ r.effective = .closed) ∧
    s.substitutionOn 1 = false ∧ s.engaged 1 = false ∧ s.muted 1 = false ∧ (s.port 1).queue.length < 4 ∧
    s.alreadyThere ⟨1, .opened, true, true⟩ = false ∧ s.force.settings.deferralLimit ≠ 0 ∧
    g.steps[g.current]? = more[0]? := by
  refine ⟨by rfl, by simp [stepping], by rfl, rfl, rfl, rfl, rfl, rfl, calmBut_of ⟨?_, rfl⟩,
    ⟨(show 1 ≤ 16 by decide), (show svc.ended.length ≤ 16 by decide), (show 1 ≤ 8 by decide),
      (show svc.held.length ≤ 32 by decide)⟩,
    ⟨List.pairwise_singleton _ _, (show 1 ≤ (live (ent 5 2 .closed .settling)).ticketCounter by decide),
      (show (live (ent 5 2 .closed .settling)).ticketCounter ≤ 65535 by decide)⟩,
    rfl, ⟨_, rfl, rfl⟩, by rfl, by rfl, by rfl, (show (svc.port 1).queue.length < 4 by decide), by rfl,
    (show svc.force.settings.deferralLimit ≠ 0 by decide), by rfl⟩
  intro x hx hs
  simp only [stepping, live, List.mem_singleton] at hx
  subst hx
  cases hs

/-- Where the next apparatus is engaged or substituted, with a deferral limit of 0 too. -/
theorem witness_ProgrammeAccepted_stopped :
    (let s := { stepping [⟨1, .opened, false, true⟩] with
                  apps := [{ app 1 .closed with ticket := some 6 }, { app 2 .closed with ticket := some 5 }, app 3 .opened] }
     s.engaged 1 = true ∧ s.substitutionOn 1 = false) ∧
    State.substitutionOn { stepping [⟨1, .opened, false, true⟩] with substs := substituted.substs } 1 = true ∧
    ({ stepping [] with force := { yard with settings := { yard.settings with deferralLimit := 0 } } } : State).force.settings.deferralLimit =
      0 := by decide

/-- R129, R130: the COUPLED step takes over the reservation of the movement before it, and needs no queue place. -/
theorem test_coupled_step :
    let t := (stepping [⟨1, .opened, false, true⟩]).run [.retire 5 .completed]
    t.programmes.map (fun g => (g.current, g.movement, g.carry)) = [(2, some 6, some ⟨[1, 3], [3]⟩)] ∧
    t.coupled = [6] ∧ (t.port 1).queue = [] := by decide +kernel

/-- The body of a programme of `n` steps that close disconnector 2, the first with flags `f`. -/
def steps (n : Nat) (f : Byte) : List Byte :=
  BitVec.ofNat 8 n :: (([0#8, 2#8, 1#8, f] ++ (List.replicate (n - 1) [0#8, 2#8, 1#8, 0#8]).flatten).take (4 * n))

theorem witness_ProgrammeRefused :
    (∀ n : Fin 10, (req svc 0 .programmeRequest (steps n 0#8)).Takes 0 .programmeRequest
      (frame .programmeRequest (steps n 0#8))) ∧
    decodeProgramme (steps 0 0#8) = some [] ∧ (decodeProgramme (steps 8 0#8)).map List.length = some 8 ∧
    (decodeProgramme (steps 9 0#8)).map List.length = some 9 ∧
    decodeProgramme (steps 1 2#8) = some [⟨2, .closed, false, true⟩] ∧
    (svc.port 0).role = .supervisory ∧ (svc.port 1).role = .bay ∧ svc.appDesc 513 = none ∧
    8 ≤ ({ svc with programmes := List.replicate 8 (prog .running) } : State).programmes.length ∧
    (∀ m : Mode, (req { svc with mode := m } 0 .programmeRequest (steps 1 0#8)).Offers 0
      (frame .programmeRequest (steps 1 0#8))) :=
  ⟨by intro n; fin_cases n <;> exact takes (by decide) (by decide), by decide, by decide, by decide, by decide,
    by decide, by decide, by decide, by decide, fun m => offers (by cases m <;> decide)⟩

/-- The answers of PROGRAMME REQUEST with 0, 8 and 9 steps, and with step 1 COUPLED. -/
theorem test_programme_steps :
    codes (after (req svc 0 .programmeRequest (steps 0 0#8)) (.programmeRequest 0)) 0 = [.malformed] ∧
    codes (after (req svc 0 .programmeRequest (steps 8 0#8)) (.programmeRequest 0)) 0 = [.accepted] ∧
    codes (after (req svc 0 .programmeRequest (steps 9 0#8)) (.programmeRequest 0)) 0 = [.malformed] ∧
    codes (after (req svc 0 .programmeRequest (steps 1 2#8)) (.programmeRequest 0)) 0 = [.malformed] := by
  decide +kernel

theorem witness_WaitingProgrammeExpires :
    waiting.heldInReset = false ∧ waiting.programme 9 = some { prog .waiting with waiting := some 0 } ∧
    waiting.calmButProgramme 9 := ⟨by decide, by decide, calmButProgramme_of (by decide)⟩

/-! ### Witnesses: restrictions -/

theorem witness_RestrictionPlaced :
    (req svc 0 .placeRestriction [3#8, 0#8, 3#8, 0#8, 1#8]).Takes 0 .placeRestriction
      (frame .placeRestriction [3#8, 0#8, 3#8, 0#8, 1#8]) ∧
    decodePlace [3#8, 0#8, 3#8, 0#8, 1#8] = some (.workZone, 3, 1) ∧ (svc.nodeDesc 3).isSome = true ∧
    svc.restrictions = [] ∧ (∀ i, svc.releasedForbidden ⟨i, .workZone, 3, some 0, 1, none⟩ = []) :=
  ⟨takes_req _ (by decide), by decide, by decide, by decide, fun _ => rfl⟩

/-- A LOCKED restriction on an apparatus with a RELEASED entry, and a WORK_ZONE that forbids two. -/
theorem witness_RestrictionPlaced_forbids :
    (let s := live (ent 5 2 .opened .released)
     (req s 0 .placeRestriction [0#8, 0#8, 2#8, 0#8, 1#8]).Takes 0 .placeRestriction
       (frame .placeRestriction [0#8, 0#8, 2#8, 0#8, 1#8]) ∧
     decodePlace [0#8, 0#8, 2#8, 0#8, 1#8] = some (.locked, 2, 1) ∧ s.appDesc 2 ≠ none ∧
     (∀ i, s.releasedForbidden ⟨i, .locked, 2, some 0, 1, none⟩ = [5]) ∧ s.distinct ∧ s.calm ∧ s.mode ≠ .freezing ∧
     s.reportingPort 2 = some 1) ∧
    (let s := { svc with entries := [ent 5 1 .opened .released, ent 6 2 .opened .released] }
     (req s 0 .placeRestriction [3#8, 0#8, 1#8, 0#8, 1#8]).Takes 0 .placeRestriction
       (frame .placeRestriction [3#8, 0#8, 1#8, 0#8, 1#8]) ∧
     decodePlace [3#8, 0#8, 1#8, 0#8, 1#8] = some (.workZone, 1, 1) ∧
     (∀ i, s.releasedForbidden ⟨i, .workZone, 1, some 0, 1, none⟩ = [5, 6]) ∧ s.distinct ∧ s.calm) :=
  ⟨⟨takes_req _ (by decide), by decide, by decide, fun _ => by rfl, distinct_of (by decide), calm_of (by decide),
      by decide, by decide⟩,
    takes_req _ (by decide), by decide, fun _ => by rfl, distinct_of (by decide), calm_of (by decide)⟩

/-- R139: the RELEASED entry ends, and the answer waits for the write. -/
theorem test_place_forbids :
    let t := after (req (live (ent 5 2 .opened .released)) 0 .placeRestriction [0#8, 0#8, 2#8, 0#8, 1#8]) (.placeRestriction 0)
    t.entries = [] ∧ (t.port 0).transmit = [] ∧
    (t.port 1).transmit = [.notice (.revoke 5 2), .notice (.movementEnded 5 .blockedAfterRelease none)] := by
  decide +kernel

theorem witness_RestrictionRefused :
    (∀ k : Fin 5, (req restricted 0 .placeRestriction [BitVec.ofNat 8 k, 0#8, 2#8, 0#8, 7#8]).Takes 0 .placeRestriction
      (frame .placeRestriction [BitVec.ofNat 8 k, 0#8, 2#8, 0#8, 7#8])) ∧
    decodePlace [4#8, 0#8, 2#8, 0#8, 7#8] = some (.inspect, 2, 7) ∧
    decodePlace [0#8, 0#8, 2#8, 0#8, 7#8] = some (.locked, 2, 7) ∧
    (restricted.nodeDesc 0 = none ∧ restricted.appDesc 0 = none ∧ restricted.nodeDesc 256 = none) ∧
    (∃ r ∈ restricted.restrictions, r.kind = .locked ∧ r.target = 2 ∧ r.label = 7) ∧
    64 ≤ (List.replicate 64 (⟨64, .locked, 2, some 0, 7, none⟩ : Restriction)).length :=
  ⟨by intro k; fin_cases k <;> exact takes (by decide) (by decide), by decide, by decide, by decide, by decide, by decide⟩

/-- The answers of PLACE RESTRICTION, and the lowest free id. -/
theorem test_place :
    codes (after (req restricted 0 .placeRestriction [4#8, 0#8, 2#8, 0#8, 7#8]) (.placeRestriction 0)) 0 = [.outOfRange] ∧
    codes (after (req restricted 0 .placeRestriction [3#8, 0#8, 0#8, 0#8, 7#8]) (.placeRestriction 0)) 0 = [.unknownTarget] ∧
    codes (after (req restricted 0 .placeRestriction [0#8, 0#8, 2#8, 0#8, 7#8]) (.placeRestriction 0)) 0 = [.duplicate] ∧
    (after (req restricted 0 .placeRestriction [0#8, 0#8, 2#8, 0#8, 8#8]) (.placeRestriction 0)).restrictions.map
      Restriction.id = [1, 64] := by decide +kernel

/-- A write of an INSPECT waits behind one of a request. -/
def writing : State :=
  { svc with writes := [⟨.remove 64, some ⟨0, 0x0F#8, 7#16⟩⟩, ⟨.put ⟨1, .inspect, 2, none, 0, some 1⟩, none⟩] }

theorem witness_StorageWriteCompletes :
    writing.heldInReset = false ∧
    writing.writes = ⟨.remove 64, some ⟨0, 0x0F#8, 7#16⟩⟩ :: [⟨.put ⟨1, .inspect, 2, none, 0, some 1⟩, none⟩] ∧
    ({ writing with writes := writing.writes.drop 1 } : State).writes =
      ⟨.put ⟨1, .inspect, 2, none, 0, some 1⟩, none⟩ :: [] := by decide

/-! ### Witnesses: priorities and the freeze -/

theorem witness_PortPrioritySet :
    (∀ n v : Byte, (req svc 0 .setPortPriority [n, v]).Takes 0 .setPortPriority (frame .setPortPriority [n, v])) ∧
    decodePriority [24#8, 16#8] = some (24, 16) ∧ svc.ports.length = 24 ∧ (svc.port 23).role = .unused ∧
    (svc.port 1).role = .bay ∧ decodePriority [1#8, 0#8] = some (1, 0) ∧
    (svc.entries = [] ∧ svc.programmes = []) ∧
    (req (live (ent 5 2 .opened .queued)) 0 .setPortPriority [1#8, 0#8]).Takes 0 .setPortPriority
      (frame .setPortPriority [1#8, 0#8]) ∧
    (live (ent 5 2 .opened .queued)).entries.filter
      (fun x => x.owner == 1 && (x.state == .queued || x.state == .deferred)) = [ent 5 2 .opened .queued] ∧
    (live (ent 5 2 .opened .queued)).calmBut 5 :=
  ⟨fun _ _ => takes_req _ (by decide), by decide, by decide, by decide, by decide, by decide, by decide,
    takes_req _ (by decide), by decide, calmBut_of (by decide)⟩

/-- Two entries of port 1 wait, one QUEUED and one DEFERRED. -/
def queueing : State :=
  State.modPort { svc with
    entries := [ent 5 1 .opened .queued, ent 6 2 .opened .deferred]
    apps := [{ app 1 .closed with ticket := some 5 }, { app 2 .closed with ticket := some 6 }, app 3 .opened] } 1
    (fun q => { q with queue := [6, 5] })

theorem witness_PortPrioritySet_several :
    (req queueing 0 .setPortPriority [1#8, 0#8]).Takes 0 .setPortPriority (frame .setPortPriority [1#8, 0#8]) ∧
    queueing.distinct ∧ queueing.waitingOrder = [] ∧ queueing.programmes = [] ∧
    (∀ e ∈ queueing.entries, e.programme = none) ∧ (∀ e ∈ queueing.entries, e.state = .deferred → e.owner = 1) ∧
    (queueing.entries.filter (fun x => x.owner == 1 && (x.state == .queued || x.state == .deferred))).length = 2 ∧
    queueing.ports.length = 24 :=
  ⟨takes_req _ (by decide), distinct_of (by decide), by decide⟩

/-- And a programme of port 1 waits. -/
def queueingToo : State := { queueing with programmes := [{ prog .waiting with waiting := some 100 }], waitingOrder := [9] }

theorem witness_PortPrioritySet_waiting :
    (req queueingToo 0 .setPortPriority [1#8, 0#8]).Takes 0 .setPortPriority (frame .setPortPriority [1#8, 0#8]) ∧
    queueingToo.distinct ∧ (queueingToo.programmes.map Programme.ticket).Nodup ∧ queueingToo.programmes.length ≤ 8 ∧
    (∀ g ∈ queueingToo.programmes, g.carry = none) ∧
    (∀ x ∈ queueingToo.waitingOrder, ∃ g ∈ queueingToo.programmes, g.ticket = x ∧ g.owner = 1 ∧ g.state = .waiting) ∧
    (queueingToo.port 1).state = .active :=
  ⟨takes_req _ (by decide), distinct_of (by decide), by decide⟩

/-- R133: the WAITING programme stops REFUSED(PORT_MUTED). -/
theorem test_mute_programme :
    (after (req queueingToo 0 .setPortPriority [1#8, 0#8]) (.setPortPriority 0)).programmes = [] ∧
    Outgoing.notice (.programmeEnded 9 1 (some (.outcome (.refused .portMuted)))) ∈
      ((after (req queueingToo 0 .setPortPriority [1#8, 0#8]) (.setPortPriority 0)).port 1).transmit := by decide +kernel

/-- R75: both end REFUSED(PORT_MUTED). -/
theorem test_mute_several :
    (after (req queueing 0 .setPortPriority [1#8, 0#8]) (.setPortPriority 0)).ended.map Ended.outcome =
      [.refused .portMuted, .refused .portMuted] := by decide +kernel

/-- R74: 15 stands and 16 is clamped. -/
theorem test_priority :
    codes (after (req svc 0 .setPortPriority [1#8, 15#8]) (.setPortPriority 0)) 0 = [.done] ∧
    codes (after (req svc 0 .setPortPriority [1#8, 16#8]) (.setPortPriority 0)) 0 = [.clamped] ∧
    codes (after (req svc 0 .setPortPriority [24#8, 1#8]) (.setPortPriority 0)) 0 = [.outOfRange] ∧
    codes (after (req svc 0 .setPortPriority [23#8, 1#8]) (.setPortPriority 0)) 0 = [.notApplicable] := by decide +kernel

theorem witness_FreezeActs (st : EntryState) :
    (req (live (ent 5 2 .opened st)) 0 .freeze []).Takes 0 .freeze (frame .freeze []) ∧
    (live (ent 5 2 .opened st)).distinct ∧ (live (ent 5 2 .opened st)).mode = .service ∧
    (live (ent 5 2 .opened st)).heldBack (ent 5 2 .opened st) = true ∧
    (live (ent 5 1 .opened st)).heldBack (ent 5 1 .opened st) = false ∧
    (req { svc with mode := .freezing } 0 .freeze []).Takes 0 .freeze (frame .freeze []) := by
  cases st <;> exact ⟨takes (by decide) (by decide), distinct_of (by decide), by decide, by decide, by decide,
    takes (by decide) (by decide)⟩

/-- R150, R155: with nothing held back the freeze is complete at once, and its answer comes before both notices. -/
theorem test_freeze_at_once :
    ((after (req svc 0 .freeze []) (.freeze 0)).port 0).transmit =
      [.answer 0x96#8 7#16 .done [4#8], .notice (.modeChanged .service .freezing),
        .notice (.modeChanged .freezing .frozen)] := by decide +kernel

theorem witness_ThawActs :
    (req svc 0 .thaw []).Takes 0 .thaw (frame .thaw []) ∧
    (req { live (ent 5 2 .opened .suspended) with mode := .frozen } 0 .thaw []).Takes 0 .thaw (frame .thaw []) ∧
    ({ live (ent 5 2 .opened .suspended) with mode := .frozen } : State).distinct ∧
    ({ live (ent 5 2 .opened .suspended) with mode := .frozen } : State).muted 1 = false ∧
    (let s := State.modPort { live (ent 5 2 .opened .suspended) with mode := .frozen } 1 (fun q => { q with priority := 0 })
     (req s 0 .thaw []).Takes 0 .thaw (frame .thaw []) ∧ s.muted 1 = true ∧ s.distinct ∧ s.calm ∧
       (∀ x ∈ s.entries, x.state = .suspended → x.ticket = 5) ∧ (ent 5 2 .opened .suspended).programme = none) :=
  ⟨takes_req _ (by decide), takes_req _ (by decide), distinct_of (by decide), by decide,
    takes_req _ (by decide), by decide, distinct_of (by decide), calm_of (by decide), by decide⟩

/-! ### Witnesses: maintenance and resets -/

theorem witness_MaintenanceEntered :
    (req svc 0 .enterMaintenance []).Takes 0 .enterMaintenance (frame .enterMaintenance []) ∧
    (req { svc with mode := .frozen } 0 .enterMaintenance []).Takes 0 .enterMaintenance (frame .enterMaintenance []) ∧
    svc.entries = [] ∧ svc.programmes = [] ∧ (live (ent 5 2 .opened .queued)).entries ≠ [] ∧
    (req (live (ent 5 2 .opened .queued)) 0 .enterMaintenance []).Takes 0 .enterMaintenance
      (frame .enterMaintenance []) :=
  ⟨takes (by decide) (by decide), takes (by decide) (by decide), by decide, by decide, by decide,
    takes (by decide) (by decide)⟩

/-- The yard in MAINTENANCE, verified. -/
def maint : State := { svc with mode := .maintenance, written := [2] }

theorem witness_MaintenanceLeft :
    (req maint 0 .leaveMaintenance []).Takes 0 .leaveMaintenance (frame .leaveMaintenance []) ∧
    maint.ports.length = 24 ∧ maint.store.ports.length = 24 ∧ maint.verified = true ∧ maint.validation = none ∧
    (∃ d ∈ maint.store.nodes, d.measured = true) ∧ (maint.port 0).role = .supervisory ∧ (maint.port 0).state = .active ∧
    (∃ d ∈ maint.store.apparatus, d.number ∈ maint.written) ∧ (∃ d ∈ maint.store.apparatus, d.number ∉ maint.written) ∧
    (req { maint with verified := false } 0 .leaveMaintenance []).Takes 0 .leaveMaintenance
      (frame .leaveMaintenance []) :=
  ⟨takes (by decide) (by decide), by decide, by decide, by decide, by decide, by decide, by decide, by decide, by decide,
    by decide, takes (by decide) (by decide)⟩

/-- R28, R177: the node records start anew, and port 0 gets the notice. -/
theorem test_maintenance_left :
    let t := after (req maint 0 .leaveMaintenance []) (.leaveMaintenance 0)
    t.nodes = [NodeLive.fresh 1, NodeLive.fresh 2] ∧
    (t.port 0).transmit = [.answer 0x99#8 7#16 .done [], .notice (.modeChanged .maintenance .gathering)] := by
  decide +kernel

/-- A LOAD YARD body is asked for at port 0. -/
def Loads (b : List Byte) (o : YardOp) : Prop :=
  (req maint 0 .loadYard b).Takes 0 .loadYard (frame .loadYard b) ∧ decodeYard b = some o

theorem loads {b : List Byte} {o : YardOp} (h : decodeYard b = some o) : Loads b o := by
  refine ⟨?_, h⟩
  exact { running := rfl, listed := (show 0 < 24 from by decide), used := (fun x => by cases x), free := rfl, head := rfl
          kind := rfl, role := rfl, mode := rfl }

theorem witness_YardLoaded :
    Loads [1#8, 0#8, 255#8, 0#8, 1#8, 23#8] (.writeNode 255 .busbar true 23) ∧
    Loads [1#8, 0#8, 1#8, 0#8, 0#8, 255#8] (.writeNode 1 .busbar false 255) ∧
    Loads [2#8, 0#8, 3#8] (.removeNode 3) ∧
    Loads [3#8, 2#8, 0#8, 2#8, 0#8, 255#8, 0#8, 0#8, 23#8, 0#8, 0#8, 255#8, 255#8, 0x0F#8]
      (.writeApparatus ⟨512, .earthSwitch, 255, 0, 23, 0, 65535, ⟨true, true, true, true⟩⟩) ∧
    Loads [4#8, 0#8, 3#8] (.removeApparatus 3) ∧
    Loads [5#8, 23#8, 1#8, 16#8, 0#8, 99#8] (.writePort 23 ⟨.bay, 16, 99⟩) ∧
    Loads [6#8, 1#8, 44#8, 0#8, 50#8, 8#8, 0#8, 10#8, 0#8, 0#8, 3#8, 232#8]
      (.writeSettings ⟨300, 50, 8, 10, 0, 1000⟩) ∧
    (∃ d ∈ maint.store.nodes, d.number = 3) ∧ (∃ d ∈ maint.store.apparatus, d.number = 3) :=
  ⟨loads (by decide), loads (by decide), loads (by decide), loads (by decide), loads (by decide), loads (by decide),
    loads (by decide), by decide, by decide⟩

theorem witness_YardLoadRefused :
    Loads [1#8, 1#8, 0#8, 0#8, 1#8, 1#8] (.writeNode 256 .busbar true 1) ∧
    Loads [1#8, 0#8, 0#8, 0#8, 1#8, 1#8] (.writeNode 0 .busbar true 1) ∧
    Loads [1#8, 0#8, 1#8, 0#8, 1#8, 24#8] (.writeNode 1 .busbar true 24) ∧
    Loads [1#8, 0#8, 1#8, 0#8, 1#8, 254#8] (.writeNode 1 .busbar true 254) ∧
    Loads [2#8, 1#8, 0#8] (.removeNode 256) ∧ Loads [2#8, 0#8, 4#8] (.removeNode 4) ∧
    Loads [3#8, 2#8, 1#8, 2#8, 0#8, 1#8, 0#8, 0#8, 1#8, 0#8, 50#8, 0#8, 100#8, 0#8]
      (.writeApparatus ⟨513, .earthSwitch, 1, 0, 1, 50, 100, Flags4.clear⟩) ∧
    Loads [4#8, 2#8, 1#8] (.removeApparatus 513) ∧ Loads [4#8, 0#8, 4#8] (.removeApparatus 4) ∧
    Loads [5#8, 24#8, 1#8, 0#8, 0#8, 100#8] (.writePort 24 ⟨.bay, 0, 100⟩) :=
  ⟨loads (by decide), loads (by decide), loads (by decide), loads (by decide), loads (by decide), loads (by decide),
    loads (by decide), loads (by decide), loads (by decide), loads (by decide)⟩

/-- A validation of the yard at a cursor. -/
def checking (c : Cursor) (x : Option Failure) : State :=
  { maint with validation := some ⟨c, x, false, some ⟨0, 0x1B#8, 7#16⟩⟩ }

theorem witness_ValidationRuns :
    (req maint 0 .commitYard []).Takes 0 .commitYard (frame .commitYard []) ∧ maint.validation = none ∧
    (req (checking (.ports 0) none) 0 .commitYard []).Takes 0 .commitYard (frame .commitYard []) ∧
    ((checking (.ports 22) none).validation.map Validation.cursor = some (.ports 22) ∧
      (checking (.ports 22) none).heldInReset = false) ∧
    (∀ d ∈ ({ checking (.ports 23) none with store := factoryYard } : State).store.ports, d.role ≠ .supervisory) ∧
    (∃ d ∈ (checking (.ports 23) none).store.ports, d.role = .supervisory) ∧
    (checking (.restrictions 0) none).nextRecord (.restrictions 0) = none ∧
    (checking (.ports 24) (some ⟨.port, 23, .noSupervisoryPort⟩)).validation.bind Validation.failure =
      some ⟨.port, 23, .noSupervisoryPort⟩ :=
  ⟨takes_req _ (by decide), by decide, takes_req _ (by decide), by decide⟩

/-- The records that follow a cursor at nodes, apparatus and restrictions, and an end that is disturbed or answered to
nobody. -/
theorem witness_ValidationRuns_records :
    (yard.nodes.find? (fun d => decide (0 < d.number))).isSome = true ∧
    (yard.nodes.find? (fun d => decide (2 < d.number))).isSome = true ∧
    yard.nodes.find? (fun d => decide (3 < d.number)) = none ∧
    (yard.apparatus.find? (fun d => decide (0 < d.number))).isSome = true ∧
    (yard.apparatus.find? (fun d => decide (2 < d.number))).isSome = true ∧
    yard.apparatus.find? (fun d => decide (3 < d.number)) = none ∧
    (restricted.restrictions.find? (fun r => decide (0 < r.id))).isSome = true ∧
    (restricted.restrictions.find? (fun r => decide (63 < r.id))).isSome = true ∧
    (let s : State := { maint with validation := some ⟨.restrictions 64, none, true, some ⟨0, 0x1B#8, 7#16⟩⟩ }
     s.heldInReset = false ∧ s.nextRecord (.restrictions 64) = none) ∧
    (let s : State := { maint with validation := some ⟨.restrictions 64, none, false, none⟩ }
     s.heldInReset = false ∧ s.nextRecord (.restrictions 64) = none) := by decide

/-- R183: the failures of records, one of each kind. -/
theorem test_record_checks :
    maint.checkNode ⟨4, .terminal, false, none⟩ = some .unmeasuredTerminal ∧
    maint.checkNode ⟨4, .busbar, true, some 0⟩ = some .notBayPort ∧
    maint.checkApparatus ⟨4, .breaker, 1, 9, 1, 50, 100, Flags4.clear⟩ = some .undeclaredNode ∧
    maint.checkApparatus ⟨4, .breaker, 1, 1, 1, 50, 100, Flags4.clear⟩ = some .terminalRule ∧
    maint.checkApparatus ⟨4, .earthSwitch, 1, 0, 0, 50, 100, Flags4.clear⟩ = some .notBayPort ∧
    maint.checkRestriction ⟨1, .workZone, 9, none, 0, none⟩ = some .unknownTarget := by decide

theorem witness_RestartActs :
    (req svc 0 .restart []).Takes 0 .restart (frame .restart []) ∧ svc.heldInReset = false ∧
    svc.commandedDue = false ∧ ({ svc with commandedDue := true } : State).heldInReset = false :=
  ⟨takes (by decide) (by decide), by decide⟩

/-- R178: the reset count saturates at 255. -/
theorem test_reset_count :
    (after { svc with commandedDue := true, restartRecord := ⟨.commanded, none, 255⟩ } .commanded).restartRecord =
      ⟨.commanded, some .service, 255⟩ := by decide +kernel

theorem witness_ResetValues :
    (svc.lineAsserted = false ∧ svc.supplyGood = true) ∧
    ({ svc with lineAsserted := true } : State).lineAsserted = true := by decide

theorem witness_ModeTimersExpire :
    (let s : State := { svc with mode := .restarting, restartTimer := some 0 }
     s.heldInReset = false ∧ s.verified = true ∧ s.ports.length = 24 ∧ s.store.ports.length = 24 ∧
       (∃ d, s.store.ports[1]? = some d ∧ (s.port 1).role = d.role) ∧ (s.port 0).role = .supervisory ∧
       (s.port 0).state = .active) ∧
    (let s : State := { svc with mode := .restarting, restartTimer := some 0, verified := false,
                                 store := { yard with ports := yard.ports.set 1 ⟨.supervisory, 5, 500⟩ } }
     s.heldInReset = false ∧ (∃ d ∈ s.store.ports, d.role = .supervisory) ∧
       ∃ d, s.store.ports[1]? = some d ∧ (s.port 1).role ≠ d.role) ∧
    (let s : State := { State.reset with restartTimer := some 0 }
     s.heldInReset = false ∧ s.mode = .restarting ∧ s.verified = false ∧ s.ports.length = 24 ∧
       s.store.ports.length = 24 ∧ ∀ d ∈ s.store.ports, d.role ≠ .supervisory) ∧
    (let s : State := { svc with mode := .gathering, gatheringTimer := some 0 }
     s.heldInReset = false ∧ s.freezeCarried = false) := by
  refine ⟨⟨by decide, by decide, by decide, by decide, ⟨_, rfl, by decide⟩, by decide, by decide⟩,
    ⟨by decide, by decide, ⟨_, rfl, by decide⟩⟩, by decide, by decide⟩

/-- Port `p` has been silent for its limit. -/
def silent (p : Nat) : State := svc.modPort p (fun q => { q with silenceTimer := some 0 })

theorem witness_PortLossActs :
    ((silent 0).heldInReset = false ∧ 0 < (silent 0).ports.length ∧ ((silent 0).port 0).state = .active ∧
      ((silent 0).port 0).silenceTimer = some 0 ∧ ((silent 0).port 0).restarting = false ∧
      ((silent 0).port 0).role = .supervisory) ∧
    ((silent 1).heldInReset = false ∧ 1 < (silent 1).ports.length ∧ ((silent 1).port 1).state = .active ∧
      ((silent 1).port 1).silenceTimer = some 0 ∧ ((silent 1).port 1).restarting = false ∧
      ((silent 1).port 1).role = .bay) ∧
    (let s := { silent 1 with held := [⟨.apparatus 1, .apparatus .opened none 0⟩, ⟨.node 1, .node .dead none 0⟩] }
     s.heldFor (.apparatus 1) = some ⟨.apparatus 1, .apparatus .opened none 0⟩ ∧
       s.heldFor (.node 1) = some ⟨.node 1, .node .dead none 0⟩) := by decide

/-- The lost port 1 owns one entry, reports for another, and has programmes. -/
def losing : State :=
  { silent 1 with
    entries := [ent 5 1 .opened .released, { ent 6 2 .opened .deferred with owner := 0 }, ent 7 3 .closed .settling]
    apps := [{ app 1 .closed with ticket := some 5 }, { app 2 .closed with ticket := some 6 },
      { app 3 .opened with ticket := some 7 }] }

theorem witness_PortLossActs_tables :
    (losing.distinct ∧ (losing.force.apparatus.map AppDesc.number).Nodup ∧ losing.programmes = [] ∧ losing.waitingOrder = [] ∧ losing.evaluation = none ∧
      losing.entries.length ≤ 16 ∧ (∀ e ∈ losing.entries, e.programme = none) ∧
      (∀ e ∈ losing.entries, e.state = .deferred → losing.reportingPort e.apparatus = some 1 ∧
        losing.muted e.owner = false)) ∧
    (let s := { silent 1 with programmes := [prog .running, { prog .waiting with ticket := 10 }], waitingOrder := [10] }
     s.entries = [] ∧ (s.programmes.map Programme.ticket).Nodup ∧ s.programmes.length ≤ 8 ∧ s.waitingOrder.length ≤ 8 ∧
       ∀ x ∈ s.waitingOrder, ∃ g, s.programme x = some g ∧ g.owner = 1) := by
  refine ⟨⟨distinct_of (by decide), by decide⟩, by decide, by decide, by decide, by decide, ?_⟩
  intro x hx
  cases List.mem_singleton.1 hx
  exact ⟨_, rfl, rfl⟩

/-- The entry that port 1 owns is EVALUATING. -/
def losingEvaluation : State :=
  { losing with
    entries := [ent 5 1 .opened .evaluating]
    evaluation := some { losing.newEvaluation (ent 5 1 .opened .evaluating) with stage := .permitted [] } }

theorem witness_PortLossActs_evaluation :
    losingEvaluation.distinct ∧ (losingEvaluation.force.apparatus.map AppDesc.number).Nodup ∧
    losingEvaluation.programmes = [] ∧ losingEvaluation.waitingOrder = [] ∧
    losingEvaluation.evaluation.map Evaluation.ticket = some 5 ∧
    (∀ e ∈ losingEvaluation.entries, e.ticket = 5 ∧ e.owner = 1 ∧ e.state ≠ .settling ∧ e.programme = none) :=
  ⟨distinct_of (by decide), by decide⟩

/-- R80: the evaluation ends with its entry. -/
theorem test_port_loss_evaluation :
    (after losingEvaluation (.portLoss 1)).evaluation = none ∧
    (after losingEvaluation (.portLoss 1)).ended.map Ended.outcome = [.portLost] := by decide +kernel

/-- Port 0 is lost in FREEZING with the answer of its RESTART unsent, and its entry is the last that is held back. -/
def restarting : State :=
  { silent 0 with
    mode := .freezing, entries := [{ ent 5 2 .opened .revoking with owner := 0, flavour := some .freeze }]
    ports := (silent 0).ports.modify 0 (fun q =>
      { q with inProgress := some { kind := 0x9A#8, tag := 7#16, inList := true, restart := true } }) }

theorem witness_PortLossActs_restart :
    restarting.heldInReset = false ∧ 0 < restarting.ports.length ∧ (restarting.port 0).state = .active ∧
    (restarting.port 0).silenceTimer = some 0 ∧ (restarting.port 0).restarting = true := by decide

/-- R185: the reset is taken in the loss event, with the mode that the loss left (log 35). -/
theorem test_port_loss_restart :
    (after restarting (.portLoss 0)).mode = .restarting ∧
    (after restarting (.portLoss 0)).restartRecord.cause = .commanded ∧
    (after restarting (.portLoss 0)).restartRecord.modeAtReset = some .frozen ∧
    (after restarting (.portLoss 0)).freezeCarried = true := by decide +kernel

/-- R115, R134: entries and programmes end PORT_LOST; the SETTLING entry stays. -/
theorem test_port_loss :
    (after losing (.portLoss 1)).entries.map Entry.ticket = [7] ∧
    (after losing (.portLoss 1)).ended.map (fun x => (x.ticket, x.outcome)) = [(5, .portLost), (6, .portLost)] ∧
    ((after losing (.portLoss 1)).port 0).transmit = [.notice (.movementEnded 6 .portLost none)] := by decide +kernel

/-! ### Witnesses: passes, grant, evaluation -/

theorem witness_NodeTakenUp :
    svc.heldInReset = false ∧ ({ svc with pass := some passing } : State).pass = some passing ∧
    passing.reached.find? (fun m => !passing.takenUp.contains m) = some 1 ∧
    (∃ d ∈ svc.force.apparatus, d.a = 1 ∨ d.b = 1) ∧ (svc.nodeDesc 1).map NodeDesc.measured = some true ∧
    (svc.node 1).isSome = true ∧ (svc.force.apparatus.map AppDesc.number).Nodup := by decide

/-- The last take-up of the component of nodes 1, 2 and 3. -/
def exploring : Pass :=
  { passing with
    takenUp := [0, 1, 2], readApps := [⟨3, .opened, false⟩, ⟨1, .closed, false⟩, ⟨2, .closed, false⟩]
    readNodes := [⟨1, .live, false⟩, ⟨2, .live, false⟩] }

theorem witness_NodeTakenUp_explored :
    (svc.nodeDesc 3).map NodeDesc.measured = some false ∧
    exploring.reached.find? (fun m => !exploring.takenUp.contains m) = some 3 ∧
    (∀ m ∈ exploring.reached, m ∈ exploring.takenUp ++ [3]) ∧
    (∀ r ∈ exploring.readApps, r.position = .closed → ∀ d ∈ svc.force.apparatus, d.number = r.number →
      (d.a ∈ exploring.reached ↔ d.b ∈ exploring.reached)) := by decide

/-- R36: the take-up of node 2 adds its class to the read set, and that of node 3, which is not measured, adds none. -/
theorem test_take_up_reads :
    (let w : Pass := { exploring with takenUp := [0, 1], readNodes := [⟨1, .live, false⟩] }
     (after { svc with pass := some w } .passTakeUp).pass.map Pass.readNodes =
       some [⟨1, .live, false⟩, ⟨2, .live, false⟩]) ∧
    (after { svc with pass := some exploring } .passTakeUp).pass.map Pass.readNodes =
      some [⟨1, .live, false⟩, ⟨2, .live, false⟩] := by decide +kernel

/-- R35 to R37, R43: four take-ups from a fresh pass publish one live component and node 0. -/
theorem test_pass :
    (after (after (after (after (after (svc.startPass false) .passTakeUp) .passTakeUp) .passTakeUp) .passTakeUp)
      .publication).published = svc.published := by decide +kernel

theorem witness_PassPublishes :
    svc.heldInReset = false ∧ (complete false).next = none ∧ (complete true).next = none ∧
    (complete false).held = false ∧ (complete true).held = true ∧
    (∃ x ∈ (complete false).readApps, x.number = 1 ∧ x.stale = false) ∧ svc.heldFor (.apparatus 1) = none ∧
    (∀ x ∈ (complete false).readNodes, x.number = 1 → x.stale = true) ∧
    ((∃ x ∈ (complete false).readNodes, x.number = 2 ∧ x.stale = false) ∧ svc.heldFor (.node 2) = none) := by decide

/-- The end of a held pass with a held entry of an apparatus and of a node. -/
theorem witness_PassPublishes_held :
    let s := holding [⟨.apparatus 1, .apparatus .opened none 0⟩, ⟨.node 1, .node .live (some .dead) 0⟩]
    s.pass = some (complete true) ∧ (s.held.map HeldEntry.target).Nodup ∧ s.app 1 = some (app 1 .closed) ∧
    s.node 1 = some (node 1 .live) ∧
    (s.heldFor (.apparatus 2) = none ∧ ∀ x ∈ (complete true).readApps, x.number = 2 → x.stale = true) ∧
    (s.heldFor (.apparatus 3) = none ∧ ∃ x ∈ (complete true).readApps, x.number = 3 ∧ x.stale = false) ∧
    (s.heldFor (.node 2) = none ∧ ∃ x ∈ (complete true).readNodes, x.number = 2 ∧ x.stale = false) ∧
    (holding []).heldFor (.node 1) = none ∧ ∀ x ∈ (complete true).readNodes, x.number = 1 → x.stale = true := by decide

/-- R46: the held entries are applied, and a new pass starts. -/
theorem test_held_applied :
    let s := holding [⟨.apparatus 1, .apparatus .opened none 0⟩, ⟨.node 1, .node .live (some .dead) 0⟩]
    let t := after s .endOfHeldPass
    t.held = [] ∧ (t.app 1).map (fun r => (r.reported, r.marker)) = some (.opened, true) ∧
    (t.node 1).map NodeLive.effective = some .dead ∧ t.pass = some (freshPass false) ∧
    t.substs = [⟨.node 1, .cls .dead, 0⟩] := by decide +kernel

/-- A complete pass has read apparatus `a`, whose entry is SETTLING with its marker set, at a position. -/
def settling (a : Nat) (pos : Pos) : State :=
  { live (ent 5 a .opened .settling) with
    pass := some { complete false with readApps := [⟨1, pos, false⟩, ⟨2, pos, false⟩, ⟨3, .opened, false⟩] }
    apps := [1, 2, 3].map (fun n => { app n pos with marker := true, ticket := if n = a then some 5 else none }) }

/-- What is handed on: DEFERRED entries, a SETTLING entry at its target or not, and the end of gathering. -/
theorem witness_PassPublishes_handed_on :
    (let s := { live (ent 5 2 .opened .deferred) with pass := some (complete false) }
     s.distinct ∧ s.mode = .service ∧ s.waitingOrder = [] ∧
       ∀ e ∈ s.entries, e.state = .deferred → s.muted e.owner = false) ∧
    (∀ a : Fin 2, ∀ pos, pos = Pos.opened ∨ pos = .closed →
      let s := settling (a + 1) pos
      let e := ent 5 (a + 1) .opened .settling
      s.entry 5 = some e ∧ e.programme = none ∧ s.heldFor (.apparatus (a + 1)) = none ∧
      (s.app (a + 1)).map (fun r => (r.effective, r.marker)) = some (pos, true) ∧ s.calm ∧ s.mode = .service ∧
      (∀ x ∈ s.entries, x.state = .settling → x.ticket = 5) ∧
      (∀ x ∈ s.entries, x.apparatus = a + 1 → x.ticket = 5)) ∧
    (Unbidden .disconnector .opened .closed ∧ Trip .breaker .closed .opened) ∧
    (let s := { svc with mode := .gathering, gatheringTimer := some 9, pass := some (complete false) }
     s.mode = .gathering ∧ s.entries = [] ∧ s.waitingOrder = [] ∧
       (∀ d ∈ s.force.apparatus, ∃ x ∈ (complete false).readApps, x.number = d.number ∧ x.position ≠ .unknown) ∧
       ∀ d ∈ s.force.nodes, d.measured = true →
         ∃ x ∈ (complete false).readNodes, x.number = d.number ∧ x.cls ≠ .unknown) := by
  refine ⟨⟨distinct_of (by decide), by decide⟩, ?_, ⟨by unfold Unbidden; decide, by unfold Trip; decide⟩, by decide⟩
  rintro a pos (rfl | rfl) <;> fin_cases a <;>
    exact ⟨by decide, by decide, by decide, by decide, calm_of (by decide), by decide⟩

/-- R24, R107, R142: a movement settled elsewhere ends COMPLETED and is judged: disconnector 2 gets an INSPECT. -/
theorem test_settled :
    (after (settling 2 .opened) .publication).restrictions = [] ∧
    (after (settling 2 .opened) .publication).ended.map Ended.outcome = [.completed] ∧
    (after (settling 2 .closed) .publication).restrictions.map Restriction.target = [2] ∧
    (after { svc with mode := .gathering, gatheringTimer := some 9, pass := some (complete false) } .publication).mode =
      .service := by decide +kernel

theorem witness_GrantChooses :
    (live (ent 5 2 .opened .queued)).heldInReset = false ∧ (live (ent 5 2 .opened .queued)).evaluation = none ∧
    (live (ent 5 2 .opened .queued)).candidate = some 5 ∧ svc.candidate = none ∧
    ((live (ent 5 2 .opened .queued)).coupled = [] ∧ 5 ∈ ((live (ent 5 2 .opened .queued)).port 1).queue ∧
      (live (ent 5 2 .opened .queued)).eligibleTicket 5 = true) ∧
    (let s := { live { ent 5 2 .opened .queued with coupled := true } with coupled := [4, 5] }
     s.coupled = [4] ++ 5 :: [] ∧ s.eligibleTicket 5 = true ∧ s.eligibleTicket 4 = false) := by decide +kernel

theorem witness_ChecksInOrder :
    (∀ n : Fin 6, (evaluating 2 .opened (.check n)).heldInReset = false ∧
      (evaluating 2 .opened (.check n)).entry 5 = some (ent 5 2 .opened .evaluating) ∧
      (evaluating 2 .opened (.check n)).appDesc 2 = some ⟨2, .disconnector, 1, 3, 1, 500, 1000, Flags4.clear⟩) ∧
    svc.published.position 2 = .closed ∧ svc.overflowMark 2 = false ∧ svc.restrictions = [] ∧ svc.blocked 2 = false ∧
    (svc.published.node 1).colour.pl = true ∧
    (evaluating 1 .opened (.check 5)).appDesc 1 = some ⟨1, .breaker, 1, 2, 1, 500, 1000, Flags4.clear⟩ := by
  decide +kernel

/-- An evaluation at check 5 over colours `x` of node 1 and `y` of nodes 2 and 3, in components of their own. -/
def coloured (a : Nat) (g : Target) (x y : Colour) : State :=
  let s := evaluating a g (.check 5)
  { s with evaluation := s.evaluation.map (fun v => { v with publication :=
      { initial := false, positions := svc.published.positions
        nodes := [(0, ⟨0, 0, .earthed⟩), (1, ⟨1, 1, x⟩), (2, ⟨2, 2, y⟩), (3, ⟨2, 2, y⟩)] } }) }

/-- The topology rules and their refusals: every pair of colours of the terminals, and every kind and target. -/
theorem witness_ChecksInOrder_topology (x y : Colour) (g : Target) :
    (∀ a : Fin 3, (coloured (a + 1) g x y).heldInReset = false ∧
      (coloured (a + 1) g x y).entry 5 = some (ent 5 (a + 1) g .evaluating) ∧
      ((coloured (a + 1) g x y).appDesc (a + 1)).map AppDesc.kind =
        [AppKind.breaker, .disconnector, .earthSwitch][(a : Nat)]? ∧
      (coloured (a + 1) g x y).evaluation.map (fun v => ((v.publication.node 1).colour, (v.publication.node 2).colour,
        (v.publication.node 3).colour, v.stage)) = some (x, y, y, .check 5) ∧
      (ent 5 (a + 1) g .evaluating).cancelPending = false ∧ (ent 5 (a + 1) g .evaluating).programme = none ∧
      (coloured (a + 1) g x y).calm) ∧
    (svc.published.node 1).sure = (svc.published.node 3).sure := by
  refine ⟨fun a => ?_, by decide⟩
  fin_cases a <;> cases g <;> exact ⟨rfl, rfl, rfl, rfl, rfl, rfl, calm_of ⟨by
    intro e he hs
    rw [List.mem_singleton.1 he] at hs
    exact absurd hs (by decide), rfl⟩⟩

/-- R55 to R58: the refusals of checks 1 to 4. -/
theorem witness_ChecksInOrder_refusals :
    (evaluating 2 .closed (.check 1)).calm ∧
    (evaluating 2 .closed (.check 1)).evaluation.map (fun v => v.publication.position 2) = some (Target.pos .closed) ∧
    Colouring.position { svc.published with positions := [] } 2 = .unknown ∧
    (∃ r ∈ restricted.restrictions, r.forbids .disconnector 2 .opened [1, 3] = true) ∧
    (∃ r, (latched true).app 1 = some r ∧ (r.present.any = true ∨ r.latched.any = true)) :=
  ⟨calm_of (by decide), by decide, by decide, by decide, ⟨_, rfl, by decide⟩⟩

/-- R56, R57: the first two refusals of the checks, and R61's. -/
theorem test_checks_refuse :
    (after (evaluating 2 .closed (.check 1)) .predicateCheck).ended.map Ended.outcome = [.refused .alreadyThere] ∧
    (after { evaluating 2 .opened (.check 3) with restrictions := [⟨1, .holdClosed, 2, some 0, 7, none⟩] }
      .predicateCheck).ended.map Ended.outcome = [.refused .restricted] ∧
    (after (coloured 1 .closed .live .doubtfulEarth) .predicateCheck).ended.map Ended.outcome =
      [.refused .liveAgainstEarth] := by decide +kernel

/-- R62, R63, R68: the refusals and permissions of a disconnector and of an earth switch that close. -/
theorem test_topology :
    (after (coloured 2 .closed .live .earthed) .predicateCheck).ended.map Ended.outcome = [.refused .liveAgainstEarth] ∧
    (after (coloured 2 .closed .live .doubtfulEarth) .predicateCheck).ended.map Ended.outcome =
      [.refused .uncertainEarth] ∧
    (after (coloured 2 .closed .live .live) .predicateCheck).ended.map Ended.outcome = [.refused .noEquipotential] ∧
    (after (coloured 2 .closed .live .floating) .predicateCheck).evaluation.map Evaluation.candidateReach = some [2, 3] ∧
    (after (coloured 3 .closed .floating .live) .predicateCheck).ended.map Ended.outcome = [.refused .nodeNotDead] := by
  decide +kernel

theorem witness_SearchStepsAct :
    (evaluating 2 .opened (.bypass [1] [1])).heldInReset = false ∧
    (evaluating 2 .opened (.bypass [1] [1])).entry 5 = some (ent 5 2 .opened .evaluating) ∧
    svc.published.initial = false ∧ 3 ∉ [1] ∧
    (∃ x ∈ svc.force.apparatus, x.number ≠ 2 ∧ (x.a = 1 ∨ x.b = 1) ∧ svc.published.position x.number = .closed ∧
      (if x.a = 1 then x.b else x.a) = 2) ∧
    (∀ x ∈ svc.force.apparatus, x.number ≠ 2 → x.a = 1 ∨ x.b = 1 → svc.published.position x.number = .closed →
      (if x.a = 1 then x.b else x.a) ∈ [1, 2]) ∧
    (∃ m ∈ [1, 2], svc.isTerminal m = true) ∧ (∀ m ∈ [3], svc.isTerminal m = false) ∧
    (∀ x ∈ svc.force.apparatus, x.number ≠ 2 → x.a = 3 ∨ x.b = 3 → svc.published.position x.number ≠ .opened →
      (if x.a = 3 then x.b else x.a) ∈ [3]) := by decide

/-- R65: between terminals 1 and 3 the bypass search meets node 3 through disconnector 2. -/
theorem witness_SearchStepsAct_bypass :
    svc.appDesc 1 = some ⟨1, .breaker, 1, 2, 1, 500, 1000, Flags4.clear⟩ ∧
    ∃ x ∈ ({ yard with apparatus := yard.apparatus ++ [⟨4, .disconnector, 1, 3, 1, 500, 1000, Flags4.clear⟩] } : Yard).apparatus,
      x.number ≠ 2 ∧ (x.a = 1 ∨ x.b = 1) ∧
        ({ svc.published with positions := (4, .closed) :: svc.published.positions } : Colouring).position x.number =
          .closed ∧ (if x.a = 1 then x.b else x.a) = 3 := by decide

/-- The growth of both searches, and a TERMINAL on the second side, where the movement is refused. -/
theorem witness_SearchStepsAct_growth :
    ((evaluating 2 .opened (.bypass [1] [1])).entry 5 = some (ent 5 2 .opened .evaluating) ∧ 3 ∉ [1] ∧ 3 ∉ [2]) ∧
    (∃ m ∈ [1, 2], svc.isTerminal m = true) ∧ (evaluating 2 .opened (.stub true [1] [1])).calm ∧
    (ent 5 2 .opened .evaluating).cancelPending = false ∧ (ent 5 2 .opened .evaluating).programme = none :=
  ⟨by decide, by decide, calm_of (by decide), by decide, by decide⟩

/-- R65, R67: the bypass search reaches node 2; a TERMINAL on side b refuses the movement LOAD_PATH. -/
theorem test_searches :
    (after (evaluating 2 .opened (.bypass [1] [1])) .bypassSearchStep).evaluation.map Evaluation.stage =
      some (.bypass [1, 2] [2]) ∧
    (after (evaluating 2 .opened (.stub true [1] [1])) .stubSearchStep).ended.map Ended.outcome = [.refused .loadPath] := by
  decide +kernel

/-- R66, R99: disconnector 2 opens onto the stub of node 3 and is released; its RELEASE goes to port 1. -/
theorem test_release :
    ((after (after (evaluating 2 .opened (.stub true [3] [3])) .stubSearchStep) .closingEvent).port 1).transmit =
      [.notice (.release 5 2 .opened 500)] := by decide +kernel

/-- The yard with an evaluation of entry 5 permitted, and a carry whose reach meets its footprint. -/
def contended : State :=
  { evaluating 2 .opened (.permitted [3]) with
    programmes := [{ prog .running with carry := some { footprint := [1], reach := [2] } }] }

theorem witness_ReservationTest :
    ∃ v e d, contended.heldInReset = false ∧ contended.evaluation = some v ∧ contended.entry v.ticket = some e ∧
      contended.appDesc e.apparatus = some d ∧ v.stage = .permitted [3] ∧ e.cancelPending = false ∧
      contended.muted e.owner = false ∧ v.expired = false ∧ v.reoffer = false ∧ contended.mode.isFreeze = false ∧
      contended.force.settings.deferralLimit ≠ 0 ∧ contended.settledAtGrant v (e.footprint ++ [3]) = true ∧
      contended.conflict e [3] = true :=
  ⟨_, _, _, by decide, rfl, rfl, rfl, rfl, by decide, by decide, by decide, by decide, by decide, by decide, by decide,
    by decide⟩

theorem witness_ClosingReleases :
    let s := evaluating 2 .opened (.permitted [3])
    let e := ent 5 2 .opened .evaluating
    s.heldInReset = false ∧ s.entry 5 = some e ∧
    s.appDesc 2 = some ⟨2, .disconnector, 1, 3, 1, 500, 1000, Flags4.clear⟩ ∧ e.cancelPending = false ∧
    e.programme = none ∧ s.waitingOrder = [] ∧ s.mode.isFreeze = false ∧ s.conflict e [3] = false ∧
    s.restricted 2 .opened e.footprint = false ∧ s.blocked 2 = false ∧
    (match s.evaluation with | some v => s.settledAtGrant v (e.footprint ++ [3]) | none => false) = true := by
  decide +kernel

/-- A permitted evaluation of entry 5, with other fields of the evaluation and of the entry. -/
def permitted (v : Evaluation → Evaluation) (x : Entry → Entry) : State :=
  let s := evaluating 2 .opened (.permitted [3])
  { s with evaluation := s.evaluation.map v, entries := s.entries.map x }

/-- The other ends of the closing event: a cancel pending, a mark in the footprint, a conflict, a muted owner, a clock that
has expired, is loaded or is none at limit 0, a re-offer, a restriction, a blocking flag, and a freeze. -/
theorem witness_ClosingReleases_ends :
    let e := ent 5 2 .opened .evaluating
    let s := permitted id id
    let settled := fun (s : State) => s.evaluation.map (fun v => s.settledAtGrant v ([1, 3] ++ [3]))
    (s.heldInReset = false ∧ s.entry 5 = some e ∧ e.footprint = [1, 3] ∧ e.programme = none ∧ s.calm ∧
      s.evaluation.map (fun v => (v.ticket, v.stage, v.expired, v.reoffer)) = some (5, .permitted [3], false, false) ∧
      settled s = some true ∧ s.conflict e [3] = false ∧ s.restricted 2 .opened [1, 3] = false ∧ s.blocked 2 = false ∧
      s.muted 1 = false ∧ e.deadline = none ∧ s.force.settings.deferralLimit ≠ 0) ∧
    (settled (permitted (fun v => { v with markedApps := [1] }) id) = some false ∧
      settled (permitted (fun v => { v with markedNodes := [3] }) id) = some false ∧
      settled (permitted (fun v => { v with markedNodes := [2] }) id) = some true) ∧
    contended.conflict e [3] = true ∧
    (permitted (fun v => { v with expired := true, reoffer := true }) id).evaluation.map
      (fun v => (v.expired, v.reoffer)) = some (true, true) ∧
    State.muted (s.modPort 1 (fun q => { q with priority := 0 })) 1 = true ∧
    State.restricted { s with restrictions := [⟨1, .locked, 2, some 0, 7, none⟩] } 2 .opened [1, 3] = true ∧
    (latched true).blocked 1 = true ∧ (latched false).blocked 1 = true ∧
    (Mode.isFreeze .frozen = true ∧ s.heldBack e = true) ∧
    (permitted id (fun e => { e with cause := some .reserved, cancelPending := true })).entry 5 =
      some { e with cause := some .reserved, cancelPending := true } :=
  ⟨⟨by decide, by decide, by decide, by decide, calm_of (by decide), by decide⟩, by decide, by decide, by decide, by decide,
    by decide, by decide, by decide, by decide, by decide⟩

/-- R59, R79, R82, R85, R110, R152: the ends of the closing event. -/
theorem test_closing_ends :
    let ended := fun (s : State) => (after s .closingEvent).ended.map Ended.outcome
    let kept := fun (s : State) => (after s .closingEvent).entries.map (fun e => (e.state, e.cause, e.deadline))
    let marked := permitted (fun v => { v with markedApps := [1] }) id
    ended (permitted id (fun e => { e with cancelPending := true })) = [.cancelled] ∧
    kept marked = [(.deferred, some .unsettled, some marked.force.settings.deferralLimit)] ∧
    kept { marked with mode := .freezing } = [(.suspended, some .unsettled, some marked.force.settings.deferralLimit)] ∧
    ended (permitted (fun v => { v with markedApps := [1], expired := true }) id) = [.refused .unsettled] ∧
    ended (marked.modPort 1 (fun q => { q with priority := 0 })) = [.refused .portMuted] ∧
    ended { permitted id id with restrictions := [⟨1, .locked, 2, some 0, 7, none⟩] } = [.refused .restricted] ∧
    kept { permitted id id with mode := .frozen } = [(.suspended, none, none)] := by decide +kernel

/-- The closing event of a coupled movement whose programme holds a carry, or none. -/
theorem witness_ClosingReleases_coupled (c : Option Reservation) (hc : c = none ∨ c = some ⟨[1], []⟩) :
    let e : Entry := { ent 5 2 .opened .evaluating with programme := some (9, 2), coupled := true }
    let g : Programme := { prog .running with movement := some 5, carry := c }
    let s := { evaluating 2 .opened (.permitted [3]) with entries := [e], programmes := [g] }
    s.heldInReset = false ∧ s.entry 5 = some e ∧ s.programme 9 = some g ∧ e.coupled = true ∧ g.movement = some e.ticket ∧
    s.calm ∧ s.conflict e [3] = false ∧ s.restricted 2 .opened e.footprint = false ∧ s.blocked 2 = false := by
  rcases hc with rfl | rfl <;>
    exact ⟨by decide, by decide, by decide, by decide, by decide, calm_of (by decide), by decide, by decide, by decide⟩

/-- R130: the release of the coupled movement drops the carry. -/
theorem test_carry_dropped :
    let s := { evaluating 2 .opened (.permitted [3]) with
      entries := [{ ent 5 2 .opened .evaluating with programme := some (9, 2), coupled := true }]
      programmes := [{ prog .running with movement := some 5, carry := some ⟨[1], []⟩ }] }
    (after s .closingEvent).programmes.map Programme.carry = [none] ∧
    (after s .closingEvent).entries.map Entry.state = [.released] := by decide +kernel

/-! ### Witnesses: laws -/

theorem witness_OnlyClosingReleases :
    (after (evaluating 2 .opened (.permitted [3])) .closingEvent).entries.map Entry.state = [.released] := by
  decide +kernel

/-- The yard with a movement TRAVELLING has every law, and a step leads on. -/
theorem witness_laws :
    let s := live { ent 5 2 .opened .travelling with deadline := some 60000 }
    s.restrictionLaw ∧ s.travelLaw ∧ s.idleLaw ∧ s.portLaw ∧ s.tableLaw ∧ s.ticketLaw ∧ s.frozenLaw ∧
    step s = .next s.tick := by
  refine ⟨⟨⟨by decide, by decide, by decide⟩, by decide⟩, ⟨by decide, by decide, by decide⟩, by unfold State.idleLaw; decide,
    ⟨by decide, by decide, by decide, by unfold Port.good; decide⟩, ⟨by decide, by decide, by decide, by decide⟩,
    ⟨by decide, by decide, by decide⟩, by unfold State.frozenLaw; decide, by rfl⟩

/-- A programme waits for the release of its coupled movement 5, over the carry of the one before, while an evaluation of it
is in flight: the movement laws hold, and the release that follows keeps them. -/
def lawful : State :=
  { evaluating 2 .opened (.permitted [3]) with
    entries := [{ ent 5 2 .opened .evaluating with programme := some (9, 2), coupled := true }], coupled := [5]
    programmes := [{ prog .running with movement := some 5, carry := some ⟨[1], []⟩ }]
    held := [⟨.node 1, .node .dead none 0⟩] }

theorem witness_CapacityLawKept :
    lawful.MovementLaws ∧ lawful.heldLaw ∧
    ∃ t, step { lawful with pending := [.closingEvent] } = .next t ∧ t.entries.map Entry.state = [.released] := by
  have hh : lawful.heldLaw := by unfold State.heldLaw; decide
  refine ⟨⟨by unfold State.idleLaw; decide, ⟨by decide, by decide, by decide, by unfold Port.good; decide⟩,
    ⟨by decide, by decide, by decide, by decide⟩, ⟨by decide, by decide, by decide⟩, ⟨by decide, by decide, by decide⟩, hh,
    by unfold State.recordLaw; decide, ⟨by decide, by decide, by decide⟩, ?_, ⟨by decide, by decide, by decide, ?_, ?_⟩,
    by unfold State.reservationLaw; decide⟩, hh, _, rfl, by decide +kernel⟩
  · intro v hv
    cases hv
    exact ⟨_, rfl, rfl⟩
  · intro e he _ t k hp
    cases List.mem_singleton.1 he
    cases hp
    exact ⟨_, rfl, rfl, rfl⟩
  · intro g hg _
    cases List.mem_singleton.1 hg
    exact .inr ⟨_, List.mem_singleton.2 rfl, rfl, rfl, rfl, 2, rfl⟩

/-- The yard in MAINTENANCE, verified, has the law of its description. -/
theorem witness_DescriptionLawKept : svc.descriptionLaw ∧ svc.verified = true :=
  ⟨⟨by decide, by decide, by decide, by decide, fun _ => ⟨by decide, by decide, by decide⟩, fun _ h => by cases h⟩, by decide⟩

/-- The yard with a pass over its last component has the law of the colouring. -/
theorem witness_DescriptionLawKept_colouring :
    let s := { svc with pass := some exploring, pending := [.passTakeUp] }
    s.descriptionLaw ∧ s.colouringLaw ∧ ∃ t, step s = .next t := by
  refine ⟨witness_DescriptionLawKept.1, ⟨by unfold goodEntries; decide, by decide, ?_, by decide⟩, _, rfl⟩
  intro w hw
  cases hw
  refine ⟨by decide, by decide, ?_, by unfold goodEntries; decide⟩
  intro r hr hp d hd
  simp only [exploring, List.mem_cons, List.not_mem_nil, or_false] at hr
  rcases hr with rfl | rfl | rfl
  · cases hp rfl
  all_goals
    cases hd
    exact .inl (by decide)

end Sys2Proof.Tests
end

section
/-! What a request of the image or of a lifting comes to once its checks are passed, and the state it finds. -/

namespace Sys2Proof.Machine

/-! ### The handler of each command -/

section
variable {s : State} {p : Nat} {f : Frame}

theorem exec_positionReport_taken {l : List ReportItem} (h : s.Takes p .positionReport f)
    (hd : decodeReport f.body = some l) :
    exec (.positionReport p) s = .next (s.replied p f ((s.taking p f).positionReport p l)) :=
  next_of_request (handle := fun x _ s1 => s1.positionReport p x) h hd

theorem exec_substitute_taken {x : RecordId × SubstValue} (h : s.Takes p .substitute f)
    (hd : decodeSubstitute f.body = some x) :
    exec (.substitute p) s = .next (s.replied p f ((s.taking p f).substitute p x)) :=
  next_of_request (handle := fun x _ s1 => s1.substitute p x) h hd

theorem exec_endSubstitution_taken {i : RecordId} (h : s.Takes p .endSubstitution f)
    (hd : decodeEndSubstitution f.body = some i) :
    exec (.endSubstitution p) s = .next (s.replied p f ((s.taking p f).endSubstitution p i)) :=
  next_of_request (handle := fun x _ s1 => s1.endSubstitution p x) h hd

theorem exec_acknowledgeBlock_taken {x : Nat × Condition × BitVec 8} (h : s.Takes p .acknowledgeBlock f)
    (hd : decodeAcknowledge f.body = some x) :
    exec (.acknowledgeBlock p) s = .next (s.replied p f ((s.taking p f).acknowledge x)) :=
  next_of_request (handle := fun x _ s1 => s1.acknowledge x) h hd

theorem exec_liftRestriction_taken {i : Nat} (h : s.Takes p .liftRestriction f)
    (hd : decodeNumber8 f.body = some i) :
    exec (.liftRestriction p) s = .next (s.replied p f ((s.taking p f).liftRestriction p i f)) :=
  next_of_request (handle := fun x g s1 => s1.liftRestriction p x g) h hd

theorem exec_liftInspectOverflow_taken {a : Nat} (h : s.Takes p .liftInspectOverflow f)
    (hd : decodeNumber16 f.body = some a) :
    exec (.liftInspectOverflow p) s = .next (s.replied p f ((s.taking p f).liftOverflow a)) :=
  next_of_request (handle := fun x _ s1 => s1.liftOverflow x) h hd

end

/-! ### The state with a request in progress: all but its port's progress is as before -/

section
variable (s : State) (p : Nat) (f : Frame)

@[simp] theorem State.taking_force : (s.taking p f).force = s.force := rfl
@[simp] theorem State.taking_now : (s.taking p f).now = s.now := rfl
@[simp] theorem State.taking_apps : (s.taking p f).apps = s.apps := rfl
@[simp] theorem State.taking_nodes : (s.taking p f).nodes = s.nodes := rfl
@[simp] theorem State.taking_substs : (s.taking p f).substs = s.substs := rfl
@[simp] theorem State.taking_held : (s.taking p f).held = s.held := rfl
@[simp] theorem State.taking_pass : (s.taking p f).pass = s.pass := rfl
@[simp] theorem State.taking_spoils : (s.taking p f).spoils = s.spoils := rfl
@[simp] theorem State.taking_evaluation : (s.taking p f).evaluation = s.evaluation := rfl
@[simp] theorem State.taking_entries : (s.taking p f).entries = s.entries := rfl
@[simp] theorem State.taking_ended : (s.taking p f).ended = s.ended := rfl
@[simp] theorem State.taking_programmes : (s.taking p f).programmes = s.programmes := rfl
@[simp] theorem State.taking_waitingOrder : (s.taking p f).waitingOrder = s.waitingOrder := rfl
@[simp] theorem State.taking_restrictions : (s.taking p f).restrictions = s.restrictions := rfl
@[simp] theorem State.taking_writes : (s.taking p f).writes = s.writes := rfl
@[simp] theorem State.taking_app (a : Nat) : (s.taking p f).app a = s.app a := rfl
@[simp] theorem State.taking_node (n : Nat) : (s.taking p f).node n = s.node n := rfl
@[simp] theorem State.taking_appDesc (a : Nat) : (s.taking p f).appDesc a = s.appDesc a := rfl
@[simp] theorem State.taking_nodeDesc (n : Nat) : (s.taking p f).nodeDesc n = s.nodeDesc n := rfl
@[simp] theorem State.taking_entry (t : Nat) : (s.taking p f).entry t = s.entry t := rfl
@[simp] theorem State.taking_subst (i : RecordId) : (s.taking p f).subst i = s.subst i := rfl
@[simp] theorem State.taking_heldFor (i : RecordId) : (s.taking p f).heldFor i = s.heldFor i := rfl
@[simp] theorem State.taking_heldPassRunning : (s.taking p f).heldPassRunning = s.heldPassRunning := rfl
@[simp] theorem State.taking_overflowMark (a : Nat) : (s.taking p f).overflowMark a = s.overflowMark a := rfl
@[simp] theorem State.taking_substStands (i : RecordId) : (s.taking p f).substStands i = s.substStands i := rfl
@[simp] theorem State.taking_substCount : (s.taking p f).substCount = s.substCount := rfl
@[simp] theorem State.taking_substitutable (i : RecordId) : (s.taking p f).substitutable i = s.substitutable i := by
  cases i <;> rfl
@[simp] theorem State.taking_engagedTarget (i : RecordId) : (s.taking p f).engagedTarget i = s.engagedTarget i := by
  cases i <;> rfl
@[simp] theorem State.taking_muted (q : Nat) : (s.taking p f).muted q = s.muted q := by simp [State.muted]
@[simp] theorem State.taking_reporterActive (d : AppDesc) : (s.taking p f).reporterActive d = s.reporterActive d := by
  simp [State.reporterActive]
@[simp] theorem State.taking_length : (s.taking p f).ports.length = s.ports.length := by simp [State.taking]

end

/-! ### A report -/

/-- R7: a report of one item that is refused changes nothing. -/
theorem exec_report_refused {s : State} {p : Nat} {f : Frame} {x : ReportItem} {c : AnswerCode}
    (h : s.Takes p .positionReport f) (hd : decodeReport f.body = some [x])
    (hx : (s.taking p f).applyItem p x = (s.taking p f, some c)) :
    exec (.positionReport p) s = .next (s.answered p f c (put8 0 ++ put8 1 ++ put8 c.code)) := by
  rw [exec_positionReport_taken h hd]
  simp only [State.positionReport, State.applyItems, hx, ReportResult.code, ReportResult.fields, Option.getD_none,
    State.replied_unchanged]

/-- R7, R187: a report of one item that is applied is answered DONE with 1 accepted. -/
theorem exec_report_applied {s u : State} {p : Nat} {f : Frame} {x : ReportItem}
    (h : s.Takes p .positionReport f) (hd : decodeReport f.body = some [x])
    (hx : (s.taking p f).applyItem p x = (u, none)) :
    exec (.positionReport p) s = .next (s.replied p f (u, .now .done [1#8, 0#8, 0xFF#8])) := by
  rw [exec_positionReport_taken h hd]
  simp only [State.positionReport, State.applyItems, hx, ReportResult.code, ReportResult.fields]
  rfl

/-- R8: an apparatus that the port does not report. -/
theorem State.applyAppItem_foreign (s : State) (p a : Nat) (pos : Pos) (flags : Flags4)
    (h : ∀ d, s.appDesc a = some d → d.port ≠ p) : s.applyAppItem p a pos flags = (s, some .notYourItem) := by
  unfold State.applyAppItem
  cases hd : s.appDesc a with
  | none => rfl
  | some d => simp [h d hd]

/-- R8: a node that the port does not report, or that is not measured. -/
theorem State.applyPresence_foreign (s : State) (p n v : Nat)
    (h : ∀ d, s.nodeDesc n = some d → d.measured = true → d.port ≠ some p) :
    s.applyPresence p n v = (s, some .notYourItem) := by
  unfold State.applyPresence
  cases hd : s.nodeDesc n with
  | none => rfl
  | some d =>
    cases s.node n with
    | none => rfl
    | some r =>
      have hn : d.measured = false ∨ d.port ≠ some p := by
        cases hm : d.measured with
        | false => exact .inl rfl
        | true => exact .inr (h d hd hm)
      simp only [if_pos hn]

/-- Settles O12: either kind of foreign item is refused before anything of it is taken. -/
theorem foreignItemsRefused : Obligations.ForeignItemsRefused := by
  unfold Obligations.ForeignItemsRefused
  intro s p f x h hd happ hnode
  apply exec_report_refused h hd
  cases x with
  | apparatus a pos flags => exact State.applyAppItem_foreign _ p a pos flags (happ a pos flags rfl)
  | presence n v => exact State.applyPresence_foreign _ p n v (hnode n v rfl)

/-! ### A re-offer event that finds nothing -/

theorem runTasks_nil (n : Nat) (s : State) : runTasks n [] s = s := by cases n <;> rfl

theorem taskBound_ge (s : State) (ts : List Task) : 32 ≤ taskBound s ts := by
  unfold taskBound
  simp only
  generalize hc : s.entries.length + (s.programmes.map (fun p => p.steps.length + 1)).sum + ts.length + 1 = c
  have h1 : 1 ≤ c := by omega
  calc 32 = 32 * 1 * 1 := rfl
    _ ≤ 32 * c * c := Nat.mul_le_mul (Nat.mul_le_mul_left 32 h1) h1

/-- `ts`, taken first among any tasks, are worked off with all they bring about in at most `k` tasks, and leave `u`. -/
def State.WorksOff (s : State) (ts : List Task) (k : Nat) (u : State) : Prop :=
  ∃ j ≤ k, ∀ n rest, runTasks (n + j) (ts ++ rest) s = runTasks n rest u

theorem State.worksOff_nil (s : State) : s.WorksOff [] 0 s := ⟨0, Nat.le_refl 0, fun _ _ => rfl⟩

/-- One task first, and then what it brings about before the others. -/
theorem State.WorksOff.cons {s s1 u : State} {t : Task} {new ts : List Task} {k : Nat} (h1 : s.runTask t = (s1, new))
    (h2 : s1.WorksOff (new ++ ts) k u) : s.WorksOff (t :: ts) (k + 1) u := by
  obtain ⟨j, hj, hr⟩ := h2
  refine ⟨j + 1, Nat.succ_le_succ hj, fun n rest => ?_⟩
  have := hr n rest
  rw [List.append_assoc] at this
  simp only [← Nat.add_assoc, List.cons_append, runTasks, h1]
  exact this

theorem State.WorksOff.append {s s1 u : State} {ts us : List Task} {j k : Nat} (h1 : s.WorksOff ts j s1)
    (h2 : s1.WorksOff us k u) : s.WorksOff (ts ++ us) (j + k) u := by
  obtain ⟨a, ha, h1⟩ := h1
  obtain ⟨b, hb, h2⟩ := h2
  refine ⟨b + a, by omega, fun n rest => ?_⟩
  rw [List.append_assoc, ← Nat.add_assoc, h1, h2]

theorem State.WorksOff.mono {s u : State} {ts : List Task} {j k : Nat} (h : s.WorksOff ts j u) (hk : j ≤ k) :
    s.WorksOff ts k u := by
  obtain ⟨a, ha, h⟩ := h
  exact ⟨a, by omega, h⟩

/-- A run of tasks that are worked off within the bound. -/
theorem State.WorksOff.run {s u : State} {ts : List Task} {k : Nat} (h : s.WorksOff ts k u) (hk : k ≤ 32) :
    s.run ts = u := by
  obtain ⟨j, hj, h⟩ := h
  obtain ⟨n, hn⟩ := Nat.exists_eq_add_of_le' (show j ≤ taskBound s ts by have := taskBound_ge s ts; omega)
  have := h n []
  rw [List.append_nil, ← hn, runTasks_nil] at this
  exact this

theorem State.calm.deferredTickets {s : State} (h : s.calm) : s.deferredTickets = [] := by
  simp only [State.deferredTickets, List.map_eq_nil_iff, List.filter_eq_nil_iff, beq_iff_eq]
  exact h.1

/-- R86: a re-offer event of a calm state marks the evaluation in flight, and does no more. -/
theorem State.calm.worksOff_reoffer {s : State} (h : s.calm) : s.WorksOff [.reoffer] 1 s.marked := by
  refine State.WorksOff.cons (s1 := s.marked) (new := []) ?_ (State.worksOff_nil _)
  simp [State.runTask, State.reoffer, h.deferredTickets, h.2, State.marked]

theorem State.calm.run_reoffer {s : State} (h : s.calm) : s.run [.reoffer] = s.marked :=
  h.worksOff_reoffer.run (by decide)

/-! ### The liftings (R19, R140, R141, R145) -/

/-- A handler whose update changes no port: the request is answered in the state so updated. -/
theorem State.replied_updated (s u : State) (p : Nat) (f : Frame) (c : AnswerCode) (x : List Byte)
    (h : u.ports = s.ports) :
    s.replied p f ({ u with ports := (s.taking p f).ports }, .now c x) = u.answered p f c x :=
  State.replied_answered s _ u p f c x rfl (by rw [← h])

section
variable {s : State} {p : Nat} {f : Frame}

/-- R19: ACKNOWLEDGE BLOCK of a described apparatus, by the first check that fails. -/
theorem State.acknowledge_cases {a : Nat} {c : Condition} {l : BitVec 8} {r : AppLive}
    (hd : (s.appDesc a).isSome = true) (hr : s.app a = some r) :
    s.acknowledge (a, c, l) =
      if r.latched.get c = false then (s, .code .notApplicable)
      else if r.present.get c then (s, .code .stillPresent)
      else if r.latchNumbers.get c ≠ l then (s, .code .staleAck)
      else ((s.modApp a (fun y => y.acknowledged c)).run [.reoffer], .code .done) := by
  obtain ⟨d, hd⟩ := Option.isSome_iff_exists.1 hd
  simp only [State.acknowledge, hd, hr]

theorem acknowledge_unknown {a : Nat} {c : Condition} {l : BitVec 8} (h : s.Takes p .acknowledgeBlock f)
    (hd : decodeAcknowledge f.body = some (a, c, l)) (ha : s.appDesc a = none) :
    exec (.acknowledgeBlock p) s = .next (s.answered p f .unknownApparatus []) := by
  rw [exec_acknowledgeBlock_taken h hd]
  simp only [State.acknowledge, State.taking_appDesc, ha, Reply.code, State.replied_unchanged]

theorem acknowledge_acts {a : Nat} {c : Condition} {l : BitVec 8} {r : AppLive} (hc : s.calm)
    (h : s.Takes p .acknowledgeBlock f) (hd : decodeAcknowledge f.body = some (a, c, l))
    (ha : (s.appDesc a).isSome = true) (hr : s.app a = some r) :
    (r.latched.get c = false → exec (.acknowledgeBlock p) s = .next (s.answered p f .notApplicable [])) ∧
    (r.latched.get c = true → r.present.get c = true →
      exec (.acknowledgeBlock p) s = .next (s.answered p f .stillPresent [])) ∧
    (r.latched.get c = true → r.present.get c = false → r.latchNumbers.get c ≠ l →
      exec (.acknowledgeBlock p) s = .next (s.answered p f .staleAck [])) ∧
    (r.latched.get c = true → r.present.get c = false → r.latchNumbers.get c = l →
      exec (.acknowledgeBlock p) s =
        .next ((s.marked.modApp a (fun y => y.acknowledged c)).answered p f .done [])) := by
  rw [exec_acknowledgeBlock_taken h hd, State.acknowledge_cases (s := s.taking p f) (r := r) ha hr]
  refine ⟨fun h1 => ?_, fun h1 h2 => ?_, fun h1 h2 h3 => ?_, fun h1 h2 h3 => ?_⟩
  · simp only [h1, if_true, Reply.code, State.replied_unchanged]
  · simp only [h1, h2, Bool.true_eq_false, if_false, if_true, Reply.code, State.replied_unchanged]
  · simp only [h1, h2, Bool.true_eq_false, Bool.false_eq_true, if_false, if_pos h3, Reply.code,
      State.replied_unchanged]
  · have hm : ((s.taking p f).modApp a (fun y => y.acknowledged c)).calm := hc
    simp only [h1, h2, h3, Bool.true_eq_false, Bool.false_eq_true, if_false, ne_eq, not_true, hm.run_reoffer,
      Reply.code]
    exact congrArg _ (State.replied_updated s (s.marked.modApp a (fun y => y.acknowledged c)) p f _ _ rfl)

theorem liftRestriction_acts {i : Nat} (hc : s.calm) (h : s.Takes p .liftRestriction f)
    (hd : decodeNumber8 f.body = some i) :
    (i = 0 ∨ 64 < i → exec (.liftRestriction p) s = .next (s.answered p f .outOfRange [])) ∧
    (1 ≤ i → i ≤ 64 → s.restrictions.any (fun r => r.id == i) = false →
      exec (.liftRestriction p) s = .next (s.answered p f .notApplicable [])) ∧
    (1 ≤ i → i ≤ 64 → s.restrictions.any (fun r => r.id == i) = true →
      exec (.liftRestriction p) s =
        .next (((s.changeTable (.remove i) (some (Frame.requester f p))).marked).taking p f)) := by
  rw [exec_liftRestriction_taken h hd]
  have inRange : 1 ≤ i → i ≤ 64 → ¬ (i = 0 ∨ i > Config.maxRestrictions) := by
    intro h1 h2 h3
    simp only [Config.maxRestrictions] at h3
    omega
  refine ⟨fun h1 => ?_, fun h1 h2 h3 => ?_, fun h1 h2 h3 => ?_⟩
  · have hr : i = 0 ∨ i > Config.maxRestrictions := h1
    simp only [State.liftRestriction, if_pos hr, Reply.code, State.replied_unchanged]
  · simp only [State.liftRestriction, if_neg (inRange h1 h2), State.taking_restrictions, h3, Bool.false_eq_true, if_false,
      Reply.code, State.replied_unchanged]
  · have hm : ((s.taking p f).changeTable (.remove i) (some (Frame.requester f p))).calm := hc
    simp only [State.liftRestriction, if_neg (inRange h1 h2), State.taking_restrictions, h3, if_true, hm.run_reoffer]
    rfl

theorem liftOverflow_acts {a : Nat} (hc : s.calm) (h : s.Takes p .liftInspectOverflow f)
    (hd : decodeNumber16 f.body = some a) :
    (s.appDesc a = none → exec (.liftInspectOverflow p) s = .next (s.answered p f .unknownApparatus [])) ∧
    ((s.appDesc a).isSome = true → s.overflowMark a = false →
      exec (.liftInspectOverflow p) s = .next (s.answered p f .notApplicable [])) ∧
    ((s.appDesc a).isSome = true → s.overflowMark a = true →
      exec (.liftInspectOverflow p) s =
        .next ((s.marked.modApp a (fun r => { r with overflow := false })).answered p f .done [])) := by
  rw [exec_liftInspectOverflow_taken h hd]
  refine ⟨fun h1 => ?_, fun h1 h2 => ?_, fun h1 h2 => ?_⟩
  · simp only [State.liftOverflow, State.taking_appDesc, h1, Option.isNone_none, if_true, Reply.code,
      State.replied_unchanged]
  · have hd : (s.appDesc a).isNone = false := Option.isNone_eq_false_iff.2 h1
    simp only [State.liftOverflow, State.taking_appDesc, hd, State.taking_overflowMark, h2, Bool.false_eq_true,
      if_false, Reply.code, State.replied_unchanged]
  · have hd : (s.appDesc a).isNone = false := Option.isNone_eq_false_iff.2 h1
    have hm : ((s.taking p f).modApp a (fun r => { r with overflow := false })).calm := hc
    simp only [State.liftOverflow, State.taking_appDesc, hd, State.taking_overflowMark, h2, Bool.false_eq_true,
      if_false, if_true, hm.run_reoffer, Reply.code]
    exact congrArg _ (State.replied_updated s (s.marked.modApp a (fun r => { r with overflow := false })) p f _ _ rfl)

end

/-- Settles O15: each request by its first check that fails, and the re-offer of a calm state that follows a lifting. -/
theorem liftingsAct : Obligations.LiftingsAct := by
  unfold Obligations.LiftingsAct
  intro s p f hc
  exact ⟨fun a c l h hd ha => acknowledge_unknown h hd ha,
    fun a c l r h hd ha hr => acknowledge_acts hc h hd ha hr,
    fun i h hd => liftRestriction_acts hc h hd,
    fun a h hd => liftOverflow_acts hc h hd⟩

end Sys2Proof.Machine
end

section
/-! What a change of the yard image leaves: the record written, its marker and the topology unit, and beyond them no more
than tasks can change. -/

namespace Sys2Proof.Machine

/-! ### What a state within keeps of its records -/

/-- The fields of a record that tasks keep are those that `outer` keeps. -/
theorem AppLive.of_outer {x y : AppLive} (h : x.outer = y.outer) :
    x.number = y.number ∧ x.reported = y.reported ∧ x.substituted = y.substituted ∧ x.effective = y.effective ∧
    x.present = y.present ∧ x.latched = y.latched ∧ x.latchNumbers = y.latchNumbers ∧ x.marker = y.marker := by
  simpa only [AppLive.outer, AppLive.mk.injEq, true_and, and_true] using h

namespace State.Within

variable {s t : State}

theorem appInputs (h : s.Within t) : t.apps.map AppLive.inputs = s.apps.map AppLive.inputs := by
  have e := congrArg (List.map AppLive.inputs) h.apps
  rwa [List.map_map, List.map_map] at e

theorem app_some (h : s.Within t) {a : Nat} {r : AppLive} (hr : s.app a = some r) :
    ∃ x, t.app a = some x ∧ x.outer = r.outer := by
  have e := h.app a
  rw [hr] at e
  exact Option.map_eq_some_iff.1 e

theorem app_inputs (h : s.Within t) (a : Nat) : (t.app a).map AppLive.inputs = (s.app a).map AppLive.inputs := by
  have e := congrArg (Option.map AppLive.inputs) (h.app a)
  rwa [Option.map_map, Option.map_map] at e

theorem node (h : s.Within t) (n : Nat) : t.node n = s.node n := by unfold State.node; rw [h.nodes]
theorem subst (h : s.Within t) (i : RecordId) : t.subst i = s.subst i := by unfold State.subst; rw [h.substs]
theorem heldFor (h : s.Within t) (i : RecordId) : t.heldFor i = s.heldFor i := by unfold State.heldFor; rw [h.held]

/-- An update of a record that acts on what tasks keep alone may as well come before the tasks. -/
theorem modApp (h : s.Within t) (a : Nat) (f : AppLive → AppLive) (hf : ∀ r, (f r).outer = (f r.outer).outer) :
    (s.modApp a f).Within (t.modApp a f) := by
  refine ⟨h.outer, ?_, h.ports, h.transmit, h.mode⟩
  have key : ∀ l : List AppLive, (l.map (fun r => if r.number = a then f r else r)).map AppLive.outer =
      (l.map AppLive.outer).map (fun r => if r.number = a then (f r).outer else r) := by
    intro l
    rw [List.map_map, List.map_map]
    apply List.map_congr_left
    intro r _
    simp only [Function.comp]
    split
    · rw [if_pos (by assumption), hf]
    · rw [if_neg (by assumption)]
  simp only [State.modApp, key, h.apps]

end State.Within

theorem State.appDesc_number {s : State} {a : Nat} {d : AppDesc} (h : s.appDesc a = some d) : d.number = a := by
  simpa using List.find?_some h

theorem State.node_number {s : State} {n : Nat} {r : NodeLive} (h : s.node n = some r) : r.number = n := by
  simpa using List.find?_some h

/-! ### The answer after an image change -/

@[simp] theorem State.replied_now (s t : State) (p : Nat) (f : Frame) (c : AnswerCode) (x : List Byte) :
    s.replied p f (t, .now c x) = t.placeAnswer p (s.port p).transmit.length (Frame.answer f c x) := rfl

section
variable (s : State) (p n : Nat) (x : Outgoing)

@[simp] theorem State.placeAnswer_app (a : Nat) : (s.placeAnswer p n x).app a = s.app a := rfl
@[simp] theorem State.placeAnswer_node (m : Nat) : (s.placeAnswer p n x).node m = s.node m := rfl
@[simp] theorem State.placeAnswer_subst (i : RecordId) : (s.placeAnswer p n x).subst i = s.subst i := rfl
@[simp] theorem State.placeAnswer_heldFor (i : RecordId) : (s.placeAnswer p n x).heldFor i = s.heldFor i := rfl

end

/-- R166: a handler that changes the image alone has its request answered after what stood in the transmit list. -/
theorem State.Around.answers {s t : State} {p : Nat} {f : Frame} (h : (s.taking p f).Around t) (hp : p < s.ports.length)
    (c : AnswerCode) (x : List Byte) :
    s.answers (t.placeAnswer p (s.port p).transmit.length (Frame.answer f c x)) p f c x := by
  refine State.replied_answers s t p f c x ?_ ?_
  · have e := congrArg List.length h.ports
    simp only [List.length_map, State.taking_length] at e
    rwa [e]
  · have e := h.transmit p
    rwa [State.taking_transmit] at e

theorem State.applyItem_around (s : State) (p : Nat) (x : ReportItem) : s.Around (s.applyItem p x).1 := by
  cases x with
  | apparatus a pos flags => exact s.applyAppItem_around p a pos flags
  | presence n v => exact s.applyPresence_around p n v

/-- R7, R166, R187: a report of one item that is applied, and its answer. -/
theorem exec_item_applied {s u : State} {p : Nat} {f : Frame} {x : ReportItem} (h : s.Takes p .positionReport f)
    (hd : decodeReport f.body = some [x]) (hx : (s.taking p f).applyItem p x = (u, none)) :
    exec (.positionReport p) s =
      .next (u.placeAnswer p (s.port p).transmit.length (Frame.answer f .done [1#8, 0#8, 0xFF#8])) ∧
    s.answers (u.placeAnswer p (s.port p).transmit.length (Frame.answer f .done [1#8, 0#8, 0xFF#8])) p f .done
      [1#8, 0#8, 0xFF#8] := by
  have haround := (s.taking p f).applyItem_around p x
  rw [hx] at haround
  exact ⟨exec_report_applied h hd hx, haround.answers h.listed _ _⟩

/-! ### The topology unit (R34, R38, R39) -/

theorem State.topologySees_eq (s : State) (wake : Bool) (i : RecordId) :
    ∃ w k, s.topologySees wake i = { s with pass := w, spoils := k } := by
  unfold State.topologySees
  split
  · split
    · exact ⟨_, _, rfl⟩
    · exact ⟨_, _, rfl⟩
  · split
    · split
      · exact ⟨_, _, rfl⟩
      · exact ⟨_, _, rfl⟩
    · exact ⟨_, _, rfl⟩

/-- R34: an image change wakes an idle topology unit in the modes in which passes run. -/
theorem State.topologySees_idle {s : State} (i : RecordId) (h : s.pass = none) (hm : s.mode.runsPasses = true) :
    s.topologySees true i = { s with pass := some (freshPass false) } := by
  simp only [State.topologySees, h, hm, Bool.and_self, if_true]
  rfl

/-- R38, R39: an image change of a record that the pass has read spoils it. -/
theorem State.topologySees_read {s : State} {w : Pass} (wake : Bool) (i : RecordId) (h : s.pass = some w)
    (hh : w.held = false) (hr : w.hasRead i = true) :
    s.topologySees wake i =
      { s with pass := some (freshPass (decide (3 ≤ s.spoils + 1))), spoils := s.spoils + 1 } := by
  simp only [State.topologySees, h, hr, hh, if_true, Bool.false_eq_true, if_false]
  rfl

theorem State.topologySees_unread {s : State} {w : Pass} (wake : Bool) (i : RecordId) (h : s.pass = some w)
    (hr : w.hasRead i = false) : s.topologySees wake i = s := by
  simp only [State.topologySees, h, hr, Bool.false_eq_true, if_false]

theorem State.not_held_of_running {s : State} {w : Pass} (h : s.heldPassRunning = false) (hw : s.pass = some w) :
    w.held = false := by
  simpa only [State.heldPassRunning, hw] using h

/-! ### The marker and the topology unit, where a record's effective value has changed -/

/-- R13: with `changed`, the record's marker is set and the topology unit sees the change. -/
def State.noted (s : State) (i : RecordId) (changed : Bool) : State :=
  if changed then (s.setMarker i).topologySees true i else s

theorem State.noted_false (s : State) (i : RecordId) : s.noted i false = s := rfl

theorem State.noted_true (s : State) (i : RecordId) : s.noted i true = (s.setMarker i).topologySees true i := rfl

theorem State.noted_eq (s : State) (i : RecordId) (c : Bool) :
    ∃ A N w k, s.noted i c = { s with apps := A, nodes := N, pass := w, spoils := k } := by
  cases c with
  | false => exact ⟨_, _, _, _, rfl⟩
  | true =>
    obtain ⟨w, k, h⟩ := (s.setMarker i).topologySees_eq true i
    rw [State.noted_true, h]
    cases i <;> exact ⟨_, _, _, _, rfl⟩

section
variable (s : State) (i : RecordId) (c : Bool)

@[simp] theorem State.noted_now : (s.noted i c).now = s.now := by
  obtain ⟨_, _, _, _, h⟩ := s.noted_eq i c; rw [h]
@[simp] theorem State.noted_mode : (s.noted i c).mode = s.mode := by
  obtain ⟨_, _, _, _, h⟩ := s.noted_eq i c; rw [h]
@[simp] theorem State.noted_force : (s.noted i c).force = s.force := by
  obtain ⟨_, _, _, _, h⟩ := s.noted_eq i c; rw [h]
@[simp] theorem State.noted_ports : (s.noted i c).ports = s.ports := by
  obtain ⟨_, _, _, _, h⟩ := s.noted_eq i c; rw [h]
@[simp] theorem State.noted_substs : (s.noted i c).substs = s.substs := by
  obtain ⟨_, _, _, _, h⟩ := s.noted_eq i c; rw [h]
@[simp] theorem State.noted_held : (s.noted i c).held = s.held := by
  obtain ⟨_, _, _, _, h⟩ := s.noted_eq i c; rw [h]
@[simp] theorem State.noted_evaluation : (s.noted i c).evaluation = s.evaluation := by
  obtain ⟨_, _, _, _, h⟩ := s.noted_eq i c; rw [h]
@[simp] theorem State.noted_entries : (s.noted i c).entries = s.entries := by
  obtain ⟨_, _, _, _, h⟩ := s.noted_eq i c; rw [h]
@[simp] theorem State.noted_ended : (s.noted i c).ended = s.ended := by
  obtain ⟨_, _, _, _, h⟩ := s.noted_eq i c; rw [h]
@[simp] theorem State.noted_coupled : (s.noted i c).coupled = s.coupled := by
  obtain ⟨_, _, _, _, h⟩ := s.noted_eq i c; rw [h]
@[simp] theorem State.noted_programmes : (s.noted i c).programmes = s.programmes := by
  obtain ⟨_, _, _, _, h⟩ := s.noted_eq i c; rw [h]
@[simp] theorem State.noted_waitingOrder : (s.noted i c).waitingOrder = s.waitingOrder := by
  obtain ⟨_, _, _, _, h⟩ := s.noted_eq i c; rw [h]
@[simp] theorem State.noted_restrictions : (s.noted i c).restrictions = s.restrictions := by
  obtain ⟨_, _, _, _, h⟩ := s.noted_eq i c; rw [h]
@[simp] theorem State.noted_writes : (s.noted i c).writes = s.writes := by
  obtain ⟨_, _, _, _, h⟩ := s.noted_eq i c; rw [h]
@[simp] theorem State.noted_published : (s.noted i c).published = s.published := by
  obtain ⟨_, _, _, _, h⟩ := s.noted_eq i c; rw [h]
@[simp] theorem State.noted_stored : (s.noted i c).stored = s.stored := by
  obtain ⟨_, _, _, _, h⟩ := s.noted_eq i c; rw [h]

@[simp] theorem State.noted_entry (t : Nat) : (s.noted i c).entry t = s.entry t := by
  unfold State.entry; rw [s.noted_entries]
@[simp] theorem State.noted_liesIn (j : RecordId) (l : List Nat) : (s.noted i c).liesIn j l = s.liesIn j l := by
  unfold State.liesIn State.appDesc; rw [s.noted_force]
@[simp] theorem State.noted_subst (j : RecordId) : (s.noted i c).subst j = s.subst j := by
  unfold State.subst; rw [s.noted_substs]
@[simp] theorem State.noted_port (q : Nat) : (s.noted i c).port q = s.port q := by
  unfold State.port; rw [s.noted_ports]
@[simp] theorem State.noted_appDesc (a : Nat) : (s.noted i c).appDesc a = s.appDesc a := by
  unfold State.appDesc; rw [s.noted_force]

end

theorem State.noted_apps_apparatus (s : State) (a : Nat) (c : Bool) : (s.noted (.apparatus a) c).apps =
    s.apps.map (fun r => if r.number = a then { r with marker := r.marker || c } else r) := by
  cases c with
  | false => simp [State.noted_false]
  | true =>
    obtain ⟨w, k, h⟩ := (s.setMarker (.apparatus a)).topologySees_eq true (.apparatus a)
    rw [State.noted_true, h]
    simp [State.setMarker, State.modApp]

theorem State.noted_app (s : State) (a b : Nat) (c : Bool) : (s.noted (.apparatus a) c).app b =
    (s.app b).map (fun r => if b = a then { r with marker := r.marker || c } else r) := by
  have h : (s.noted (.apparatus a) c).app b = (s.modApp a (fun r => { r with marker := r.marker || c })).app b := by
    unfold State.app State.modApp
    rw [s.noted_apps_apparatus]
  rw [h]
  exact s.app_modApp a b _ (fun _ => rfl)

@[simp] theorem State.noted_nodes_apparatus (s : State) (a : Nat) (c : Bool) :
    (s.noted (.apparatus a) c).nodes = s.nodes := by
  cases c with
  | false => rfl
  | true =>
    obtain ⟨w, k, h⟩ := (s.setMarker (.apparatus a)).topologySees_eq true (.apparatus a)
    rw [State.noted_true, h]
    rfl

@[simp] theorem State.noted_apps_node (s : State) (n : Nat) (c : Bool) : (s.noted (.node n) c).apps = s.apps := by
  cases c with
  | false => rfl
  | true =>
    obtain ⟨w, k, h⟩ := (s.setMarker (.node n)).topologySees_eq true (.node n)
    rw [State.noted_true, h]
    rfl

theorem State.noted_nodes_node (s : State) (n : Nat) (c : Bool) : (s.noted (.node n) c).nodes =
    s.nodes.map (fun r => if r.number = n then { r with marker := r.marker || c } else r) := by
  cases c with
  | false => simp [State.noted_false]
  | true =>
    obtain ⟨w, k, h⟩ := (s.setMarker (.node n)).topologySees_eq true (.node n)
    rw [State.noted_true, h]
    simp [State.setMarker, State.modNode]

theorem State.noted_node (s : State) (n m : Nat) (c : Bool) : (s.noted (.node n) c).node m =
    (s.node m).map (fun r => if m = n then { r with marker := r.marker || c } else r) := by
  have h : (s.noted (.node n) c).node m = (s.modNode n (fun r => { r with marker := r.marker || c })).node m := by
    unfold State.node State.modNode
    rw [s.noted_nodes_node]
  rw [h]
  exact s.node_modNode n m _ (fun _ => rfl)

/-- R34, R38, R39: what a change outside a held pass does to the pass: it starts one where none runs, spoils one that
has read the record, and no other. -/
theorem State.noted_pass {s : State} (i : RecordId) (hh : s.heldPassRunning = false) (hm : s.mode.runsPasses = true) :
    (s.pass = none → (s.noted i true).pass = some (freshPass false) ∧ (s.noted i true).spoils = s.spoils) ∧
    (∀ w, s.pass = some w → w.hasRead i = true →
      (s.noted i true).pass = some (freshPass (decide (3 ≤ s.spoils + 1))) ∧
      (s.noted i true).spoils = s.spoils + 1) ∧
    (∀ w, s.pass = some w → w.hasRead i = false →
      (s.noted i true).pass = s.pass ∧ (s.noted i true).spoils = s.spoils) := by
  have hp : (s.setMarker i).pass = s.pass := by cases i <;> rfl
  have hk : (s.setMarker i).spoils = s.spoils := by cases i <;> rfl
  have hmode : (s.setMarker i).mode = s.mode := by cases i <;> rfl
  refine ⟨fun h => ?_, fun w h hr => ?_, fun w h hr => ?_⟩
  · rw [State.noted_true, State.topologySees_idle i (hp.trans h) (by rw [hmode]; exact hm)]
    exact ⟨rfl, hk⟩
  · rw [State.noted_true, State.topologySees_read true i (hp.trans h) (State.not_held_of_running hh h) hr, hk]
    exact ⟨rfl, rfl⟩
  · rw [State.noted_true, State.topologySees_unread true i (hp.trans h) hr]
    exact ⟨hp, hk⟩

/-! ### The evaluator (R79) -/

/-- The evaluation in flight after updates of the ports alone. -/
theorem State.OnlyPorts.evaluation {s t : State} (h : s.OnlyPorts t) : t.evaluation = s.evaluation := by
  have e := congrArg State.evaluation h; exact e

theorem State.endProgramme_evaluation (s : State) (p : Programme) (r : Option StopReason) :
    (s.endProgramme p r).1.evaluation = s.evaluation := (State.notify_onlyPorts _ _ _).evaluation

theorem State.dropCarry_evaluation (s : State) (e : Entry) : (s.dropCarry e).1.evaluation = s.evaluation := by
  unfold State.dropCarry
  split
  · rfl
  · split
    · rfl
    · split <;> rfl

theorem State.makeStep_evaluation (s : State) (p : Programme) (st : Step) :
    (s.makeStep p st).1.evaluation = s.evaluation := by
  have h : (s.makeEntry p.owner st.apparatus st.target (some (p.ticket, p.current)) st.coupled).evaluation =
      s.evaluation := by unfold State.makeEntry; cases st.coupled <;> rfl
  unfold State.makeStep
  simp only
  split
  · exact h
  · split <;> exact h

theorem State.enqueue_evaluation (s : State) (t : Nat) : (s.enqueue t).1.evaluation = s.evaluation := by
  unfold State.enqueue
  split
  · rfl
  · split
    · rfl
    · split <;> rfl

theorem State.placeInspect_evaluation (s : State) (a : Nat) : (s.placeInspect a).1.evaluation = s.evaluation := by
  unfold State.placeInspect
  split
  · rfl
  · split
    · rfl
    · split
      · split <;> rfl
      · rfl

theorem State.startStep_evaluation (s : State) (t : Nat) : (s.startStep t).1.evaluation = s.evaluation := by
  unfold State.startStep
  split
  · rfl
  · split
    · rfl
    · split
      · exact s.endProgramme_evaluation _ _
      · split
        · unfold State.enterWaiting
          split
          · rfl
          · split
            · exact s.endProgramme_evaluation _ _
            · rfl
        · exact s.makeStep_evaluation _ _

theorem State.startCoupled_evaluation (s : State) (t : Nat) : (s.startCoupled t).1.evaluation = s.evaluation := by
  unfold State.startCoupled
  split
  · rfl
  · split
    · rfl
    · split
      · exact s.endProgramme_evaluation _ _
      · split
        · exact s.endProgramme_evaluation _ _
        · split
          · exact s.endProgramme_evaluation _ _
          · exact s.makeStep_evaluation _ _

theorem State.inform_evaluation (s : State) (p t : Nat) (o : MoveOutcome) (r : Reservation) :
    (s.inform p t o r).1.evaluation = s.evaluation := by
  unfold State.inform
  split
  · rfl
  · split
    · rfl
    · split
      · rfl
      · split
        · exact s.endProgramme_evaluation _ _
        · split
          · split
            · exact s.endProgramme_evaluation _ _
            · rfl
          · exact s.endProgramme_evaluation _ _

/-- No task starts an evaluation. -/
theorem State.runTask_noEvaluation (s : State) (t : Task) (h : s.evaluation = none) :
    (s.runTask t).1.evaluation = none := by
  cases t with
  | retire t o =>
    simp only [State.runTask, State.retire]
    split
    · exact h
    · rename_i e _
      have hc : (if e.state.held then (s, false) else s.dropCarry e).1.evaluation = none := by
        split
        · exact h
        · rw [s.dropCarry_evaluation, h]
      rw [(State.notify_onlyPorts _ _ _).evaluation]
      show (match (if e.state.held then (s, false) else s.dropCarry e).1.evaluation with
        | some v => if v.ticket = e.ticket then none else some v
        | none => none) = none
      rw [hc]
  | judge a x y =>
    simp only [State.runTask, State.judge]
    split
    · exact h
    · split
      · rw [(State.broadcast_onlyPorts _ _).evaluation, h]
      · split <;> exact h
  | inspect a => exact (s.placeInspect_evaluation a).trans h
  | blockEnd t =>
    simp only [State.runTask, State.blockEnd]
    split
    · split
      · rw [(State.sendRevoke_onlyPorts _ _).evaluation, h]
      · exact h
    · exact h
  | inform p t o r => exact (s.inform_evaluation p t o r).trans h
  | stop p r =>
    simp only [State.runTask, State.stopProgramme]
    split
    · rw [s.endProgramme_evaluation, h]
    · exact h
  | start p => exact (s.startStep_evaluation p).trans h
  | startCoupled p => exact (s.startCoupled_evaluation p).trans h
  | enqueue t => exact (s.enqueue_evaluation t).trans h
  | reoffer => simp only [State.runTask, State.reoffer, h, Option.map_none]
  | requeue t =>
    simp only [State.runTask, State.requeue]
    split
    · split
      · rw [s.enqueue_evaluation, h]
      · exact h
    · exact h
  | retry p => simp only [State.runTask, s.retry_fst, h]
  | testFrozen =>
    simp only [State.runTask, State.testFrozen]
    split
    · exact (State.broadcast_onlyPorts _ _).evaluation.trans h
    · exact h

theorem State.run_noEvaluation (s : State) (ts : List Task) (h : s.evaluation = none) : (s.run ts).evaluation = none :=
  s.run_keeps (fun t => t.evaluation = none) State.runTask_noEvaluation ts h

theorem State.defer_noEvaluation (s : State) (e : Entry) (c : DeferralCause) (r : Bool) (h : s.evaluation = none) :
    (s.defer e c r).evaluation = none := by
  unfold State.defer
  split
  · exact s.run_noEvaluation _ h
  · simp only
    split
    · exact State.run_noEvaluation _ _ h
    · exact h

theorem State.endVoided_noEvaluation (s : State) (e : Entry) (v : Evaluation) (h : s.evaluation = none) :
    (s.endVoided e v).evaluation = none := by
  unfold State.endVoided
  simp only
  split
  · exact State.run_noEvaluation _ _ h
  · split
    · exact State.run_noEvaluation _ _ h
    · split
      · apply State.run_noEvaluation
        split <;> exact h
      · exact State.defer_noEvaluation _ _ _ _ h

/-- R79: a void leaves the evaluator free. -/
theorem State.endEvaluation_void_noEvaluation (s : State) : (s.endEvaluation .void).evaluation = none := by
  unfold State.endEvaluation
  split
  · assumption
  · simp only
    split
    · rfl
    · split
      · exact State.run_noEvaluation _ _ rfl
      · exact State.endVoided_noEvaluation _ _ _ rfl

/-- R79: a change in the region of the evaluation in flight voids it. -/
theorem State.evaluatorSees_hit {s : State} {v : Evaluation} {e : Entry} {i : RecordId} (hv : s.evaluation = some v)
    (he : s.entry v.ticket = some e) (hl : s.liesIn i (e.footprint ++ v.candidateReach) = true) :
    s.evaluatorSees i = s.endEvaluation .void := by
  simp only [State.evaluatorSees, hv, he, hl, if_true]

theorem State.evaluatorSees_missed {s : State} {v : Evaluation} {e : Entry} {i : RecordId} (hv : s.evaluation = some v)
    (he : s.entry v.ticket = some e) (hl : s.liesIn i (e.footprint ++ v.candidateReach) = false) :
    s.evaluatorSees i = s := by
  simp only [State.evaluatorSees, hv, he, hl, Bool.false_eq_true, if_false]

theorem State.evaluatorSees_free {s : State} (i : RecordId) (hv : s.evaluation = none) : s.evaluatorSees i = s := by
  simp only [State.evaluatorSees, hv]

theorem State.supervise_noEvaluation (s : State) (e : Entry) (src : Source) (after : Pos) (h : s.evaluation = none) :
    (s.supervise e src after).evaluation = none := by
  have travelled : (s.travel e).evaluation = none := by unfold State.travel; split <;> exact h
  have faulted : (s.faulted e).evaluation = none := s.run_noEvaluation _ h
  unfold State.supervise
  split
  · split_ifs
    · exact travelled
    · exact h
    · exact faulted
    · exact faulted
    · exact h
  · split_ifs
    · exact travelled
    · exact h
    · exact faulted
    · exact faulted
    · exact h
  · split_ifs
    · exact h
    · exact s.run_noEvaluation _ h
    · exact faulted
    · exact faulted
    · exact h
  · exact h

/-! ### An image change of an apparatus -/

/-- R13: beyond the marker and the topology unit, an image change does no more than tasks can. -/
theorem State.appChanged_within (s : State) (src : Source) (a : Nat) (x y : Pos) :
    (s.noted (.apparatus a) true).Within (s.appChanged true src a x y) := by
  have h := State.evaluatorSees_within (s.noted (.apparatus a) true) (.apparatus a)
  unfold State.appChanged
  simp only [← State.noted_true]
  cases s.entryOf a with
  | none =>
    simp only
    split
    · exact h.trans (State.run_within _ _)
    · exact h
  | some e =>
    simp only
    split
    · exact (h.trans (State.supervise_within _ _ _ _)).trans (State.run_within _ _)
    · exact h.trans (State.supervise_within _ _ _ _)

/-- R79: an image change in the region of the evaluation in flight leaves the evaluator free. -/
theorem State.appChanged_noEvaluation {s : State} {v : Evaluation} {e : Entry} (src : Source) (a : Nat) (x y : Pos)
    (hv : s.evaluation = some v) (he : s.entry v.ticket = some e)
    (hl : s.liesIn (.apparatus a) (e.footprint ++ v.candidateReach) = true) :
    (s.appChanged true src a x y).evaluation = none := by
  have h : ((s.noted (.apparatus a) true).evaluatorSees (.apparatus a)).evaluation = none := by
    rw [State.evaluatorSees_hit (v := v) (e := e) (by simpa using hv) (by simpa using he) (by simpa using hl)]
    exact State.endEvaluation_void_noEvaluation _
  unfold State.appChanged
  simp only [← State.noted_true]
  cases s.entryOf a with
  | none =>
    simp only
    split
    · exact State.run_noEvaluation _ _ h
    · exact h
  | some e =>
    simp only
    split
    · exact State.run_noEvaluation _ _ (State.supervise_noEvaluation _ _ _ _ h)
    · exact State.supervise_noEvaluation _ _ _ _ h

/-- R3: the inputs of an apparatus record and its effective position are written. -/
def State.appWritten (s : State) (a : Nat) (reported : Pos) (sub : Option Target) (eff : Pos) : State :=
  s.modApp a (fun x => { x with reported := reported, substituted := sub, effective := eff })

/-- R3, R5, R13: inputs that leave the effective position as it was are only written. -/
theorem State.setAppInputs_same {s : State} {d : AppDesc} {r : AppLive} (wake : Bool) (src : Source) (reported : Pos)
    (sub : Option Target) (hr : s.app d.number = some r)
    (he : effectivePosition sub (s.reporterActive d) reported = r.effective) :
    s.setAppInputs wake src d reported sub = s.appWritten d.number reported sub r.effective := by
  simp only [State.setAppInputs, hr, he, if_true]
  rfl

/-- R3, R5, R13: inputs that change the effective position make an image change. -/
theorem State.setAppInputs_changed {s : State} {d : AppDesc} {r : AppLive} (wake : Bool) (src : Source) (reported : Pos)
    (sub : Option Target) (hr : s.app d.number = some r)
    (he : effectivePosition sub (s.reporterActive d) reported ≠ r.effective) :
    s.setAppInputs wake src d reported sub =
      (s.appWritten d.number reported sub (effectivePosition sub (s.reporterActive d) reported)).appChanged wake src
        d.number r.effective (effectivePosition sub (s.reporterActive d) reported) := by
  simp only [State.setAppInputs, hr, if_neg he]
  rfl

/-- R3, R5, R13: new inputs are written, a change is noted, and beyond that no more is done than tasks can do. -/
theorem State.setAppInputs_within {s : State} {d : AppDesc} {r : AppLive} (src : Source) (reported : Pos)
    (sub : Option Target) {eff : Pos} (hr : s.app d.number = some r)
    (heff : effectivePosition sub (s.reporterActive d) reported = eff) :
    ((s.appWritten d.number reported sub eff).noted (.apparatus d.number) (eff != r.effective)).Within
      (s.setAppInputs true src d reported sub) := by
  by_cases he : eff = r.effective
  · rw [State.setAppInputs_same true src reported sub hr (heff.trans he), he, bne_self_eq_false, State.noted_false]
    exact State.Within.refl _
  · rw [State.setAppInputs_changed true src reported sub hr (by rw [heff]; exact he), heff, bne_iff_ne.2 he]
    exact State.appChanged_within _ _ _ _ _

/-- The record after new inputs, its marker set by a change of its effective position alone. -/
theorem State.setAppInputs_app {s : State} {d : AppDesc} {r : AppLive} (src : Source) (reported : Pos)
    (sub : Option Target) {eff : Pos} (hr : s.app d.number = some r)
    (heff : effectivePosition sub (s.reporterActive d) reported = eff) :
    ∃ x, (s.setAppInputs true src d reported sub).app d.number = some x ∧
      x.outer = AppLive.outer { r with
        reported := reported, substituted := sub, effective := eff, marker := r.marker || eff != r.effective } := by
  refine (State.setAppInputs_within src reported sub hr heff).app_some ?_
  rw [State.noted_app, State.appWritten, State.app_modApp _ _ _ _ (by exact fun _ => rfl), hr]
  simp

/-! ### An image change of a node -/

/-- R4: the inputs of a node record and its effective class are written. -/
def State.nodeWritten (s : State) (n : Nat) (cls : Cls) (sub : Option Cand) (eff : Cls) : State :=
  s.modNode n (fun x => { x with cls := cls, substituted := sub, effective := eff })

theorem State.setNodeInputs_same {s : State} {r : NodeLive} (wake : Bool) (n : Nat) (cls : Cls) (sub : Option Cand)
    (hr : s.node n = some r) (he : effectiveClass sub cls = r.effective) :
    s.setNodeInputs wake n cls sub = s.nodeWritten n cls sub r.effective := by
  simp only [State.setNodeInputs, hr, he, if_true]
  rfl

/-- R4, R6, R13: inputs that change the effective class make an image change. -/
theorem State.setNodeInputs_changed {s : State} {r : NodeLive} (n : Nat) (cls : Cls) (sub : Option Cand)
    (hr : s.node n = some r) (he : effectiveClass sub cls ≠ r.effective) :
    s.setNodeInputs true n cls sub =
      ((s.nodeWritten n cls sub (effectiveClass sub cls)).noted (.node n) true).evaluatorSees (.node n) := by
  simp only [State.setNodeInputs, hr, if_neg he]
  rfl

theorem State.setNodeInputs_within {s : State} {r : NodeLive} (n : Nat) (cls : Cls) (sub : Option Cand) {eff : Cls}
    (hr : s.node n = some r) (heff : effectiveClass sub cls = eff) :
    ((s.nodeWritten n cls sub eff).noted (.node n) (eff != r.effective)).Within (s.setNodeInputs true n cls sub) := by
  by_cases he : eff = r.effective
  · rw [State.setNodeInputs_same true n cls sub hr (heff.trans he), he, bne_self_eq_false, State.noted_false]
    exact State.Within.refl _
  · rw [State.setNodeInputs_changed n cls sub hr (by rw [heff]; exact he), heff, bne_iff_ne.2 he]
    exact State.evaluatorSees_within _ _

/-- The node records after new inputs of one, its marker set by a change of its effective class alone. -/
theorem State.setNodeInputs_node {s : State} {r : NodeLive} (n m : Nat) (cls : Cls) (sub : Option Cand) {eff : Cls}
    (hr : s.node n = some r) (heff : effectiveClass sub cls = eff) :
    (s.setNodeInputs true n cls sub).node m = if m = n then some { r with
      cls := cls, substituted := sub, effective := eff, marker := r.marker || eff != r.effective } else s.node m := by
  rw [(State.setNodeInputs_within n cls sub hr heff).node m, State.noted_node, State.nodeWritten,
    State.node_modNode _ _ _ _ (by exact fun _ => rfl)]
  by_cases h : m = n
  · subst h; simp [hr]
  · simp [h]

/-! ### The held change queue (R14, R40, R41) -/

/-- The held entry of a target after an update of that of another or its own. -/
theorem State.heldFor_modHeld (s : State) (i j : RecordId) (g : HeldCopy → HeldCopy) :
    (s.modHeld i g).heldFor j = (s.heldFor j).map (fun h => if j = i then { h with copy := g h.copy } else h) := by
  simp only [State.heldFor, State.modHeld, List.find?_map]
  have hk : ((fun h : HeldEntry => h.target == j) ∘ fun h => if h.target = i then { h with copy := g h.copy } else h) =
      fun h => h.target == j := by
    funext h
    simp only [Function.comp]
    split <;> rfl
  rw [hk]
  cases hf : s.held.find? (fun h => h.target == j) with
  | none => rfl
  | some h =>
    have ht : h.target = j := by simpa using List.find?_some hf
    simp [ht]

/-- R14, R41: a held entry is made at the tail, its target's marker is set, and the evaluator sees it. -/
theorem State.makeHeld_within (s : State) (i : RecordId) (c : HeldCopy) :
    (State.setMarker { s with held := s.held ++ [{ target := i, copy := c }] } i).Within (s.makeHeld i c) :=
  State.evaluatorSees_within _ _

theorem State.makeHeld_held (s : State) (i : RecordId) (c : HeldCopy) :
    (s.makeHeld i c).held = s.held ++ [{ target := i, copy := c }] := by
  rw [(s.makeHeld_within i c).held]
  cases i <;> rfl

theorem State.makeHeld_substs (s : State) (i : RecordId) (c : HeldCopy) : (s.makeHeld i c).substs = s.substs := by
  rw [(s.makeHeld_within i c).substs]
  cases i <;> rfl

theorem State.makeHeld_app {s : State} {a : Nat} {r : AppLive} (c : HeldCopy) (hr : s.app a = some r) :
    ∃ x, (s.makeHeld (.apparatus a) c).app a = some x ∧ x.outer = AppLive.outer { r with marker := true } := by
  refine (s.makeHeld_within (.apparatus a) c).app_some ?_
  simp only [State.setMarker]
  rw [State.app_modApp _ _ _ _ (by exact fun _ => rfl)]
  change (s.app a).map _ = _
  rw [hr]
  simp

theorem State.makeHeld_node {s : State} {n : Nat} {r : NodeLive} (c : HeldCopy) (hr : s.node n = some r) :
    (s.makeHeld (.node n) c).node n = some { r with marker := true } := by
  rw [(s.makeHeld_within (.node n) c).node]
  simp only [State.setMarker]
  rw [State.node_modNode _ _ _ _ (by exact fun _ => rfl)]
  change (s.node n).map _ = _
  rw [hr]
  simp

/-! ### New inputs for an apparatus, by the pass and the held change queue (R14) -/

section
variable {s : State} {d : AppDesc} {r : AppLive} (src : Source) (reported : Option Pos)
  (sub : Option (Option Target × Nat)) (hr : s.app d.number = some r)
include hr

theorem State.changeApp_open (hh : s.heldPassRunning = false) : s.changeApp src d reported sub =
    .applied ((s.setAppSubst d.number sub).setAppInputs true src d (reported.getD r.reported)
      ((sub.map Prod.fst).getD r.substituted)) := by
  simp only [State.changeApp, hr, hh, Bool.false_eq_true, if_false]
  cases sub <;> rfl

theorem State.changeApp_heldEntry {h : HeldEntry} (hh : s.heldPassRunning = true)
    (hf : s.heldFor (.apparatus d.number) = some h) :
    ∃ g : HeldCopy → HeldCopy, (∀ rep x q, g (.apparatus rep x q) =
        .apparatus (reported.getD rep) ((sub.map Prod.fst).getD x) ((sub.map Prod.snd).getD q)) ∧
      s.changeApp src d reported sub = .applied (s.modHeld (.apparatus d.number) g) := by
  simp only [State.changeApp, hr, hh, if_true, hf]
  refine ⟨_, fun rep x q => ?_, rfl⟩
  cases sub <;> rfl

theorem State.changeApp_heldSame (hh : s.heldPassRunning = true) (hf : s.heldFor (.apparatus d.number) = none)
    (he : effectivePosition ((sub.map Prod.fst).getD r.substituted) (s.reporterActive d) (reported.getD r.reported) =
      r.effective) :
    s.changeApp src d reported sub =
      .applied ((s.setAppSubst d.number sub).setAppInputs true src d (reported.getD r.reported)
        ((sub.map Prod.fst).getD r.substituted)) := by
  simp only [State.changeApp, hr, hh, if_true, hf]
  cases sub <;> exact if_pos he

theorem State.changeApp_heldFull (hh : s.heldPassRunning = true) (hf : s.heldFor (.apparatus d.number) = none)
    (he : effectivePosition ((sub.map Prod.fst).getD r.substituted) (s.reporterActive d) (reported.getD r.reported) ≠
      r.effective) (hl : 32 ≤ s.held.length) :
    s.changeApp src d reported sub = .heldFull := by
  have hfull : s.heldFull = true := decide_eq_true hl
  simp only [State.changeApp, hr, hh, if_true, hf, hfull]
  cases sub <;> exact if_neg he

theorem State.changeApp_joins (hh : s.heldPassRunning = true) (hf : s.heldFor (.apparatus d.number) = none)
    (he : effectivePosition ((sub.map Prod.fst).getD r.substituted) (s.reporterActive d) (reported.getD r.reported) ≠
      r.effective) (hl : s.held.length < 32) :
    s.changeApp src d reported sub = .applied (s.makeHeld (.apparatus d.number)
      (.apparatus (reported.getD r.reported) ((sub.map Prod.fst).getD r.substituted)
        ((sub.map Prod.snd).getD (s.substPort (.apparatus d.number))))) := by
  have hfull : s.heldFull = false := decide_eq_false (Nat.not_le.2 hl)
  simp only [State.changeApp, hr, hh, if_true, hf, hfull, Bool.false_eq_true, if_false]
  cases sub <;> exact if_neg he

end

end Sys2Proof.Machine
end

section
/-! SUBSTITUTE and END SUBSTITUTION (R15, R16), outside a held pass and in one. -/

namespace Sys2Proof.Machine

/-! ### The substitution table -/

theorem State.setSubst_eq (s : State) (i : RecordId) (x : Option (SubstValue × Nat)) :
    ∃ l, s.setSubst i x = { s with substs := l } := by
  unfold State.setSubst
  split
  · exact ⟨_, rfl⟩
  · split
    · exact ⟨_, rfl⟩
    · exact ⟨_, rfl⟩

section
variable (s : State) (i : RecordId) (x : Option (SubstValue × Nat))

@[simp] theorem State.setSubst_apps : (s.setSubst i x).apps = s.apps := by obtain ⟨_, h⟩ := s.setSubst_eq i x; rw [h]
@[simp] theorem State.setSubst_nodes : (s.setSubst i x).nodes = s.nodes := by obtain ⟨_, h⟩ := s.setSubst_eq i x; rw [h]
@[simp] theorem State.setSubst_held : (s.setSubst i x).held = s.held := by obtain ⟨_, h⟩ := s.setSubst_eq i x; rw [h]
@[simp] theorem State.setSubst_app (a : Nat) : (s.setSubst i x).app a = s.app a := by
  obtain ⟨_, h⟩ := s.setSubst_eq i x; rw [h]; rfl
@[simp] theorem State.setSubst_node (n : Nat) : (s.setSubst i x).node n = s.node n := by
  obtain ⟨_, h⟩ := s.setSubst_eq i x; rw [h]; rfl
@[simp] theorem State.setSubst_reporterActive (d : AppDesc) : (s.setSubst i x).reporterActive d = s.reporterActive d := by
  obtain ⟨_, h⟩ := s.setSubst_eq i x; rw [h]; rfl

end

/-- A substitution placed or replaced stands with its value and port. -/
theorem State.subst_setSubst_some (s : State) (i : RecordId) (v : SubstValue) (p : Nat) :
    (s.setSubst i (some (v, p))).subst i = some { target := i, value := v, port := p } := by
  unfold State.setSubst
  cases hs : s.subst i with
  | none =>
    have hf : s.substs.find? (fun y => y.target == i) = none := hs
    simp [State.subst, List.find?_append, hf]
  | some y =>
    have hf : s.substs.find? (fun y => y.target == i) = some y := hs
    have ht : y.target = i := by simpa using List.find?_some hf
    have hk : ((fun z : Subst => z.target == i) ∘ fun z => if z.target = i then { z with value := v, port := p } else z) =
        fun z => z.target == i := by
      funext z
      simp only [Function.comp]
      split <;> rfl
    simp only [Option.isSome_some, if_true, State.subst, List.find?_map]
    rw [hk, hf]
    simp [ht]

theorem State.subst_setSubst_none (s : State) (i : RecordId) : (s.setSubst i none).subst i = none := by
  simp [State.setSubst, State.subst, List.find?_eq_none]

/-! ### What stands, and what counts -/

theorem HeldCopy.substitutes_iff (c : HeldCopy) : c.substitutes = true ↔
    (∃ rep g q, c = .apparatus rep (some g) q) ∨ ∃ cls x q, c = .node cls (some x) q := by
  cases c with
  | apparatus rep x q => cases x <;> simp [HeldCopy.substitutes]
  | node cls x q => cases x <;> simp [HeldCopy.substitutes]

/-- Log 26: a substitution stands in the table, or in the target's held entry. -/
theorem State.substStands_iff (s : State) (i : RecordId) : s.substStands i = true ↔
    (∃ y ∈ s.substs, y.target = i) ∨ ∃ h, s.heldFor i = some h ∧ h.copy.substitutes = true := by
  have ht : (s.subst i).isSome = true ↔ ∃ y ∈ s.substs, y.target = i := by
    simp [State.subst, List.find?_isSome]
  unfold State.substStands
  rw [Bool.or_eq_true, ht]
  cases s.heldFor i <;> simp

/-- R15: with no held entries the table alone counts. -/
theorem State.substStands_of_subst {s : State} {i : RecordId} (h : (s.subst i).isSome = true) : s.substStands i = true := by
  simp [State.substStands, h]

theorem State.substCount_of_no_held {s : State} (h : s.held = []) : s.substCount = s.substs.length := by
  simp [State.substCount, h]

theorem State.subst_isNone_eq (s : State) (i : RecordId) :
    (s.subst i).isNone = s.substs.all (fun y => y.target != i) := by
  rw [Bool.eq_iff_iff, Option.isNone_iff_eq_none, State.subst, List.find?_eq_none]
  simp

theorem State.substCount_eq (s : State) : s.substCount = s.substs.length + (s.held.filter (fun h =>
    (match h.copy with | .apparatus _ x _ => x.isSome | .node _ x _ => x.isSome) &&
      s.substs.all (fun y => y.target != h.target))).length := by
  unfold State.substCount
  congr 2
  apply List.filter_congr
  intro h _
  rw [s.subst_isNone_eq]
  cases h.copy <;> rfl

/-! ### The checks -/

/-- The target is described, a node measured (R15, check 1). -/
def State.knownTarget (s : State) (i : RecordId) : Prop :=
  (∃ a, i = .apparatus a ∧ (s.appDesc a).isSome = true) ∨ ∃ n d, i = .node n ∧ s.nodeDesc n = some d ∧ d.measured = true

theorem State.substitutable_iff (s : State) (i : RecordId) : s.substitutable i = true ↔ s.knownTarget i := by
  cases i with
  | apparatus a => simp [State.substitutable, State.knownTarget]
  | node n => cases h : s.nodeDesc n <;> simp [State.substitutable, State.knownTarget, h]

theorem State.substitutable_eq_false {s : State} {i : RecordId} (h : ¬ s.knownTarget i) : s.substitutable i = false :=
  Bool.eq_false_iff.2 (fun e => h ((s.substitutable_iff i).1 e))

theorem SubstValue.fits_iff (v : SubstValue) (i : RecordId) : SubstValue.fits v i = true ↔
    (∃ a g, i = .apparatus a ∧ v = .position g) ∨ ∃ n c, i = .node n ∧ v = .cls c := by
  cases i <;> cases v <;> simp [SubstValue.fits]

theorem State.engagedTarget_iff (s : State) (i : RecordId) : s.engagedTarget i = true ↔
    ∃ a r t, i = .apparatus a ∧ s.app a = some r ∧ r.ticket = some t := by
  cases i with
  | apparatus a =>
    cases h : s.app a with
    | none => simp [State.engagedTarget, State.engaged, h]
    | some r => simp [State.engagedTarget, State.engaged, h, Option.isSome_iff_exists]
  | node n => simp [State.engagedTarget]

@[simp] theorem State.taking_substituteCheck (s : State) (p : Nat) (f : Frame) (i : RecordId) (v : SubstValue) :
    (s.taking p f).substituteCheck i v = s.substituteCheck i v := by
  cases i <;> rfl

theorem State.substituteCheck_passed {s : State} {i : RecordId} {v : SubstValue} (hk : s.substitutable i = true)
    (hf : SubstValue.fits v i = true) (he : s.engagedTarget i = false) (hr : s.substStands i = true ∨ s.substCount < 16) :
    s.substituteCheck i v = none := by
  have h : ¬ (s.substStands i = false ∧ s.substCount ≥ Config.maxSubsts) := by
    rintro ⟨h1, h2⟩
    rcases hr with hr | hr
    · rw [hr] at h1; cases h1
    · exact absurd h2 (Nat.not_le.2 hr)
  simp only [State.substituteCheck, hk, hf, he, Bool.true_eq_false, Bool.false_eq_true, if_false, if_neg h]

section
variable {s : State} {p : Nat} {f : Frame}

theorem exec_substitute_refused {i : RecordId} {v : SubstValue} {c : AnswerCode} (h : s.Takes p .substitute f)
    (hd : decodeSubstitute f.body = some (i, v)) (hc : s.substituteCheck i v = some c) :
    exec (.substitute p) s = .next (s.answered p f c []) := by
  rw [exec_substitute_taken h hd]
  simp only [State.substitute, State.taking_substituteCheck, hc, Reply.code, State.replied_unchanged]

theorem exec_substitute_applied {i : RecordId} {v : SubstValue} {u : State} (h : s.Takes p .substitute f)
    (hd : decodeSubstitute f.body = some (i, v)) (hc : s.substituteCheck i v = none)
    (hu : (s.taking p f).changeSubst i (some v) p = .applied u) :
    exec (.substitute p) s =
      .next (u.placeAnswer p (s.port p).transmit.length (Frame.answer f .done [])) ∧
    s.answers (u.placeAnswer p (s.port p).transmit.length (Frame.answer f .done [])) p f .done [] := by
  refine ⟨?_, (State.changeSubst_around _ _ _ _ _ hu).answers h.listed _ _⟩
  rw [exec_substitute_taken h hd]
  simp only [State.substitute, State.taking_substituteCheck, hc, hu, Reply.code, State.replied_now]

theorem exec_substitute_heldFull {i : RecordId} {v : SubstValue} (h : s.Takes p .substitute f)
    (hd : decodeSubstitute f.body = some (i, v)) (hc : s.substituteCheck i v = none)
    (hu : (s.taking p f).changeSubst i (some v) p = .heldFull) :
    exec (.substitute p) s = .next (s.answered p f .heldFull []) := by
  rw [exec_substitute_taken h hd]
  simp only [State.substitute, State.taking_substituteCheck, hc, hu, Reply.code, State.replied_unchanged]

theorem exec_endSubstitution_applied {i : RecordId} {u : State} (h : s.Takes p .endSubstitution f)
    (hd : decodeEndSubstitution f.body = some i) (hk : s.substitutable i = true) (hs : s.substStands i = true)
    (hu : (s.taking p f).changeSubst i none p = .applied u) :
    exec (.endSubstitution p) s =
      .next (u.placeAnswer p (s.port p).transmit.length (Frame.answer f .done [])) ∧
    s.answers (u.placeAnswer p (s.port p).transmit.length (Frame.answer f .done [])) p f .done [] := by
  refine ⟨?_, (State.changeSubst_around _ _ _ _ _ hu).answers h.listed _ _⟩
  rw [exec_endSubstitution_taken h hd]
  simp only [State.endSubstitution, State.taking_substitutable, State.taking_substStands, hk, hs, Bool.true_eq_false,
    if_false, hu, Reply.code, State.replied_now]

theorem exec_endSubstitution_heldFull {i : RecordId} (h : s.Takes p .endSubstitution f)
    (hd : decodeEndSubstitution f.body = some i) (hk : s.substitutable i = true) (hs : s.substStands i = true)
    (hu : (s.taking p f).changeSubst i none p = .heldFull) :
    exec (.endSubstitution p) s = .next (s.answered p f .heldFull []) := by
  rw [exec_endSubstitution_taken h hd]
  simp only [State.endSubstitution, State.taking_substitutable, State.taking_substStands, hk, hs, Bool.true_eq_false,
    if_false, hu, Reply.code, State.replied_unchanged]

/-- The refusals of SUBSTITUTE, in the order of its checks (R15). -/
theorem substitute_refusals {i : RecordId} {v : SubstValue} (h : s.Takes p .substitute f)
    (hd : decodeSubstitute f.body = some (i, v)) :
    (s.substitutable i = false → exec (.substitute p) s = .next (s.answered p f .unknownTarget [])) ∧
    (s.substitutable i = true → SubstValue.fits v i = false → exec (.substitute p) s = .next (s.answered p f .outOfRange [])) ∧
    (s.substitutable i = true → SubstValue.fits v i = true → s.engagedTarget i = true →
      exec (.substitute p) s = .next (s.answered p f .engaged [])) ∧
    (s.substitutable i = true → SubstValue.fits v i = true → s.engagedTarget i = false → s.substStands i = false →
      16 ≤ s.substCount → exec (.substitute p) s = .next (s.answered p f .tableFull [])) := by
  refine ⟨fun h1 => ?_, fun h1 h2 => ?_, fun h1 h2 h3 => ?_, fun h1 h2 h3 h4 h5 => ?_⟩
  all_goals refine exec_substitute_refused h hd ?_
  · simp only [State.substituteCheck, h1, if_true]
  · simp only [State.substituteCheck, h1, h2, Bool.true_eq_false, if_false, if_true]
  · simp only [State.substituteCheck, h1, h2, h3, Bool.true_eq_false, if_false, if_true]
  · have hfull : s.substStands i = false ∧ s.substCount ≥ Config.maxSubsts := ⟨h4, h5⟩
    simp only [State.substituteCheck, h1, h2, h3, Bool.true_eq_false, Bool.false_eq_true, if_false, if_pos hfull]

/-- The refusals of END SUBSTITUTION (R16). -/
theorem endSubstitution_refusals {i : RecordId} (h : s.Takes p .endSubstitution f)
    (hd : decodeEndSubstitution f.body = some i) :
    (s.substitutable i = false → exec (.endSubstitution p) s = .next (s.answered p f .unknownTarget [])) ∧
    (s.substitutable i = true → s.substStands i = false →
      exec (.endSubstitution p) s = .next (s.answered p f .notApplicable [])) := by
  rw [exec_endSubstitution_taken h hd]
  refine ⟨fun h1 => ?_, fun h1 h2 => ?_⟩
  · simp only [State.endSubstitution, State.taking_substitutable, h1, if_true, Reply.code, State.replied_unchanged]
  · simp only [State.endSubstitution, State.taking_substitutable, State.taking_substStands, h1, h2, Bool.true_eq_false,
      if_false, if_true, Reply.code, State.replied_unchanged]

end

/-! ### What a new substitution of an apparatus comes to -/

/-- R15: an apparatus that is described and bears no ticket passes the checks of a SUBSTITUTE with a position. -/
theorem State.substituteCheck_apparatus {s : State} {a : Nat} {d : AppDesc} {r : AppLive} (g : Target)
    (hd : s.appDesc a = some d) (hr : s.app a = some r) (ht : r.ticket = none)
    (hroom : s.substStands (.apparatus a) = true ∨ s.substCount < 16) :
    s.substituteCheck (.apparatus a) (.position g) = none := by
  refine State.substituteCheck_passed ?_ rfl ?_ hroom
  · simp [State.substitutable, hd]
  · simp [State.engagedTarget, State.engaged, hr, ht]

theorem State.substituteCheck_node {s : State} {n : Nat} {d : NodeDesc} (c : Cand) (hd : s.nodeDesc n = some d)
    (hm : d.measured = true) (hroom : s.substStands (.node n) = true ∨ s.substCount < 16) :
    s.substituteCheck (.node n) (.cls c) = none :=
  State.substituteCheck_passed (by simp [State.substitutable, hd, hm]) rfl rfl hroom

theorem State.changeSubst_position {s : State} {a : Nat} {d : AppDesc} (hd : s.appDesc a = some d) (g : Target) (p : Nat) :
    s.changeSubst (.apparatus a) (some (.position g)) p = s.changeApp .substitution d none (some (some g, p)) := by
  simp only [State.changeSubst, hd]

theorem State.changeSubst_noPosition {s : State} {a : Nat} {d : AppDesc} (hd : s.appDesc a = some d) (p : Nat) :
    s.changeSubst (.apparatus a) none p = s.changeApp .substitution d none (some (none, p)) := by
  simp only [State.changeSubst, hd]

/-- R15, R16: an apparatus record and the table after a substitution of it is placed (`some`) or ended (`none`). -/
def State.appSubstituted (s : State) (d : AppDesc) (r : AppLive) (sub : Option Target) (p : Nat) : State :=
  (s.setAppSubst d.number (some (sub, p))).setAppInputs true .substitution d r.reported sub

theorem State.setAppSubst_some (s : State) (a : Nat) (sub : Option Target) (p : Nat) :
    s.setAppSubst a (some (sub, p)) = s.setSubst (.apparatus a) (sub.map (fun t => (SubstValue.position t, p))) := rfl

section
variable {s : State} {d : AppDesc} {r : AppLive} (sub : Option Target) (p : Nat) (hr : s.app d.number = some r)
include hr

theorem State.appSubstituted_within :
    (((s.setSubst (.apparatus d.number) (sub.map (fun t => (SubstValue.position t, p)))).appWritten d.number r.reported
        sub (effectivePosition sub (s.reporterActive d) r.reported)).noted (.apparatus d.number)
        (effectivePosition sub (s.reporterActive d) r.reported != r.effective)).Within (s.appSubstituted d r sub p) :=
  State.setAppInputs_within _ _ _ (by simpa [State.setAppSubst_some] using hr)
    (by simp)

theorem State.appSubstituted_app :
    ∃ x, (s.appSubstituted d r sub p).app d.number = some x ∧ x.reported = r.reported ∧ x.substituted = sub ∧
      x.effective = effectivePosition sub (s.reporterActive d) r.reported := by
  obtain ⟨x, hx, ho⟩ := State.setAppInputs_app (s := s.setAppSubst d.number (some (sub, p))) .substitution r.reported sub
    (r := r) (by simpa [State.setAppSubst_some] using hr) rfl
  obtain ⟨_, hrep, hsub, heff, _⟩ := AppLive.of_outer ho
  exact ⟨x, hx, hrep, hsub, by simpa [State.setAppSubst_some] using heff⟩

theorem State.appSubstituted_nodes : (s.appSubstituted d r sub p).nodes = s.nodes := by
  rw [(State.appSubstituted_within sub p hr).nodes]
  simp [State.appWritten]

theorem State.appSubstituted_held : (s.appSubstituted d r sub p).held = s.held := by
  rw [(State.appSubstituted_within sub p hr).held]
  simp [State.appWritten]

theorem State.appSubstituted_subst : (s.appSubstituted d r sub p).subst (.apparatus d.number) =
    sub.map (fun t => { target := .apparatus d.number, value := .position t, port := p }) := by
  rw [(State.appSubstituted_within sub p hr).subst, State.noted_subst]
  change (s.setSubst (.apparatus d.number) (sub.map (fun t => (SubstValue.position t, p)))).subst _ = _
  cases sub with
  | none => exact s.subst_setSubst_none _
  | some t => exact s.subst_setSubst_some _ _ _

end

/-! ### What a new substitution of a node comes to -/

/-- R15, R16: a node record and the table after a substitution of it is placed (`some`) or ended (`none`). -/
def State.nodeSubstituted (s : State) (n : Nat) (r : NodeLive) (sub : Option Cand) (p : Nat) : State :=
  (s.setNodeSubst n sub p).setNodeInputs true n r.cls sub

section
variable {s : State} {n : Nat} {r : NodeLive} (sub : Option Cand) (p : Nat) (hr : s.node n = some r)
include hr

theorem State.changeNodeSubst_open (hh : s.heldPassRunning = false) :
    s.changeNodeSubst n sub p = .applied (s.nodeSubstituted n r sub p) := by
  simp only [State.changeNodeSubst, hr, hh, Bool.false_eq_true, if_false]
  rfl

theorem State.changeNodeSubst_heldFull (hh : s.heldPassRunning = true) (hf : s.heldFor (.node n) = none)
    (he : effectiveClass sub r.cls ≠ r.effective) (hl : 32 ≤ s.held.length) :
    s.changeNodeSubst n sub p = .heldFull := by
  have hfull : s.heldFull = true := decide_eq_true hl
  simp only [State.changeNodeSubst, hr, hh, if_true, hf, if_neg he, hfull]

theorem State.changeNodeSubst_joins (hh : s.heldPassRunning = true) (hf : s.heldFor (.node n) = none)
    (he : effectiveClass sub r.cls ≠ r.effective) (hl : s.held.length < 32) :
    s.changeNodeSubst n sub p = .applied (s.makeHeld (.node n) (.node r.cls sub p)) := by
  have hfull : s.heldFull = false := decide_eq_false (Nat.not_le.2 hl)
  simp only [State.changeNodeSubst, hr, hh, if_true, hf, if_neg he, hfull, Bool.false_eq_true, if_false]

theorem State.nodeSubstituted_within :
    (((s.setSubst (.node n) (sub.map (fun c => (SubstValue.cls c, p)))).nodeWritten n r.cls sub
        (effectiveClass sub r.cls)).noted (.node n) (effectiveClass sub r.cls != r.effective)).Within
      (s.nodeSubstituted n r sub p) :=
  State.setNodeInputs_within _ _ _ (by simpa [State.setNodeSubst] using hr) rfl

theorem State.nodeSubstituted_node :
    ∃ x, (s.nodeSubstituted n r sub p).node n = some x ∧ x.cls = r.cls ∧ x.substituted = sub ∧
      x.effective = effectiveClass sub r.cls :=
  ⟨_, (State.setNodeInputs_node n n r.cls sub (r := r) (by simpa [State.setNodeSubst] using hr) rfl).trans (if_pos rfl),
    rfl, rfl, rfl⟩

theorem State.nodeSubstituted_inputs :
    (s.nodeSubstituted n r sub p).apps.map AppLive.inputs = s.apps.map AppLive.inputs := by
  rw [(State.nodeSubstituted_within sub p hr).appInputs]
  simp [State.nodeWritten]

theorem State.nodeSubstituted_subst : (s.nodeSubstituted n r sub p).subst (.node n) =
    sub.map (fun c => { target := .node n, value := .cls c, port := p }) := by
  rw [(State.nodeSubstituted_within sub p hr).subst, State.noted_subst]
  change (s.setSubst (.node n) (sub.map (fun c => (SubstValue.cls c, p)))).subst _ = _
  cases sub with
  | none => exact s.subst_setSubst_none _
  | some t => exact s.subst_setSubst_some _ _ _

end

/-! ### Outside a held pass -/

section
variable {s : State} {p : Nat} {f : Frame} (hh : s.heldPassRunning = false)
include hh

theorem substitute_apparatus_open {a : Nat} {g : Target} {d : AppDesc} {r : AppLive} (h : s.Takes p .substitute f)
    (hb : decodeSubstitute f.body = some (.apparatus a, .position g)) (hd : s.appDesc a = some d)
    (hr : s.app a = some r) (ht : r.ticket = none) (hroom : s.substStands (.apparatus a) = true ∨ s.substCount < 16) :
    ∃ t x, exec (.substitute p) s = .next t ∧ t.app a = some x ∧
      x.substituted = some g ∧ x.effective = g.pos ∧ x.reported = r.reported ∧
      t.subst (.apparatus a) = some { target := .apparatus a, value := .position g, port := p } ∧
      t.nodes = s.nodes ∧ s.answers t p f .done [] := by
  obtain rfl := State.appDesc_number hd
  obtain ⟨x, hx, hrep, hsub, heff⟩ := State.appSubstituted_app (s := s.taking p f) (some g) p hr
  obtain ⟨hexec, hans⟩ := exec_substitute_applied h hb (State.substituteCheck_apparatus g hd hr ht hroom)
    ((State.changeSubst_position (s := s.taking p f) hd g p).trans (State.changeApp_open _ _ _ hr hh))
  refine ⟨_, x, hexec, hx, hsub, heff, hrep, ?_, ?_, hans⟩
  · exact State.appSubstituted_subst (s := s.taking p f) (some g) p hr
  · exact State.appSubstituted_nodes (s := s.taking p f) (some g) p hr

theorem substitute_node_open {n : Nat} {c : Cand} {d : NodeDesc} {r : NodeLive} (h : s.Takes p .substitute f)
    (hb : decodeSubstitute f.body = some (.node n, .cls c)) (hd : s.nodeDesc n = some d) (hm : d.measured = true)
    (hr : s.node n = some r) (hroom : s.substStands (.node n) = true ∨ s.substCount < 16) :
    ∃ t x, exec (.substitute p) s = .next t ∧ t.node n = some x ∧
      x.substituted = some c ∧ x.effective = c.toCls ∧ x.cls = r.cls ∧
      t.subst (.node n) = some { target := .node n, value := .cls c, port := p } ∧
      t.apps.map AppLive.inputs = s.apps.map AppLive.inputs ∧ s.answers t p f .done [] := by
  obtain ⟨x, hx, hcls, hsub, heff⟩ := State.nodeSubstituted_node (s := s.taking p f) (some c) p hr
  obtain ⟨hexec, hans⟩ := exec_substitute_applied h hb (State.substituteCheck_node c hd hm hroom)
    (State.changeNodeSubst_open (some c) p hr hh)
  refine ⟨_, x, hexec, hx, hsub, heff, hcls, ?_, ?_, hans⟩
  · exact State.nodeSubstituted_subst (s := s.taking p f) (some c) p hr
  · exact State.nodeSubstituted_inputs (s := s.taking p f) (some c) p hr

theorem endSubstitution_apparatus_open {a : Nat} {d : AppDesc} {r : AppLive} (h : s.Takes p .endSubstitution f)
    (hb : decodeEndSubstitution f.body = some (.apparatus a)) (hd : s.appDesc a = some d) (hr : s.app a = some r)
    (hs : s.substStands (.apparatus a) = true) :
    ∃ t x, exec (.endSubstitution p) s = .next t ∧ t.app a = some x ∧
      x.substituted = none ∧ x.effective = effectivePosition none (s.reporterActive d) r.reported ∧
      t.subst (.apparatus a) = none ∧ t.nodes = s.nodes ∧ s.answers t p f .done [] := by
  obtain rfl := State.appDesc_number hd
  obtain ⟨x, hx, -, hsub, heff⟩ := State.appSubstituted_app (s := s.taking p f) none p hr
  obtain ⟨hexec, hans⟩ := exec_endSubstitution_applied h hb (by simp [State.substitutable, hd]) hs
    ((State.changeSubst_noPosition (s := s.taking p f) hd p).trans (State.changeApp_open _ _ _ hr hh))
  refine ⟨_, x, hexec, hx, hsub, by simpa using heff, ?_, ?_, hans⟩
  · exact State.appSubstituted_subst (s := s.taking p f) none p hr
  · exact State.appSubstituted_nodes (s := s.taking p f) none p hr

theorem endSubstitution_node_open {n : Nat} {d : NodeDesc} {r : NodeLive} (h : s.Takes p .endSubstitution f)
    (hb : decodeEndSubstitution f.body = some (.node n)) (hd : s.nodeDesc n = some d) (hm : d.measured = true)
    (hr : s.node n = some r) (hs : s.substStands (.node n) = true) :
    ∃ t x, exec (.endSubstitution p) s = .next t ∧ t.node n = some x ∧
      x.substituted = none ∧ x.effective = r.cls ∧ t.subst (.node n) = none ∧
      t.apps.map AppLive.inputs = s.apps.map AppLive.inputs ∧ s.answers t p f .done [] := by
  obtain ⟨x, hx, -, hsub, heff⟩ := State.nodeSubstituted_node (s := s.taking p f) none p hr
  obtain ⟨hexec, hans⟩ := exec_endSubstitution_applied h hb (by simp [State.substitutable, hd, hm]) hs
    (State.changeNodeSubst_open none p hr hh)
  refine ⟨_, x, hexec, hx, hsub, heff, ?_, ?_, hans⟩
  · exact State.nodeSubstituted_subst (s := s.taking p f) none p hr
  · exact State.nodeSubstituted_inputs (s := s.taking p f) none p hr

end

/-! ### In a held pass -/

/-- R14: a held entry joins for an apparatus: its record keeps its inputs and has its marker set. -/
theorem State.makeHeld_app_inputs {s : State} {a : Nat} {r : AppLive} (c : HeldCopy) (hr : s.app a = some r) :
    ((s.makeHeld (.apparatus a) c).app a).map AppLive.inputs = some r.inputs ∧
    ((s.makeHeld (.apparatus a) c).app a).map AppLive.marker = some true := by
  obtain ⟨x, hx, ho⟩ := State.makeHeld_app c hr
  rw [hx]
  obtain ⟨-, hrep, hsub, heff, hpre, hlat, hnum, hmark⟩ := AppLive.of_outer ho
  simp only [Option.map_some, AppLive.inputs, hrep, hsub, heff, hpre, hlat, hnum, hmark, and_self]

section
variable {s : State} {p : Nat} {f : Frame} (hh : s.heldPassRunning = true)
include hh

theorem substitute_apparatus_held {a : Nat} {g : Target} {d : AppDesc} {r : AppLive} (h : s.Takes p .substitute f)
    (hb : decodeSubstitute f.body = some (.apparatus a, .position g)) (hd : s.appDesc a = some d)
    (hr : s.app a = some r) (ht : r.ticket = none) (hroom : s.substStands (.apparatus a) = true ∨ s.substCount < 16) :
    (s.heldFor (.apparatus a) = none → g.pos = r.effective →
      ∃ t, exec (.substitute p) s = .next t ∧ s.answers t p f .done [] ∧ t.held = s.held ∧
        t.subst (.apparatus a) = some { target := .apparatus a, value := .position g, port := p } ∧
        (t.app a).map AppLive.substituted = some (some g) ∧ (t.app a).map AppLive.effective = some r.effective) ∧
    (s.heldFor (.apparatus a) = none → g.pos ≠ r.effective → 32 ≤ s.held.length →
      exec (.substitute p) s = .next (s.answered p f .heldFull [])) ∧
    (s.heldFor (.apparatus a) = none → g.pos ≠ r.effective → s.held.length < 32 →
      ∃ t, exec (.substitute p) s = .next t ∧ s.answers t p f .done [] ∧ t.substs = s.substs ∧
        t.held = s.held ++ [{ target := .apparatus a, copy := .apparatus r.reported (some g) p }] ∧
        (t.app a).map AppLive.inputs = some r.inputs ∧ (t.app a).map AppLive.marker = some true) ∧
    (∀ old sub q, s.heldFor (.apparatus a) = some { target := .apparatus a, copy := .apparatus old sub q } →
      ∃ t, exec (.substitute p) s = .next t ∧ s.answers t p f .done [] ∧ t.substs = s.substs ∧
        t.heldFor (.apparatus a) = some { target := .apparatus a, copy := .apparatus old (some g) p } ∧
        (t.app a).map AppLive.inputs = some r.inputs) := by
  obtain rfl := State.appDesc_number hd
  have hcheck := State.substituteCheck_apparatus g hd hr ht hroom
  have hchange := State.changeSubst_position (s := s.taking p f) hd g p
  refine ⟨fun hf he => ?_, fun hf he hl => ?_, fun hf he hl => ?_, fun old sub q hf => ?_⟩
  · obtain ⟨x, hx, -, hsub, heff⟩ := State.appSubstituted_app (s := s.taking p f) (some g) p hr
    obtain ⟨hexec, hans⟩ := exec_substitute_applied h hb hcheck
      (hchange.trans (State.changeApp_heldSame _ _ _ hr hh hf he))
    refine ⟨_, hexec, hans, ?_, ?_, ?_, ?_⟩
    · exact State.appSubstituted_held (s := s.taking p f) (some g) p hr
    · exact State.appSubstituted_subst (s := s.taking p f) (some g) p hr
    · exact (congrArg (Option.map AppLive.substituted) hx).trans (congrArg some hsub)
    · exact (congrArg (Option.map AppLive.effective) hx).trans (congrArg some (heff.trans he))
  · exact exec_substitute_heldFull h hb hcheck (hchange.trans (State.changeApp_heldFull _ _ _ hr hh hf he hl))
  · obtain ⟨hexec, hans⟩ := exec_substitute_applied h hb hcheck
      (hchange.trans (State.changeApp_joins _ _ _ hr hh hf he hl))
    exact ⟨_, hexec, hans, State.makeHeld_substs _ _ _, State.makeHeld_held _ _ _,
      State.makeHeld_app_inputs (s := s.taking p f) _ hr⟩
  · obtain ⟨k, hk, hch⟩ := State.changeApp_heldEntry (s := s.taking p f) .substitution none (some (some g, p)) hr hh hf
    obtain ⟨hexec, hans⟩ := exec_substitute_applied h hb hcheck (hchange.trans hch)
    refine ⟨_, hexec, hans, rfl, ?_, congrArg (Option.map AppLive.inputs) hr⟩
    rw [State.placeAnswer_heldFor, State.heldFor_modHeld, State.taking_heldFor, hf]
    simp [hk]

theorem substitute_node_held {n : Nat} {c : Cand} {d : NodeDesc} {r : NodeLive} (h : s.Takes p .substitute f)
    (hb : decodeSubstitute f.body = some (.node n, .cls c)) (hd : s.nodeDesc n = some d) (hm : d.measured = true)
    (hr : s.node n = some r) (hroom : s.substStands (.node n) = true ∨ s.substCount < 16)
    (hf : s.heldFor (.node n) = none) (he : c.toCls ≠ r.effective) :
    (32 ≤ s.held.length → exec (.substitute p) s = .next (s.answered p f .heldFull [])) ∧
    (s.held.length < 32 →
      ∃ t, exec (.substitute p) s = .next t ∧ s.answers t p f .done [] ∧ t.substs = s.substs ∧
        t.held = s.held ++ [{ target := .node n, copy := .node r.cls (some c) p }] ∧
        t.node n = some { r with marker := true }) := by
  have hcheck := State.substituteCheck_node c hd hm hroom
  refine ⟨fun hl => ?_, fun hl => ?_⟩
  · exact exec_substitute_heldFull h hb hcheck (State.changeNodeSubst_heldFull (some c) p hr hh hf he hl)
  · obtain ⟨hexec, hans⟩ := exec_substitute_applied h hb hcheck (State.changeNodeSubst_joins (some c) p hr hh hf he hl)
    exact ⟨_, hexec, hans, State.makeHeld_substs _ _ _, State.makeHeld_held _ _ _,
      State.makeHeld_node (s := s.taking p f) _ hr⟩

theorem endSubstitution_apparatus_held {a : Nat} {d : AppDesc} {r : AppLive} (h : s.Takes p .endSubstitution f)
    (hb : decodeEndSubstitution f.body = some (.apparatus a)) (hd : s.appDesc a = some d) (hr : s.app a = some r)
    (hs : s.substStands (.apparatus a) = true) :
    (s.heldFor (.apparatus a) = none → effectivePosition none (s.reporterActive d) r.reported ≠ r.effective →
      (32 ≤ s.held.length → exec (.endSubstitution p) s = .next (s.answered p f .heldFull [])) ∧
      (s.held.length < 32 →
        ∃ t, exec (.endSubstitution p) s = .next t ∧ s.answers t p f .done [] ∧ t.substs = s.substs ∧
          (∃ q, t.held = s.held ++ [{ target := .apparatus a, copy := .apparatus r.reported none q }]) ∧
          (t.app a).map AppLive.inputs = some r.inputs ∧ (t.app a).map AppLive.marker = some true)) ∧
    (∀ old sub q, s.heldFor (.apparatus a) = some { target := .apparatus a, copy := .apparatus old sub q } →
      ∃ t, exec (.endSubstitution p) s = .next t ∧ s.answers t p f .done [] ∧ t.substs = s.substs ∧
        (∃ q', t.heldFor (.apparatus a) = some { target := .apparatus a, copy := .apparatus old none q' }) ∧
        (t.app a).map AppLive.inputs = some r.inputs) := by
  obtain rfl := State.appDesc_number hd
  have hk : s.substitutable (.apparatus d.number) = true := by simp [State.substitutable, hd]
  have hchange := State.changeSubst_noPosition (s := s.taking p f) hd p
  refine ⟨fun hf he => ?_, fun old sub q hf => ?_⟩
  · have he' : effectivePosition none ((s.taking p f).reporterActive d) r.reported ≠ r.effective := by
      rwa [State.taking_reporterActive]
    refine ⟨fun hl => ?_, fun hl => ?_⟩
    · exact exec_endSubstitution_heldFull h hb hk hs
        (hchange.trans (State.changeApp_heldFull _ _ _ hr hh hf he' hl))
    · obtain ⟨hexec, hans⟩ := exec_endSubstitution_applied h hb hk hs
        (hchange.trans (State.changeApp_joins _ _ _ hr hh hf he' hl))
      exact ⟨_, hexec, hans, State.makeHeld_substs _ _ _, ⟨_, State.makeHeld_held _ _ _⟩,
        State.makeHeld_app_inputs (s := s.taking p f) _ hr⟩
  · obtain ⟨k, hg, hch⟩ := State.changeApp_heldEntry (s := s.taking p f) .substitution none (some (none, p)) hr hh hf
    obtain ⟨hexec, hans⟩ := exec_endSubstitution_applied h hb hk hs (hchange.trans hch)
    refine ⟨_, hexec, hans, rfl, ⟨p, ?_⟩, congrArg (Option.map AppLive.inputs) hr⟩
    rw [State.placeAnswer_heldFor, State.heldFor_modHeld, State.taking_heldFor, hf]
    simp [hg]

end

/-- Settles O13: placings and endings by the kind of target, outside a held pass and by its held change queue, the
refusals by the order of the checks, and what `substStands` and `substCount` mean. -/
theorem substitutionsAct : Obligations.SubstitutionsAct := by
  unfold Obligations.SubstitutionsAct
  refine ⟨fun s p f hh hheld => ?_, fun s p f hh => ?_, fun s p f i => ?_, fun s i => ?_⟩
  · have room : ∀ i, (s.subst i).isSome = true ∨ s.substs.length < 16 → s.substStands i = true ∨ s.substCount < 16 :=
      fun i h => h.imp State.substStands_of_subst (fun h => by rwa [State.substCount_of_no_held hheld])
    exact ⟨fun a g d r h hb hd hr ht hroom => substitute_apparatus_open hh h hb hd hr ht (room _ hroom),
      fun n c d r h hb hd hm hr hroom => substitute_node_open hh h hb hd hm hr (room _ hroom),
      fun a d r h hb hd hr hs => endSubstitution_apparatus_open hh h hb hd hr (State.substStands_of_subst hs),
      fun n d r h hb hd hm hr hs => endSubstitution_node_open hh h hb hd hm hr (State.substStands_of_subst hs)⟩
  · exact ⟨fun a g d r h hb hd hr ht hroom => substitute_apparatus_held hh h hb hd hr ht hroom,
      fun n c d r h hb hd hm hr hroom hf he => substitute_node_held hh h hb hd hm hr hroom hf he,
      fun a d r h hb hd hr hs => endSubstitution_apparatus_held hh h hb hd hr hs⟩
  · refine ⟨fun v h hb => ?_, fun h hb => ?_⟩
    · obtain ⟨unknown, range, engaged, full⟩ := substitute_refusals h hb
      have unfit := fun (hn : ¬ _) => Bool.eq_false_iff.2 (fun e => hn ((SubstValue.fits_iff v i).1 e))
      have unengaged := fun (hn : ¬ _) => Bool.eq_false_iff.2 (fun e => hn ((s.engagedTarget_iff i).1 e))
      exact ⟨fun hk => unknown (State.substitutable_eq_false hk),
        fun hk hf => range ((s.substitutable_iff i).2 hk) (unfit hf),
        fun hk hf he => engaged ((s.substitutable_iff i).2 hk) ((SubstValue.fits_iff v i).2 hf) ((s.engagedTarget_iff i).2 he),
        fun hk hf he hs hl =>
          full ((s.substitutable_iff i).2 hk) ((SubstValue.fits_iff v i).2 hf) (unengaged he) hs hl⟩
    · obtain ⟨unknown, none⟩ := endSubstitution_refusals h hb
      exact ⟨fun hk => unknown (State.substitutable_eq_false hk),
        fun hk hs => none ((s.substitutable_iff i).2 hk) hs⟩
  · simp only [← HeldCopy.substitutes_iff]
    exact ⟨s.substStands_iff i, s.substCount_eq⟩

end Sys2Proof.Machine
end

section
/-! A report of one presence item (R10 to R13, R38, R39, R79, R87). -/

namespace Sys2Proof.Machine

/-! ### The table of R11 -/

/-- R11, row by row: the counter and the class that a candidate leaves. -/
theorem classify_rows (st : Settings) (c : Cls) (counter : Nat) (last : Option Cand) (cand : Cand) :
    (cand.toCls = c → classify st c counter last cand = (0, c)) ∧
    (cand = .live → c ≠ .live → classify st c counter last cand = (0, .live)) ∧
    (cand = .dead → c ≠ .dead → last = some .dead → counter + 1 < st.confirmCount →
      classify st c counter last cand = (counter + 1, c)) ∧
    (cand = .dead → c ≠ .dead → last = some .dead → counter + 1 = st.confirmCount →
      classify st c counter last cand = (0, .dead)) ∧
    (cand = .dead → c ≠ .dead → last ≠ some .dead → 1 < st.confirmCount →
      classify st c counter last cand = (1, c)) ∧
    (cand = .dead → c ≠ .dead → last ≠ some .dead → st.confirmCount = 1 →
      classify st c counter last cand = (0, .dead)) := by
  refine ⟨fun h => ?_, ?_, ?_, ?_, ?_, ?_⟩
  · simp only [classify, if_pos h]
  · rintro rfl hc
    exact if_neg (Ne.symm hc)
  all_goals
    rintro rfl hc hl hk
    refine (if_neg (Ne.symm hc)).trans ?_
    dsimp only
  · rw [if_pos hl, if_pos hk]
  · rw [if_pos hl, if_neg (by omega)]
  · rw [if_neg hl, if_pos hk]
  · rw [if_neg hl, if_neg (by omega)]

/-! ### What a presence item comes to, by the pass and the held change queue (R10 to R12, R14) -/

/-- R10, R11: the candidate of a sample against class `c`. -/
def State.sampleCandidate (s : State) (c : Cls) (sample : Nat) : Cand :=
  Sys2Proof.candidate s.force.settings c (clampSample sample)

/-- R11: the counter and the class that a sample leaves, against class `c`. -/
def State.sampleTaken (s : State) (r : NodeLive) (c : Cls) (sample : Nat) : Nat × Cls :=
  classify s.force.settings c r.counter r.lastCandidate (s.sampleCandidate c sample)

/-- R10, R11: the counter, the candidate and the sample are written. -/
def State.sampleWritten (s : State) (n : Nat) (r : NodeLive) (c : Cls) (sample : Nat) : State :=
  s.modNode n (fun x => x.sampled (s.sampleTaken r c sample).1 (s.sampleCandidate c sample) (clampSample sample))

/-- R10 to R13: the state after a presence item that is written to the record. -/
def State.presenceReported (s : State) (n : Nat) (r : NodeLive) (sample : Nat) : State :=
  (s.sampleWritten n r r.cls sample).setNodeInputs true n (s.sampleTaken r r.cls sample).2 r.substituted

theorem State.sampleWritten_node (s : State) (n m : Nat) (r : NodeLive) (c : Cls) (sample : Nat) :
    (s.sampleWritten n r c sample).node m = (s.node m).map (fun x => if m = n then
      x.sampled (s.sampleTaken r c sample).1 (s.sampleCandidate c sample) (clampSample sample) else x) :=
  s.node_modNode n m _ (fun _ => rfl)

/-- The node's own record after its sample. -/
theorem State.sampleWritten_self {s : State} {n : Nat} {r : NodeLive} (hr : s.node n = some r) (c : Cls) (sample : Nat) :
    (s.sampleWritten n r c sample).node n = some
      (r.sampled (s.sampleTaken r c sample).1 (s.sampleCandidate c sample) (clampSample sample)) := by
  rw [State.sampleWritten_node, hr]
  simp

/-- R12: with no held entry the current class is the record's. -/
theorem State.currentClass_unheld {s : State} {n : Nat} {r : NodeLive} (hr : s.node n = some r)
    (hf : s.heldFor (.node n) = none) : s.currentClass r = r.cls := by
  obtain rfl := State.node_number hr
  simp only [State.currentClass, hf, ite_self]

section
variable {s : State} {p n sample : Nat} {d : NodeDesc} {r : NodeLive} (hd : s.nodeDesc n = some d)
  (hm : d.measured = true) (hp : d.port = some p) (hr : s.node n = some r)
include hd hm hp hr

theorem State.applyPresence_open (hh : s.heldPassRunning = false) : s.applyPresence p n sample =
    (s.presenceReported n r sample, none) := by
  have own : ¬ (d.measured = false ∨ d.port ≠ some p) := by simp [hm, hp]
  simp only [State.applyPresence, hd, hr, if_neg own, State.currentClass, hh, Bool.false_eq_true, if_false]
  rfl

theorem State.applyPresence_heldEntry (hh : s.heldPassRunning = true) {c : Cls} {sub : Option Cand} {q : Nat}
    (hf : s.heldFor (.node n) = some { target := .node n, copy := .node c sub q }) :
    ∃ g : HeldCopy → HeldCopy, g (.node c sub q) = .node (s.sampleTaken r c sample).2 sub q ∧
      s.applyPresence p n sample = ((s.sampleWritten n r c sample).modHeld (.node n) g, none) := by
  obtain rfl := State.node_number hr
  have own : ¬ (d.measured = false ∨ d.port ≠ some p) := by simp [hm, hp]
  simp only [State.applyPresence, hd, hr, if_neg own, State.currentClass, hh, if_true, hf]
  exact ⟨_, rfl, rfl⟩

theorem State.applyPresence_heldSame (hh : s.heldPassRunning = true) (hf : s.heldFor (.node n) = none)
    (he : (s.sampleTaken r r.cls sample).2 = r.cls ∨ r.substituted.isSome = true) :
    s.applyPresence p n sample =
      (s.presenceReported n r sample, none) := by
  have own : ¬ (d.measured = false ∨ d.port ≠ some p) := by simp [hm, hp]
  simp only [State.applyPresence, hd, hr, if_neg own, State.currentClass_unheld hr hf, hh, if_true, hf]
  exact if_pos he

theorem State.applyPresence_heldFull (hh : s.heldPassRunning = true) (hf : s.heldFor (.node n) = none)
    (he : ¬ ((s.sampleTaken r r.cls sample).2 = r.cls ∨ r.substituted.isSome = true)) (hl : 32 ≤ s.held.length) :
    s.applyPresence p n sample = (s, some .heldFull) := by
  have own : ¬ (d.measured = false ∨ d.port ≠ some p) := by simp [hm, hp]
  have hfull : s.heldFull = true := decide_eq_true hl
  simp only [State.applyPresence, hd, hr, if_neg own, State.currentClass_unheld hr hf, hh, if_true, hf, hfull]
  exact if_neg he

theorem State.applyPresence_joins (hh : s.heldPassRunning = true) (hf : s.heldFor (.node n) = none)
    (he : ¬ ((s.sampleTaken r r.cls sample).2 = r.cls ∨ r.substituted.isSome = true)) (hl : s.held.length < 32) :
    s.applyPresence p n sample = ((s.sampleWritten n r r.cls sample).makeHeld (.node n)
      (.node (s.sampleTaken r r.cls sample).2 r.substituted (s.substPort (.node n))), none) := by
  have own : ¬ (d.measured = false ∨ d.port ≠ some p) := by simp [hm, hp]
  have hfull : s.heldFull = false := decide_eq_false (Nat.not_le.2 hl)
  simp only [State.applyPresence, hd, hr, if_neg own, State.currentClass_unheld hr hf, hh, if_true, hf, hfull,
    Bool.false_eq_true, if_false]
  exact if_neg he

end

/-! ### The void of an evaluation (R79, R87) -/

/-- R86, R151: an entry of a port that is not muted, not held back under a freeze, becomes QUEUED. -/
theorem State.worksOff_enqueue {s : State} {e : Entry} {t : Nat} (he : s.entry t = some e) (hm : s.muted e.owner = false)
    (hf : (s.mode.isFreeze && s.heldBack e) = false) :
    s.WorksOff [.enqueue t] 1 (s.modEntry t (fun x => { x with state := .queued })) := by
  refine State.WorksOff.cons (new := []) ?_ (State.worksOff_nil _)
  simp only [State.runTask, State.enqueue, he, hm, hf, Bool.false_eq_true, if_false]

/-- Two updates of one entry are one. -/
theorem State.modEntry_modEntry (s : State) (t : Nat) (f g : Entry → Entry) (hf : ∀ e, (f e).ticket = e.ticket) :
    (s.modEntry t f).modEntry t g = s.modEntry t (fun e => g (f e)) := by
  have h : ∀ e : Entry, (if (if e.ticket = t then f e else e).ticket = t then g (if e.ticket = t then f e else e)
      else (if e.ticket = t then f e else e)) = if e.ticket = t then g (f e) else e := by
    intro e
    by_cases he : e.ticket = t <;> simp [he, hf]
  simp only [State.modEntry, List.map_map, Function.comp_def, h]

section
variable {s : State} {v : Evaluation} {e : Entry}

/-- R79, R110: a void of an evaluation whose entry stands and has no CANCEL pending. -/
theorem State.endEvaluation_void (hv : s.evaluation = some v) (he : s.entry v.ticket = some e)
    (hc : e.cancelPending = false) :
    s.endEvaluation .void = State.endVoided { s with evaluation := none } e v := by
  simp only [State.endEvaluation, hv, he, hc, Bool.false_eq_true, if_false]

variable (he : s.entry e.ticket = some e) (hm : s.muted e.owner = false) (hx : v.expired = false)
  (hf : (s.mode.isFreeze && s.heldBack e) = false)
include he hm hx hf

/-- R87: the first and the second void return the entry to QUEUED, at the head of its queue. -/
theorem State.endVoided_again (hv : e.voidCount < 2) : s.endVoided e v =
    (if e.coupled then s else s.queueHead e.owner e.ticket).modEntry e.ticket
      (fun x => { x with state := .queued, voidCount := e.voidCount + 1 }) := by
  have hn : min 3 (e.voidCount + 1) = e.voidCount + 1 := by omega
  have hlt : e.voidCount + 1 < 3 := by omega
  have he1 : (s.modEntry e.ticket (fun x => { x with voidCount := e.voidCount + 1 })).entry e.ticket =
      some { e with voidCount := e.voidCount + 1 } := by
    rw [State.entry_modEntry _ _ _ _ (by exact fun _ => rfl), he]
    simp
  simp only [State.endVoided, hn, hm, hx, hlt, Bool.false_eq_true, if_false, if_true]
  cases hc : e.coupled with
  | true =>
    simp only [if_true]
    refine (State.WorksOff.run (State.worksOff_enqueue he1 hm hf) (by decide)).trans ?_
    exact State.modEntry_modEntry _ _ _ _ (by exact fun _ => rfl)
  | false =>
    simp only [Bool.false_eq_true, if_false]
    have hm2 : ((s.modEntry e.ticket (fun x => { x with voidCount := e.voidCount + 1 })).queueHead
        e.owner e.ticket).muted e.owner = false := by
      rw [← hm]
      simp only [State.muted, State.queueHead, State.port_modPort]
      split <;> rfl
    refine (State.WorksOff.run (State.worksOff_enqueue (s := (s.modEntry e.ticket (fun x =>
      { x with voidCount := e.voidCount + 1 })).queueHead e.owner e.ticket) he1 hm2 hf) (by decide)).trans ?_
    exact State.modEntry_modEntry (s.queueHead e.owner e.ticket) _ _ _ (by exact fun _ => rfl)

omit he in
/-- R87: the third void defers the entry UNSETTLED, its deferral clock running. -/
theorem State.endVoided_third (hv : 2 ≤ e.voidCount) (hr : v.reoffer = false)
    (hl : s.force.settings.deferralLimit ≠ 0) : s.endVoided e v = s.modEntry e.ticket (fun x =>
      { x with
        state := .deferred, voidCount := 3, cause := some .unsettled
        deadline := some (x.deadline.getD s.force.settings.deferralLimit) }) := by
  have hn : min 3 (e.voidCount + 1) = 3 := by omega
  have hf1 : ((s.modEntry e.ticket (fun x => { x with voidCount := 3 })).mode.isFreeze &&
      (s.modEntry e.ticket (fun x => { x with voidCount := 3 })).heldBack { e with voidCount := 3 }) = false := hf
  have hl1 : ¬ (e.deadline = none ∧ s.force.settings.deferralLimit = 0) := fun h => hl h.2
  simp only [State.endVoided, hn, hm, hx, Nat.lt_irrefl, Bool.false_eq_true, if_false, State.defer,
    State.modEntry_force, hl1, hf1, hr, Bool.false_and]
  exact State.modEntry_modEntry s _ _ _ (by exact fun _ => rfl)

end

/-! ### Outside a held pass -/

/-- R165: a POSITION REPORT is taken in the modes in which passes run. -/
theorem State.Takes.runsPasses {s : State} {p : Nat} {k : RequestKind} {f : Frame} (h : s.Takes p k f)
    (hk : k = .positionReport) : s.mode.runsPasses = true := by
  subst hk
  have hm := h.mode
  cases hs : s.mode with
  | restarting => rw [hs] at hm; cases hm
  | maintenance => rw [hs] at hm; cases hm
  | _ => rfl

theorem Pass.hasRead_node (w : Pass) (n : Nat) : w.hasRead (.node n) = true ↔ ∃ y ∈ w.readNodes, y.number = n := by
  simp [Pass.hasRead]

theorem Pass.hasRead_apparatus (w : Pass) (a : Nat) : w.hasRead (.apparatus a) = true ↔ ∃ y ∈ w.readApps, y.number = a := by
  simp [Pass.hasRead]

theorem Pass.not_hasRead_node {w : Pass} {n : Nat} (h : ∀ y ∈ w.readNodes, y.number ≠ n) : w.hasRead (.node n) = false :=
  Bool.eq_false_iff.2 (fun hr => by
    obtain ⟨y, hy, hn⟩ := (w.hasRead_node n).1 hr
    exact h y hy hn)

theorem Pass.not_hasRead_apparatus {w : Pass} {a : Nat} (h : ∀ y ∈ w.readApps, y.number ≠ a) :
    w.hasRead (.apparatus a) = false :=
  Bool.eq_false_iff.2 (fun hr => by
    obtain ⟨y, hy, hn⟩ := (w.hasRead_apparatus a).1 hr
    exact h y hy hn)

/-- A port that is not muted is one the engine has. -/
theorem State.listed_of_not_muted {s : State} {q : Nat} (h : s.muted q = false) : q < s.ports.length := by
  by_contra hq
  simp [State.muted, State.port, List.getElem?_eq_none (Nat.le_of_not_lt hq), Port.missing, Port.afterReset,
    factoryPort] at h

@[simp] theorem State.placeAnswer_queue (s : State) (p n : Nat) (x : Outgoing) (q : Nat) :
    ((s.placeAnswer p n x).port q).queue = (s.port q).queue := by
  unfold State.placeAnswer
  rw [State.port_modPort]
  split <;> rfl

/-- R79, R87: what a change in the region of the evaluation in flight does to its entry. -/
theorem State.evaluatorSees_voids {s : State} {i : RecordId} {v : Evaluation} {e : Entry} (hv : s.evaluation = some v)
    (he : s.entry v.ticket = some e) (hl : s.liesIn i (e.footprint ++ v.candidateReach) = true)
    (hc : e.cancelPending = false) (hm : s.muted e.owner = false) (hx : v.expired = false)
    (hf : s.mode.isFreeze = false ∨ s.heldBack e = false) :
    (e.voidCount < 2 →
      (s.evaluatorSees i).entries = s.entries.map (fun y => if y.ticket = e.ticket then
        { y with state := .queued, voidCount := e.voidCount + 1 } else y) ∧
      (e.coupled = false →
        ((s.evaluatorSees i).port e.owner).queue = e.ticket :: (s.port e.owner).queue.filter (· ≠ e.ticket))) ∧
    (2 ≤ e.voidCount → v.reoffer = false → s.force.settings.deferralLimit ≠ 0 →
      (s.evaluatorSees i).entries = s.entries.map (fun y => if y.ticket = e.ticket then
        { y with state := .deferred, voidCount := 3, cause := some .unsettled,
                 deadline := some (y.deadline.getD s.force.settings.deferralLimit) } else y)) := by
  have hfree : (s.mode.isFreeze && s.heldBack e) = false := by rcases hf with hf | hf <;> simp [hf]
  have he1 : State.entry { s with evaluation := none } e.ticket = some e := by
    rw [← (State.entry_mem he).2] at he
    exact he
  rw [State.evaluatorSees_hit hv he hl, State.endEvaluation_void hv he hc]
  refine ⟨fun hn => ?_, fun hn hr hlim => ?_⟩
  · rw [State.endVoided_again (s := { s with evaluation := none }) he1 hm hx hfree hn]
    refine ⟨?_, fun hcoupled => ?_⟩
    · cases e.coupled <;> rfl
    · rw [hcoupled]
      change ((State.queueHead { s with evaluation := none } e.owner e.ticket).port e.owner).queue = _
      unfold State.queueHead
      rw [State.port_modPort, if_pos ⟨rfl, State.listed_of_not_muted hm⟩]
      rfl
  · rw [State.endVoided_third (s := { s with evaluation := none }) hm hx hfree hn hr hlim]
    rfl

/-- R10 to R13: the record after a presence item outside a held pass. -/
def NodeLive.reported (x : NodeLive) (taken : Nat × Cls) (cand : Cand) (v : Nat) : NodeLive :=
  { x.sampled taken.1 cand v with
    cls := taken.2
    effective := effectiveClass x.substituted taken.2
    marker := x.marker || effectiveClass x.substituted taken.2 != x.effective }

section
variable {s : State} {n : Nat} {r : NodeLive} (sample : Nat) (hr : s.node n = some r)
include hr

theorem State.presenceReported_node (m : Nat) : (s.presenceReported n r sample).node m = if m = n then
    some (r.reported (s.sampleTaken r r.cls sample) (s.sampleCandidate r.cls sample) (clampSample sample))
    else s.node m := by
  unfold State.presenceReported
  rw [State.setNodeInputs_node n m _ _ (State.sampleWritten_self hr r.cls sample) rfl]
  by_cases h : m = n
  · rw [if_pos h, if_pos h]
    rfl
  · rw [if_neg h, if_neg h, State.sampleWritten_node]
    simp [h]

/-- A report that leaves the effective class as it was. -/
theorem State.presenceReported_same
    (he : effectiveClass r.substituted (s.sampleTaken r r.cls sample).2 = r.effective) :
    s.presenceReported n r sample = (s.sampleWritten n r r.cls sample).nodeWritten n (s.sampleTaken r r.cls sample).2
      r.substituted r.effective :=
  State.setNodeInputs_same (r := r.sampled _ _ _) true n _ _ (State.sampleWritten_self hr r.cls sample) he

/-- A report that changes the effective class: the marker and the topology unit, and the evaluator. -/
theorem State.presenceReported_changed
    (he : effectiveClass r.substituted (s.sampleTaken r r.cls sample).2 ≠ r.effective) :
    ∃ l, s.presenceReported n r sample = (State.noted { s with nodes := l } (.node n) true).evaluatorSees (.node n) :=
  ⟨_, State.setNodeInputs_changed n _ _ (State.sampleWritten_self hr r.cls sample) he⟩

/-- R34, R38, R39: what an image change of the node does to the pass. -/
theorem State.presenceReported_pass (hh : s.heldPassRunning = false) (hm : s.mode.runsPasses = true)
    (he : effectiveClass r.substituted (s.sampleTaken r r.cls sample).2 ≠ r.effective) :
    let t := s.presenceReported n r sample
    (s.pass = none → t.pass = some (freshPass false) ∧ t.spoils = s.spoils) ∧
    (∀ w, s.pass = some w → (∃ y ∈ w.readNodes, y.number = n) →
      t.pass = some (freshPass (decide (3 ≤ s.spoils + 1))) ∧ t.spoils = s.spoils + 1) ∧
    (∀ w, s.pass = some w → (∀ y ∈ w.readNodes, y.number ≠ n) → t.pass = s.pass ∧ t.spoils = s.spoils) := by
  obtain ⟨l, hu⟩ := State.presenceReported_changed sample hr he
  have hwithin := State.evaluatorSees_within (State.noted { s with nodes := l } (.node n) true) (.node n)
  obtain ⟨idle, read, unread⟩ := State.noted_pass (s := { s with nodes := l }) (.node n) hh hm
  simp only [hu, hwithin.pass, hwithin.spoils]
  exact ⟨idle, fun w hw hy => read w hw ((w.hasRead_node n).2 hy),
    fun w hw hy => unread w hw (Pass.not_hasRead_node hy)⟩

/-- R79, R87: what an image change of the node does to the evaluation in flight and to its entry. -/
theorem State.presenceReported_evaluation {v : Evaluation} {e : Entry}
    (he : effectiveClass r.substituted (s.sampleTaken r r.cls sample).2 ≠ r.effective)
    (hv : s.evaluation = some v) (hentry : s.entry v.ticket = some e) :
    let t := s.presenceReported n r sample
    (n ∉ e.footprint ++ v.candidateReach → t.evaluation = s.evaluation ∧ t.entries = s.entries) ∧
    (n ∈ e.footprint ++ v.candidateReach → t.evaluation = none) ∧
    (n ∈ e.footprint ++ v.candidateReach → e.cancelPending = false → s.muted e.owner = false →
      v.expired = false → (s.mode.isFreeze = false ∨ s.heldBack e = false) →
      (e.voidCount < 2 →
        t.entries = s.entries.map (fun y => if y.ticket = e.ticket then
          { y with state := .queued, voidCount := e.voidCount + 1 } else y) ∧
        (e.coupled = false →
          (t.port e.owner).queue = e.ticket :: (s.port e.owner).queue.filter (· ≠ e.ticket))) ∧
      (2 ≤ e.voidCount → v.reoffer = false → s.force.settings.deferralLimit ≠ 0 →
        t.entries = s.entries.map (fun y => if y.ticket = e.ticket then
          { y with state := .deferred, voidCount := 3, cause := some .unsettled,
                   deadline := some (y.deadline.getD s.force.settings.deferralLimit) } else y))) := by
  obtain ⟨l, hu⟩ := State.presenceReported_changed sample hr he
  obtain ⟨A, N, w, k, hw⟩ := State.noted_eq { s with nodes := l } (.node n) true
  rw [hw] at hu
  simp only [hu]
  generalize hdef : ({ { s with nodes := l } with apps := A, nodes := N, pass := w, spoils := k } : State) = u
  have hv1 : u.evaluation = some v := by rw [← hdef]; exact hv
  have he1 : u.entry v.ticket = some e := by rw [← hdef]; exact hentry
  have hlies : u.liesIn (.node n) (e.footprint ++ v.candidateReach) = (e.footprint ++ v.candidateReach).contains n := rfl
  refine ⟨fun hn => ?_, fun hn => ?_, fun hn hc hm hx hf => ?_⟩
  · rw [State.evaluatorSees_missed hv1 he1 (hlies.trans (by simpa using hn)), ← hdef]
    exact ⟨rfl, rfl⟩
  · rw [State.evaluatorSees_hit hv1 he1 (hlies.trans (by simpa using hn))]
    exact State.endEvaluation_void_noEvaluation u
  · have hvoid := State.evaluatorSees_voids hv1 he1 (hlies.trans (by simpa using hn)) hc (by rw [← hdef]; exact hm) hx
      (by rw [← hdef]; exact hf)
    rw [← hdef] at hvoid ⊢
    exact hvoid

/-- R13: beyond the node's record, a presence item outside a held pass leaves what tasks leave. -/
theorem State.presenceReported_kept : (s.presenceReported n r sample).apps.map AppLive.inputs = s.apps.map AppLive.inputs ∧
    (s.presenceReported n r sample).substs = s.substs ∧ (s.presenceReported n r sample).held = s.held := by
  have h := State.setNodeInputs_within n (s.sampleTaken r r.cls sample).2 r.substituted
    (State.sampleWritten_self hr r.cls sample) rfl
  refine ⟨h.appInputs.trans ?_, h.substs.trans ?_, h.held.trans ?_⟩
  · rw [State.noted_apps_node]; rfl
  · rw [State.noted_substs]; rfl
  · rw [State.noted_held]; rfl

end

/-- R10 to R13, R38, R39, R79, R87: a report of one presence item outside a held pass. -/
theorem report_presence_open (s : State) (p : Nat) (f : Frame) (n sample : Nat) (d : NodeDesc) (r : NodeLive) (cand : Cand)
    (h : s.Takes p .positionReport f) (hb : decodeReport f.body = some [.presence n sample])
    (hh : s.heldPassRunning = false) (hd : s.nodeDesc n = some d) (hm : d.measured = true) (hp : d.port = some p)
    (hr : s.node n = some r) (hcand : cand = candidate s.force.settings r.cls (min sample 2000)) :
    ∃ t x, exec (.positionReport p) s = .next t ∧ t.node n = some x ∧
      x.lastSample = some (min sample 2000) ∧ x.lastCandidate = some cand ∧
      x.effective = effectiveClass r.substituted x.cls ∧ x.substituted = r.substituted ∧
      (cand.toCls = r.cls → x.counter = 0 ∧ x.cls = r.cls) ∧
      (cand = .live → r.cls ≠ .live → x.counter = 0 ∧ x.cls = .live) ∧
      (cand = .dead → r.cls ≠ .dead → r.lastCandidate = some .dead →
        r.counter + 1 < s.force.settings.confirmCount → x.counter = r.counter + 1 ∧ x.cls = r.cls) ∧
      (cand = .dead → r.cls ≠ .dead → r.lastCandidate = some .dead →
        r.counter + 1 = s.force.settings.confirmCount → x.counter = 0 ∧ x.cls = .dead) ∧
      (cand = .dead → r.cls ≠ .dead → r.lastCandidate ≠ some .dead →
        1 < s.force.settings.confirmCount → x.counter = 1 ∧ x.cls = r.cls) ∧
      (cand = .dead → r.cls ≠ .dead → r.lastCandidate ≠ some .dead →
        s.force.settings.confirmCount = 1 → x.counter = 0 ∧ x.cls = .dead) ∧
      s.answers t p f .done [1#8, 0#8, 0xFF#8] ∧
      t.apps.map AppLive.inputs = s.apps.map AppLive.inputs ∧ t.substs = s.substs ∧
      (∀ m, m ≠ n → t.node m = s.node m) ∧
      x.marker = (r.marker || x.effective != r.effective) ∧
      (x.effective = r.effective → t.pass = s.pass ∧ t.spoils = s.spoils ∧ t.evaluation = s.evaluation) ∧
      (x.effective ≠ r.effective →
        (s.pass = none → t.pass = some (freshPass false) ∧ t.spoils = s.spoils) ∧
        (∀ w, s.pass = some w → (∃ y ∈ w.readNodes, y.number = n) →
          t.pass = some (freshPass (decide (3 ≤ s.spoils + 1))) ∧ t.spoils = s.spoils + 1) ∧
        (∀ w, s.pass = some w → (∀ y ∈ w.readNodes, y.number ≠ n) → t.pass = s.pass ∧ t.spoils = s.spoils) ∧
        (∀ v e, s.evaluation = some v → s.entry v.ticket = some e →
          (n ∉ e.footprint ++ v.candidateReach → t.evaluation = s.evaluation ∧ t.entries = s.entries) ∧
          (n ∈ e.footprint ++ v.candidateReach → t.evaluation = none) ∧
          (n ∈ e.footprint ++ v.candidateReach → e.cancelPending = false → s.muted e.owner = false →
            v.expired = false → (s.mode.isFreeze = false ∨ s.heldBack e = false) →
            (e.voidCount < 2 →
              t.entries = s.entries.map (fun y => if y.ticket = e.ticket then
                { y with state := .queued, voidCount := e.voidCount + 1 } else y) ∧
              (e.coupled = false →
                (t.port e.owner).queue = e.ticket :: (s.port e.owner).queue.filter (· ≠ e.ticket))) ∧
            (2 ≤ e.voidCount → v.reoffer = false → s.force.settings.deferralLimit ≠ 0 →
              t.entries = s.entries.map (fun y => if y.ticket = e.ticket then
                { y with state := .deferred, voidCount := 3, cause := some .unsettled,
                         deadline := some (y.deadline.getD s.force.settings.deferralLimit) } else y))))) := by
  obtain ⟨hexec, hans⟩ := exec_item_applied h hb
    (State.applyPresence_open (s := s.taking p f) (sample := sample) hd hm hp hr hh)
  have hrt : (s.taking p f).node n = some r := hr
  have hnode := State.presenceReported_node sample hrt
  obtain ⟨hinputs, hsubsts, -⟩ := State.presenceReported_kept sample hrt
  obtain rfl : cand = (s.taking p f).sampleCandidate r.cls sample := hcand
  obtain ⟨row1, row2, row3, row4, row5, row6⟩ :=
    classify_rows s.force.settings r.cls r.counter r.lastCandidate ((s.taking p f).sampleCandidate r.cls sample)
  have row : ∀ {k : Nat × Cls}, classify s.force.settings r.cls r.counter r.lastCandidate
      ((s.taking p f).sampleCandidate r.cls sample) = k → ((s.taking p f).sampleTaken r r.cls sample).1 = k.1 ∧
        ((s.taking p f).sampleTaken r r.cls sample).2 = k.2 := by
    rintro k rfl
    exact ⟨rfl, rfl⟩
  refine ⟨_, _, hexec, (hnode n).trans (if_pos rfl), rfl, rfl, rfl, rfl, fun a => row (row1 a),
    fun a b => row (row2 a b), fun a b c e => row (row3 a b c e), fun a b c e => row (row4 a b c e),
    fun a b c e => row (row5 a b c e), fun a b c e => row (row6 a b c e), hans, hinputs, hsubsts,
    fun m hne => (hnode m).trans (if_neg hne), rfl, fun he => ?_, fun he => ?_⟩
  · rw [State.presenceReported_same sample hrt he]
    simp [State.nodeWritten, State.sampleWritten]
  · obtain ⟨idle, read, unread⟩ := State.presenceReported_pass sample hrt hh (h.runsPasses rfl) he
    refine ⟨idle, read, unread, fun v e hv hentry => ?_⟩
    have heval := State.presenceReported_evaluation sample hrt he hv hentry
    simp only [State.taking_muted, State.taking_queue] at heval
    simp only [State.placeAnswer_queue]
    exact heval

/-! ### In a held pass -/

/-- R10 to R12, R14, R40, R41: a report of one presence item in a held pass. -/
theorem report_presence_held (s : State) (p : Nat) (f : Frame) (n sample : Nat) (d : NodeDesc) (r : NodeLive)
    (h : s.Takes p .positionReport f) (hb : decodeReport f.body = some [.presence n sample])
    (hh : s.heldPassRunning = true) (hd : s.nodeDesc n = some d) (hm : d.measured = true) (hp : d.port = some p)
    (hr : s.node n = some r) :
    let sampled := fun (x : NodeLive) => (x.counter, x.lastCandidate, x.lastSample)
    let now := fun (x : NodeLive) => (x.cls, x.effective, x.marker)
    (∀ c sub q, s.heldFor (.node n) = some { target := .node n, copy := .node c sub q } →
      ∃ t, exec (.positionReport p) s = .next t ∧ s.answers t p f .done [1#8, 0#8, 0xFF#8] ∧
        t.heldFor (.node n) = some { target := .node n, copy := .node (s.sampleTaken r c sample).2 sub q } ∧
        (t.node n).map sampled =
          some ((s.sampleTaken r c sample).1, some (s.sampleCandidate c sample), some (clampSample sample)) ∧
        (t.node n).map now = some (r.cls, r.effective, r.marker)) ∧
    (s.heldFor (.node n) = none → (s.sampleTaken r r.cls sample).2 ≠ r.cls → r.substituted = none →
      (32 ≤ s.held.length →
        exec (.positionReport p) s = .next (s.answered p f .heldFull [0#8, 1#8, 0x17#8])) ∧
      (s.held.length < 32 → ∃ t q, exec (.positionReport p) s = .next t ∧ s.answers t p f .done [1#8, 0#8, 0xFF#8] ∧
        t.held = s.held ++ [{ target := .node n, copy := .node (s.sampleTaken r r.cls sample).2 none q }] ∧
        (t.node n).map sampled =
          some ((s.sampleTaken r r.cls sample).1, some (s.sampleCandidate r.cls sample), some (clampSample sample)) ∧
        (t.node n).map now = some (r.cls, r.effective, true))) ∧
    (s.heldFor (.node n) = none → (s.sampleTaken r r.cls sample).2 = r.cls ∨ r.substituted ≠ none →
      ∃ t, exec (.positionReport p) s = .next t ∧ s.answers t p f .done [1#8, 0#8, 0xFF#8] ∧ t.held = s.held ∧
        (t.node n).map NodeLive.cls = some (s.sampleTaken r r.cls sample).2) := by
  have hrt : (s.taking p f).node n = some r := hr
  refine ⟨fun c sub q hf => ?_, fun hf he hs => ?_, fun hf he => ?_⟩
  · obtain ⟨g, hg, hitem⟩ :=
      State.applyPresence_heldEntry (s := s.taking p f) (sample := sample) hd hm hp hr hh hf
    obtain ⟨hexec, hans⟩ := exec_item_applied h hb hitem
    have hnode : (((s.taking p f).sampleWritten n r c sample).modHeld (.node n) g).node n = _ :=
      State.sampleWritten_self hrt c sample
    refine ⟨_, hexec, hans, ?_, ?_, ?_⟩
    · rw [State.placeAnswer_heldFor, State.heldFor_modHeld]
      change (s.heldFor (.node n)).map _ = _
      rw [hf]
      simp only [Option.map_some, if_true, hg]
      rfl
    · rw [State.placeAnswer_node, hnode]
      rfl
    · rw [State.placeAnswer_node, hnode]
      rfl
  · have hchanges : ¬ ((s.sampleTaken r r.cls sample).2 = r.cls ∨ r.substituted.isSome = true) := by simp [he, hs]
    refine ⟨fun hl => ?_, fun hl => ?_⟩
    · exact exec_report_refused h hb
        (State.applyPresence_heldFull (s := s.taking p f) (sample := sample) hd hm hp hr hh hf hchanges hl)
    · obtain ⟨hexec, hans⟩ := exec_item_applied h hb
        (State.applyPresence_joins (s := s.taking p f) (sample := sample) hd hm hp hr hh hf hchanges hl)
      rw [hs] at hexec hans
      have hnode := State.makeHeld_node
        (.node ((s.taking p f).sampleTaken r r.cls sample).2 none ((s.taking p f).substPort (.node n)))
        (State.sampleWritten_self hrt r.cls sample)
      refine ⟨_, _, hexec, hans, State.makeHeld_held _ _ _, ?_, ?_⟩
      · rw [State.placeAnswer_node, hnode]
        rfl
      · rw [State.placeAnswer_node, hnode]
        rfl
  · have hsame : (s.sampleTaken r r.cls sample).2 = r.cls ∨ r.substituted.isSome = true := by
      rwa [Option.isSome_iff_ne_none]
    obtain ⟨hexec, hans⟩ := exec_item_applied h hb
      (State.applyPresence_heldSame (s := s.taking p f) (sample := sample) hd hm hp hr hh hf hsame)
    obtain ⟨-, -, hheld⟩ := State.presenceReported_kept sample hrt
    refine ⟨_, hexec, hans, hheld, ?_⟩
    rw [State.placeAnswer_node, State.presenceReported_node sample hrt, if_pos rfl]
    rfl

/-- Settles O11: the item outside a held pass, and in one by its held entry, the room in the queue, and what changes. -/
theorem reportedPresenceItem : Obligations.ReportedPresenceItem := by
  unfold Obligations.ReportedPresenceItem
  exact ⟨report_presence_open, fun s p f n sample d r h hb hh hd hm hp hr =>
    report_presence_held s p f n sample d r h hb hh hd hm hp hr⟩

end Sys2Proof.Machine
end

section
/-! A report of apparatus items (R7 to R9, R13, R14, R17, R18, R20): one outside a held pass, one in a held pass, and
several while no pass runs. -/

namespace Sys2Proof.Machine

/-! ### The blocking part of an item (R17, R18, R20) -/

/-- R18: a LATCHED condition that becomes present sets its latched flag and raises its latch number, and no other does. -/
theorem AppLive.withBlocking_latched (r : AppLive) (modes flags : Flags4) (c : Condition) :
    (r.withBlocking modes flags).latched.get c =
      (r.latched.get c || (flags.get c && !r.present.get c && modes.get c)) ∧
    (r.withBlocking modes flags).latchNumbers.get c =
      if flags.get c && !r.present.get c && modes.get c then r.latchNumbers.get c + 1 else r.latchNumbers.get c := by
  cases c <;> exact ⟨rfl, rfl⟩

/-- R17, R18, R20: beyond the record, the blocking part of an item does no more than tasks can. -/
theorem State.applyBlocking_within {s : State} {d : AppDesc} {r : AppLive} (flags : Flags4)
    (hr : s.app d.number = some r) :
    (s.modApp d.number (fun x => x.withBlocking d.latchedModes flags)).Within (s.applyBlocking d flags) := by
  simp only [State.applyBlocking, hr]
  split
  · exact State.run_within _ _
  · exact State.Within.refl _

theorem State.applyBlocking_app {s : State} {d : AppDesc} {r : AppLive} (flags : Flags4)
    (hr : s.app d.number = some r) : ∃ x, (s.applyBlocking d flags).app d.number = some x ∧
      x.outer = (r.withBlocking d.latchedModes flags).outer := by
  refine (State.applyBlocking_within flags hr).app_some ?_
  rw [State.app_modApp _ _ _ _ (by exact fun _ => rfl), hr]
  simp

theorem State.applyBlocking_noEvaluation {s : State} (d : AppDesc) (flags : Flags4) (h : s.evaluation = none) :
    (s.applyBlocking d flags).evaluation = none := by
  unfold State.applyBlocking
  split
  · exact h
  · simp only
    split
    · exact State.run_noEvaluation _ _ h
    · exact h

/-! ### One item outside a held pass -/

/-- R8, R9: the state after an apparatus item that is written to the record. -/
def State.positionReported (s : State) (d : AppDesc) (r : AppLive) (pos : Pos) (flags : Flags4) : State :=
  (s.setAppInputs true .report d pos r.substituted).applyBlocking d flags

/-- R8, R9: an item of the port's own apparatus, by what the change of its inputs comes to. -/
theorem State.applyAppItem_own {s u : State} {p a : Nat} {d : AppDesc} (pos : Pos) (flags : Flags4)
    (hd : s.appDesc a = some d) (hp : d.port = p) (hu : s.changeApp .report d (some pos) none = .applied u) :
    s.applyAppItem p a pos flags = (u.applyBlocking d flags, none) := by
  simp only [State.applyAppItem, hd, hp, ne_eq, not_true, if_false, hu]

theorem State.applyAppItem_heldFull {s : State} {p a : Nat} {d : AppDesc} (pos : Pos) (flags : Flags4)
    (hd : s.appDesc a = some d) (hp : d.port = p) (hu : s.changeApp .report d (some pos) none = .heldFull) :
    s.applyAppItem p a pos flags = (s, some .heldFull) := by
  simp only [State.applyAppItem, hd, hp, ne_eq, not_true, if_false, hu]

theorem State.applyAppItem_open {s : State} {p a : Nat} {d : AppDesc} {r : AppLive} (pos : Pos) (flags : Flags4)
    (hd : s.appDesc a = some d) (hp : d.port = p) (hr : s.app a = some r) (hh : s.heldPassRunning = false) :
    s.applyAppItem p a pos flags = (s.positionReported d r pos flags, none) := by
  obtain rfl := State.appDesc_number hd
  exact State.applyAppItem_own pos flags hd hp (State.changeApp_open .report (some pos) none hr hh)

section
variable {s : State} {d : AppDesc} {r : AppLive} (pos : Pos) (flags : Flags4) (hr : s.app d.number = some r)
include hr

/-- The record and the topology unit after an item, with its blocking part. -/
theorem State.positionReported_within :
    (((s.appWritten d.number pos r.substituted (effectivePosition r.substituted (s.reporterActive d) pos)).noted
        (.apparatus d.number) (effectivePosition r.substituted (s.reporterActive d) pos != r.effective)).modApp d.number
        (fun x => x.withBlocking d.latchedModes flags)).Within (s.positionReported d r pos flags) := by
  obtain ⟨y, hy, -⟩ := State.setAppInputs_app .report pos r.substituted hr rfl
  exact ((State.setAppInputs_within .report pos r.substituted hr rfl).modApp d.number
    (fun x => x.withBlocking d.latchedModes flags) (fun _ => rfl)).trans (State.applyBlocking_within flags hy)

theorem State.positionReported_app : ∃ x, (s.positionReported d r pos flags).app d.number = some x ∧
    x.outer = (AppLive.withBlocking { r with
      reported := pos
      effective := effectivePosition r.substituted (s.reporterActive d) pos
      marker := r.marker || effectivePosition r.substituted (s.reporterActive d) pos != r.effective }
      d.latchedModes flags).outer := by
  refine (State.positionReported_within pos flags hr).app_some ?_
  rw [State.app_modApp _ _ _ _ (by exact fun _ => rfl), State.noted_app, State.appWritten,
    State.app_modApp _ _ _ _ (by exact fun _ => rfl), hr]
  simp

theorem State.positionReported_others (b : Nat) (hb : b ≠ d.number) :
    ((s.positionReported d r pos flags).app b).map AppLive.inputs = (s.app b).map AppLive.inputs := by
  rw [(State.positionReported_within pos flags hr).app_inputs, State.app_modApp _ _ _ _ (by exact fun _ => rfl),
    State.noted_app, State.appWritten, State.app_modApp _ _ _ _ (by exact fun _ => rfl)]
  simp [hb]

theorem State.positionReported_kept : (s.positionReported d r pos flags).nodes = s.nodes ∧
    (s.positionReported d r pos flags).substs = s.substs ∧ (s.positionReported d r pos flags).held = s.held := by
  have h := State.positionReported_within pos flags hr
  refine ⟨h.nodes.trans ?_, h.substs.trans ?_, h.held.trans ?_⟩
  · rw [State.modApp_nodes, State.noted_nodes_apparatus]; rfl
  · rw [State.modApp_substs, State.noted_substs]; rfl
  · rw [State.modApp_held, State.noted_held]; rfl

theorem State.positionReported_passSame (he : effectivePosition r.substituted (s.reporterActive d) pos = r.effective) :
    (s.positionReported d r pos flags).pass = s.pass ∧ (s.positionReported d r pos flags).spoils = s.spoils := by
  have h := State.positionReported_within pos flags hr
  rw [he, bne_self_eq_false, State.noted_false] at h
  exact ⟨h.pass, h.spoils⟩

/-- R34, R38, R39: what an image change of the apparatus does to the pass. -/
theorem State.positionReported_pass (hh : s.heldPassRunning = false) (hm : s.mode.runsPasses = true)
    (he : effectivePosition r.substituted (s.reporterActive d) pos ≠ r.effective) :
    let t := s.positionReported d r pos flags
    (s.pass = none → t.pass = some (freshPass false) ∧ t.spoils = s.spoils) ∧
    (∀ w, s.pass = some w → (∃ y ∈ w.readApps, y.number = d.number) →
      t.pass = some (freshPass (decide (3 ≤ s.spoils + 1))) ∧ t.spoils = s.spoils + 1) ∧
    (∀ w, s.pass = some w → (∀ y ∈ w.readApps, y.number ≠ d.number) → t.pass = s.pass ∧ t.spoils = s.spoils) := by
  have h := State.positionReported_within pos flags hr
  rw [bne_iff_ne.2 he] at h
  obtain ⟨idle, read, unread⟩ := State.noted_pass (s := s.appWritten d.number pos r.substituted
    (effectivePosition r.substituted (s.reporterActive d) pos)) (.apparatus d.number) hh hm
  simp only [h.pass, h.spoils, State.modApp_pass, State.modApp_spoils]
  exact ⟨idle, fun w hw hy => read w hw ((w.hasRead_apparatus _).2 hy),
    fun w hw hy => unread w hw (Pass.not_hasRead_apparatus hy)⟩

/-- R79: an image change in the region of the evaluation in flight leaves the evaluator free. -/
theorem State.positionReported_evaluation {v : Evaluation} {e : Entry}
    (he : effectivePosition r.substituted (s.reporterActive d) pos ≠ r.effective) (hv : s.evaluation = some v)
    (hentry : s.entry v.ticket = some e)
    (hl : s.liesIn (.apparatus d.number) (e.footprint ++ v.candidateReach) = true) :
    (s.positionReported d r pos flags).evaluation = none := by
  refine State.applyBlocking_noEvaluation d flags ?_
  rw [State.setAppInputs_changed true .report pos r.substituted hr he]
  exact State.appChanged_noEvaluation _ _ _ _ (v := v) (e := e) hv hentry hl

end

/-- R5, R7, R9, R13, R17, R18, R38, R39, R79: a report of one apparatus item outside a held pass. -/
theorem report_apparatus_open (s : State) (p : Nat) (f : Frame) (a : Nat) (pos : Pos) (flags : Flags4) (d : AppDesc)
    (r : AppLive) (h : s.Takes p .positionReport f) (hb : decodeReport f.body = some [.apparatus a pos flags])
    (hh : s.heldPassRunning = false) (hd : s.appDesc a = some d) (hp : d.port = p) (hr : s.app a = some r) :
    ∃ t x, exec (.positionReport p) s = .next t ∧ t.app a = some x ∧
      x.reported = pos ∧ x.substituted = r.substituted ∧
      x.effective = effectivePosition r.substituted (s.reporterActive d) pos ∧
      x.present = flags ∧
      (∀ c, flags.get c = true → r.present.get c = false → d.latchedModes.get c = true →
        x.latched.get c = true ∧ x.latchNumbers.get c = r.latchNumbers.get c + 1) ∧
      (∀ c, ¬ (flags.get c = true ∧ r.present.get c = false ∧ d.latchedModes.get c = true) →
        x.latched.get c = r.latched.get c ∧ x.latchNumbers.get c = r.latchNumbers.get c) ∧
      s.answers t p f .done [1#8, 0#8, 0xFF#8] ∧
      t.nodes = s.nodes ∧ t.substs = s.substs ∧ t.held = s.held ∧
      (∀ b, b ≠ a → (t.app b).map AppLive.inputs = (s.app b).map AppLive.inputs) ∧
      x.marker = (r.marker || x.effective != r.effective) ∧
      (x.effective = r.effective → t.pass = s.pass ∧ t.spoils = s.spoils) ∧
      (x.effective ≠ r.effective →
        (s.pass = none → t.pass = some (freshPass false) ∧ t.spoils = s.spoils) ∧
        (∀ w, s.pass = some w → (∃ y ∈ w.readApps, y.number = a) →
          t.pass = some (freshPass (decide (3 ≤ s.spoils + 1))) ∧ t.spoils = s.spoils + 1) ∧
        (∀ w, s.pass = some w → (∀ y ∈ w.readApps, y.number ≠ a) → t.pass = s.pass ∧ t.spoils = s.spoils) ∧
        (∀ v e, s.evaluation = some v → s.entry v.ticket = some e →
          s.liesIn (.apparatus a) (e.footprint ++ v.candidateReach) = true → t.evaluation = none)) := by
  obtain rfl := State.appDesc_number hd
  have hrt : (s.taking p f).app d.number = some r := hr
  obtain ⟨hexec, hans⟩ := exec_item_applied h hb
    (State.applyAppItem_open (s := s.taking p f) pos flags hd hp hr hh)
  obtain ⟨x, hx, houter⟩ := State.positionReported_app pos flags hrt
  obtain ⟨hnodes, hsubsts, hheld⟩ := State.positionReported_kept pos flags hrt
  obtain ⟨-, hrep, hsub, heff, hpre, hlat, hnum, hmark⟩ := AppLive.of_outer houter
  have hactive : (s.taking p f).reporterActive d = s.reporterActive d := s.taking_reporterActive p f d
  have heff' : x.effective = effectivePosition r.substituted (s.reporterActive d) pos := by rw [← hactive]; exact heff
  refine ⟨_, x, hexec, hx, hrep, hsub, heff', hpre, fun c h1 h2 h3 => ?_, fun c hc => ?_, hans, hnodes, hsubsts, hheld,
    fun b hb => State.positionReported_others pos flags hrt b hb, ?_, fun he => ?_, fun he => ?_⟩
  · obtain ⟨hl, hn⟩ := AppLive.withBlocking_latched r d.latchedModes flags c
    simp only [h1, h2, h3, Bool.not_false, Bool.and_self, Bool.or_true, if_true] at hl hn
    exact ⟨by rw [hlat]; exact hl, by rw [hnum]; exact hn⟩
  · obtain ⟨hl, hn⟩ := AppLive.withBlocking_latched r d.latchedModes flags c
    have hnone : (flags.get c && !r.present.get c && d.latchedModes.get c) = false := by
      rw [Bool.eq_false_iff]
      simpa [and_assoc] using hc
    simp only [hnone, Bool.or_false, Bool.false_eq_true, if_false] at hl hn
    exact ⟨by rw [hlat]; exact hl, by rw [hnum]; exact hn⟩
  · rw [heff]; exact hmark
  · exact State.positionReported_passSame pos flags hrt (heff.symm.trans he)
  · have hne : effectivePosition r.substituted ((s.taking p f).reporterActive d) pos ≠ r.effective :=
      fun e => he (heff.trans e)
    obtain ⟨idle, read, unread⟩ := State.positionReported_pass pos flags hrt hh (h.runsPasses rfl) hne
    exact ⟨idle, read, unread, fun v e hv hentry hl =>
      State.positionReported_evaluation pos flags hrt hne (v := v) (e := e) hv hentry hl⟩

/-! ### One item in a held pass -/

/-- The fields of a record that the item of a held pass may change at once. -/
theorem State.applyBlocking_now {s : State} {d : AppDesc} {r : AppLive} (flags : Flags4) (hr : s.app d.number = some r) :
    ((s.applyBlocking d flags).app d.number).map (fun x => (x.reported, x.effective, x.marker, x.present)) =
      some (r.reported, r.effective, r.marker, flags) := by
  obtain ⟨x, hx, ho⟩ := State.applyBlocking_app flags hr
  obtain ⟨-, hrep, -, heff, hpre, -, -, hmark⟩ := AppLive.of_outer ho
  rw [hx, Option.map_some, hrep, heff, hpre, hmark]
  rfl

theorem State.applyBlocking_held {s : State} {d : AppDesc} (flags : Flags4) : (s.applyBlocking d flags).held = s.held := by
  cases hr : s.app d.number with
  | none => simp only [State.applyBlocking, hr]
  | some r => exact (State.applyBlocking_within flags hr).held

theorem State.applyBlocking_heldFor {s : State} {d : AppDesc} (flags : Flags4) (i : RecordId) :
    (s.applyBlocking d flags).heldFor i = s.heldFor i := by
  unfold State.heldFor
  rw [State.applyBlocking_held]

/-- R14, R40, R41: a report of one apparatus item in a held pass. -/
theorem report_apparatus_held (s : State) (p : Nat) (f : Frame) (a : Nat) (pos : Pos) (flags : Flags4) (d : AppDesc)
    (r : AppLive) (h : s.Takes p .positionReport f) (hb : decodeReport f.body = some [.apparatus a pos flags])
    (hh : s.heldPassRunning = true) (hd : s.appDesc a = some d) (hp : d.port = p) (hr : s.app a = some r) :
    let now := fun (x : AppLive) => (x.reported, x.effective, x.marker, x.present)
    (∀ old sub q, s.heldFor (.apparatus a) = some { target := .apparatus a, copy := .apparatus old sub q } →
      ∃ t, exec (.positionReport p) s = .next t ∧ s.answers t p f .done [1#8, 0#8, 0xFF#8] ∧
        t.heldFor (.apparatus a) = some { target := .apparatus a, copy := .apparatus pos sub q } ∧
        (∀ i, i ≠ .apparatus a → t.heldFor i = s.heldFor i) ∧ t.held.length = s.held.length ∧
        (t.app a).map now = some (r.reported, r.effective, r.marker, flags)) ∧
    (s.heldFor (.apparatus a) = none → effectivePosition r.substituted (s.reporterActive d) pos ≠ r.effective →
      (32 ≤ s.held.length →
        exec (.positionReport p) s = .next (s.answered p f .heldFull [0#8, 1#8, 0x17#8])) ∧
      (s.held.length < 32 → ∃ t q, exec (.positionReport p) s = .next t ∧ s.answers t p f .done [1#8, 0#8, 0xFF#8] ∧
        t.held = s.held ++ [{ target := .apparatus a, copy := .apparatus pos r.substituted q }] ∧
        (∀ y, s.subst (.apparatus a) = some y → q = y.port) ∧
        (t.app a).map now = some (r.reported, r.effective, true, flags))) ∧
    (s.heldFor (.apparatus a) = none → effectivePosition r.substituted (s.reporterActive d) pos = r.effective →
      ∃ t, exec (.positionReport p) s = .next t ∧ s.answers t p f .done [1#8, 0#8, 0xFF#8] ∧ t.held = s.held ∧
        (t.app a).map now = some (pos, r.effective, r.marker, flags)) := by
  obtain rfl := State.appDesc_number hd
  have hrt : (s.taking p f).app d.number = some r := hr
  refine ⟨fun old sub q hf => ?_, fun hf he => ?_, fun hf he => ?_⟩
  · obtain ⟨g, hg, hch⟩ := State.changeApp_heldEntry (s := s.taking p f) .report (some pos) none hr hh hf
    obtain ⟨hexec, hans⟩ := exec_item_applied h hb
      (State.applyAppItem_own (s := s.taking p f) pos flags hd hp hch)
    have heldFor : ∀ i, (((s.taking p f).modHeld (.apparatus d.number) g).applyBlocking d flags).heldFor i =
        (s.heldFor i).map (fun x => if i = .apparatus d.number then { x with copy := g x.copy } else x) :=
      fun i => (State.applyBlocking_heldFor flags i).trans (State.heldFor_modHeld _ _ _ _)
    refine ⟨_, hexec, hans, ?_, fun i hi => ?_, ?_, ?_⟩
    · rw [State.placeAnswer_heldFor, heldFor, hf]
      simp [hg]
    · rw [State.placeAnswer_heldFor, heldFor]
      simp [hi]
    · rw [State.placeAnswer_held, State.applyBlocking_held]
      simp [State.modHeld]
    · exact State.applyBlocking_now (s := (s.taking p f).modHeld (.apparatus d.number) g) flags hrt
  · have he' : effectivePosition r.substituted ((s.taking p f).reporterActive d) pos ≠ r.effective := by
      rwa [State.taking_reporterActive]
    refine ⟨fun hl => ?_, fun hl => ?_⟩
    · exact exec_report_refused h hb (State.applyAppItem_heldFull (s := s.taking p f) pos flags hd hp
        (State.changeApp_heldFull .report (some pos) none hr hh hf he' hl))
    · obtain ⟨hexec, hans⟩ := exec_item_applied h hb (State.applyAppItem_own (s := s.taking p f) pos flags hd hp
        (State.changeApp_joins .report (some pos) none hr hh hf he' hl))
      obtain ⟨x, hx, ho⟩ := State.makeHeld_app
        (.apparatus pos r.substituted ((s.taking p f).substPort (.apparatus d.number))) hrt
      obtain ⟨-, hrep, -, heff, -, -, -, hmark⟩ := AppLive.of_outer ho
      refine ⟨_, (s.taking p f).substPort (.apparatus d.number), hexec, hans, ?_, fun y hy => ?_, ?_⟩
      · exact (State.applyBlocking_held flags).trans (State.makeHeld_held _ _ _)
      · simp only [State.substPort, State.taking_subst, hy]
      · refine (State.applyBlocking_now flags hx).trans ?_
        rw [hrep, heff, hmark]
  · have he' : effectivePosition r.substituted ((s.taking p f).reporterActive d) pos = r.effective := by
      rwa [State.taking_reporterActive]
    obtain ⟨hexec, hans⟩ := exec_item_applied h hb (State.applyAppItem_own (s := s.taking p f) pos flags hd hp
      (State.changeApp_heldSame .report (some pos) none hr hh hf he'))
    obtain ⟨x, hx, ho⟩ := State.setAppInputs_app .report pos r.substituted hrt he'
    obtain ⟨-, hrep, -, heff, -, -, -, hmark⟩ := AppLive.of_outer ho
    refine ⟨_, hexec, hans, ?_, ?_⟩
    · have hheld := (State.setAppInputs_within .report pos r.substituted hrt he').held
      rw [State.noted_held] at hheld
      exact (State.applyBlocking_held flags).trans hheld
    · refine (State.applyBlocking_now flags hx).trans ?_
      rw [hrep, heff, hmark]
      simp

/-! ### Several items, while no pass runs -/

/-- R8: the item's target is the port's. -/
def State.ownsItem (s : State) (p : Nat) : ReportItem → Bool
  | .apparatus a _ _ => (s.appDesc a).any (fun d => d.port == p)
  | .presence n _ => (s.nodeDesc n).any (fun d => d.measured && d.port == some p)

theorem State.ownsItem_congr {s t : State} (h : t.force = s.force) (p : Nat) : t.ownsItem p = s.ownsItem p := by
  funext x
  cases x with
  | apparatus a pos flags => simp only [State.ownsItem, State.appDesc, h]
  | presence n v => simp only [State.ownsItem, State.nodeDesc, h]

/-- No pass runs, or one that has read nothing: no image change spoils it. -/
def State.passFresh (s : State) : Prop := s.pass = none ∨ s.pass = some (freshPass false)

theorem State.passFresh.not_held {s : State} (h : s.passFresh) : s.heldPassRunning = false := by
  rcases h with h | h <;> simp only [State.heldPassRunning, h]
  rfl

theorem State.passFresh.of_pass {s t : State} (h : s.passFresh) (e : t.pass = s.pass) : t.passFresh := by
  unfold State.passFresh
  rwa [e]

theorem State.passFresh.noted {s : State} (h : s.passFresh) (i : RecordId) (c : Bool) : (s.noted i c).passFresh := by
  cases c with
  | false => exact h
  | true =>
    have hp : (s.setMarker i).pass = s.pass := by cases i <;> rfl
    rcases h with h | h
    · rw [State.noted_true, State.topologySees, hp, h]
      cases (s.setMarker i).mode.runsPasses with
      | false => exact .inl (hp.trans h)
      | true => exact .inr rfl
    · rw [State.noted_true, State.topologySees_unread true i (hp.trans h) (by cases i <;> rfl)]
      exact .inr (hp.trans h)

/-- The items of `l` have been taken one after the other between `s` and `t`, by port `p` (R7). -/
structure State.ItemsTaken (s t : State) (p : Nat) (l : List ReportItem) : Prop where
  force : t.force = s.force
  fresh : t.passFresh
  appsKept : ∀ a, (∀ pos flags, .apparatus a pos flags ∈ l → s.ownsItem p (.apparatus a pos flags) = false) →
    (t.app a).map AppLive.inputs = (s.app a).map AppLive.inputs
  nodesKept : ∀ n, (∀ v, .presence n v ∈ l → s.ownsItem p (.presence n v) = false) → t.node n = s.node n
  appsStand : ∀ a r, s.app a = some r → ∃ x, t.app a = some x ∧ x.substituted = r.substituted
  nodesStand : ∀ n r, s.node n = some r → ∃ x, t.node n = some x ∧ x.substituted = r.substituted
  lastApp : ∀ before a pos flags after r, l = before ++ .apparatus a pos flags :: after →
    s.ownsItem p (.apparatus a pos flags) = true → (∀ y g, .apparatus a y g ∉ after) → s.app a = some r →
    (t.app a).map (fun x => (x.reported, x.substituted, x.present)) = some (pos, r.substituted, flags)
  lastNode : ∀ before n v after r, l = before ++ .presence n v :: after →
    s.ownsItem p (.presence n v) = true → (∀ w, .presence n w ∉ after) → s.node n = some r →
    (t.node n).map (fun x => (x.lastSample, x.substituted)) = some (some (min v 2000), r.substituted)

theorem State.ItemsTaken.nil {s : State} (p : Nat) (h : s.passFresh) : s.ItemsTaken s p [] where
  force := rfl
  fresh := h
  appsKept := fun _ _ => rfl
  nodesKept := fun _ _ => rfl
  appsStand := fun _ r hr => ⟨r, hr, rfl⟩
  nodesStand := fun _ r hr => ⟨r, hr, rfl⟩
  lastApp := fun before a pos flags after _ hl => by simp at hl
  lastNode := fun before n v after _ hl => by simp at hl

/-- What keeps the inputs of a record keeps the three that an item writes or leaves. -/
theorem map_reported_of_inputs {x y : Option AppLive} (h : x.map AppLive.inputs = y.map AppLive.inputs) :
    x.map (fun r => (r.reported, r.substituted, r.present)) = y.map (fun r => (r.reported, r.substituted, r.present)) := by
  have e := congrArg (Option.map (fun i : Pos × Option Target × Pos × Flags4 × Flags4 × LatchNumbers =>
    (i.1, i.2.1, i.2.2.2.1))) h
  rwa [Option.map_map, Option.map_map] at e

/-- One item and then the others. -/
theorem State.ItemsTaken.cons {s u t : State} {p : Nat} {x : ReportItem} {l : List ReportItem}
    (h1 : s.ItemsTaken u p [x]) (h2 : u.ItemsTaken t p l) : s.ItemsTaken t p (x :: l) := by
  have own : u.ownsItem p = s.ownsItem p := State.ownsItem_congr h1.force p
  refine ⟨h2.force.trans h1.force, h2.fresh, fun a ha => ?_, fun n hn => ?_, fun a r hr => ?_, fun n r hr => ?_,
    fun before a pos flags after r hl ho hlast hr => ?_, fun before n v after r hl ho hlast hr => ?_⟩
  · refine (h2.appsKept a (fun pos flags hm => ?_)).trans (h1.appsKept a (fun pos flags hm => ?_))
    · rw [own]; exact ha pos flags (List.mem_cons_of_mem _ hm)
    · exact ha pos flags (List.mem_cons.2 (.inl (List.mem_singleton.1 hm)))
  · refine (h2.nodesKept n (fun v hm => ?_)).trans (h1.nodesKept n (fun v hm => ?_))
    · rw [own]; exact hn v (List.mem_cons_of_mem _ hm)
    · exact hn v (List.mem_cons.2 (.inl (List.mem_singleton.1 hm)))
  · obtain ⟨y, hy, hs⟩ := h1.appsStand a r hr
    obtain ⟨z, hz, hs'⟩ := h2.appsStand a y hy
    exact ⟨z, hz, hs'.trans hs⟩
  · obtain ⟨y, hy, hs⟩ := h1.nodesStand n r hr
    obtain ⟨z, hz, hs'⟩ := h2.nodesStand n y hy
    exact ⟨z, hz, hs'.trans hs⟩
  · cases before with
    | nil =>
      obtain ⟨rfl, rfl⟩ := List.cons.inj hl
      refine (map_reported_of_inputs (h2.appsKept a (fun y g hm => absurd hm (hlast y g)))).trans ?_
      exact h1.lastApp [] a pos flags [] r rfl ho (fun _ _ hm => by cases hm) hr
    | cons b before =>
      obtain ⟨rfl, rfl⟩ := List.cons.inj hl
      obtain ⟨y, hy, hs⟩ := h1.appsStand a r hr
      rw [← hs]
      exact h2.lastApp before a pos flags after y rfl (by rw [own]; exact ho) hlast hy
  · cases before with
    | nil =>
      obtain ⟨rfl, rfl⟩ := List.cons.inj hl
      rw [h2.nodesKept n (fun w hm => absurd hm (hlast w))]
      exact h1.lastNode [] n v [] r rfl ho (fun _ hm => by cases hm) hr
    | cons b before =>
      obtain ⟨rfl, rfl⟩ := List.cons.inj hl
      obtain ⟨y, hy, hs⟩ := h1.nodesStand n r hr
      rw [← hs]
      exact h2.lastNode before n v after y rfl (by rw [own]; exact ho) hlast hy

/-- An item that is not the port's. -/
theorem State.applyItem_foreign {s : State} {p : Nat} {x : ReportItem} (h : s.ownsItem p x = false) :
    s.applyItem p x = (s, some .notYourItem) := by
  cases x with
  | apparatus a pos flags =>
    refine State.applyAppItem_foreign s p a pos flags (fun d hd hp => ?_)
    simp [State.ownsItem, hd, hp] at h
  | presence n v =>
    refine State.applyPresence_foreign s p n v (fun d hd hm hp => ?_)
    simp [State.ownsItem, hd, hm, hp] at h

theorem eq_of_singleton_eq_append {α : Type} {x y : α} {before after : List α} (h : [x] = before ++ y :: after) :
    y = x := by
  cases before with
  | nil => exact (List.cons.inj h).1.symm
  | cons b before => simp at h

/-- An item that leaves the state as it was: it is not the port's, or is of an apparatus without a record. -/
theorem State.ItemsTaken.unchanged {s : State} {p : Nat} {x : ReportItem} (hf : s.passFresh)
    (happ : ∀ a pos flags, x = .apparatus a pos flags → s.ownsItem p x = true → s.app a = none)
    (hnode : ∀ n v, x = .presence n v → s.ownsItem p x = false) : s.ItemsTaken s p [x] where
  force := rfl
  fresh := hf
  appsKept := fun _ _ => rfl
  nodesKept := fun _ _ => rfl
  appsStand := fun _ r hr => ⟨r, hr, rfl⟩
  nodesStand := fun _ r hr => ⟨r, hr, rfl⟩
  lastApp := fun before a pos flags after r hl ho _ hr => by
    obtain rfl := eq_of_singleton_eq_append hl
    rw [happ a pos flags rfl ho] at hr
    cases hr
  lastNode := fun before n v after r hl ho => by
    obtain rfl := eq_of_singleton_eq_append hl
    rw [hnode n v rfl] at ho
    cases ho

/-- An item of an apparatus that the port reports, its record there. -/
theorem State.ItemsTaken.position {s : State} {p : Nat} {d : AppDesc} {r : AppLive} (pos : Pos) (flags : Flags4)
    (hf : s.passFresh) (hr : s.app d.number = some r) (ho : s.ownsItem p (.apparatus d.number pos flags) = true) :
    s.ItemsTaken (s.positionReported d r pos flags) p [.apparatus d.number pos flags] := by
  obtain ⟨x, hx, houter⟩ := State.positionReported_app pos flags hr
  obtain ⟨-, hrep, hsub, -, hpre, -, -, -⟩ := AppLive.of_outer houter
  obtain ⟨hnodes, -, -⟩ := State.positionReported_kept pos flags hr
  have hwithin := State.positionReported_within pos flags hr
  have hnode : ∀ n, (s.positionReported d r pos flags).node n = s.node n := by
    intro n
    unfold State.node
    rw [hnodes]
  refine ⟨hwithin.force.trans (State.noted_force _ _ _), ?_, fun a ha => ?_, fun n _ => hnode n, fun a y hy => ?_,
    fun n y hy => ⟨y, (hnode n).trans hy, rfl⟩, fun before a pos' flags' after y hl _ _ hy => ?_,
    fun before n v after y hl => ?_⟩
  · exact State.passFresh.of_pass (State.passFresh.noted (s := s.appWritten d.number pos r.substituted
      (effectivePosition r.substituted (s.reporterActive d) pos)) hf _ _) hwithin.pass
  · refine State.positionReported_others pos flags hr a (fun e => ?_)
    subst e
    rw [ha pos flags (List.mem_singleton_self _)] at ho
    cases ho
  · by_cases e : a = d.number
    · subst e
      obtain rfl : r = y := Option.some.inj (hr.symm.trans hy)
      exact ⟨x, hx, hsub⟩
    · have h := State.positionReported_others pos flags hr a e
      rw [hy] at h
      obtain ⟨z, hz, hi⟩ := Option.map_eq_some_iff.1 h
      exact ⟨z, hz, congrArg (fun i : Pos × Option Target × Pos × Flags4 × Flags4 × LatchNumbers => i.2.1) hi⟩
  · obtain ⟨rfl, rfl, rfl⟩ := ReportItem.apparatus.inj (eq_of_singleton_eq_append hl)
    obtain rfl : r = y := Option.some.inj (hr.symm.trans hy)
    rw [hx, Option.map_some, hrep, hsub, hpre]
    rfl
  · cases eq_of_singleton_eq_append hl

/-- An item of a measured node that the port reports, its record there. -/
theorem State.ItemsTaken.presence {s : State} {p n : Nat} {r : NodeLive} (v : Nat) (hf : s.passFresh)
    (hr : s.node n = some r) (ho : s.ownsItem p (.presence n v) = true) :
    s.ItemsTaken (s.presenceReported n r v) p [.presence n v] := by
  have hnode := State.presenceReported_node v hr
  have hwithin := State.setNodeInputs_within n (s.sampleTaken r r.cls v).2 r.substituted
    (State.sampleWritten_self hr r.cls v) rfl
  have hinputs : ∀ a, ((s.presenceReported n r v).app a).map AppLive.inputs = (s.app a).map AppLive.inputs := by
    intro a
    refine (hwithin.app_inputs a).trans ?_
    unfold State.app
    rw [State.noted_apps_node]
    rfl
  refine ⟨hwithin.force.trans (State.noted_force _ _ _), ?_, fun a _ => hinputs a, fun m hm => ?_, fun a y hy => ?_,
    fun m y hy => ?_, fun before a pos flags after y hl => ?_, fun before m w after y hl _ _ hy => ?_⟩
  · exact State.passFresh.of_pass (State.passFresh.noted (s := (s.sampleWritten n r r.cls v).nodeWritten n
      (s.sampleTaken r r.cls v).2 r.substituted (effectiveClass r.substituted (s.sampleTaken r r.cls v).2)) hf _ _)
      hwithin.pass
  · refine (hnode m).trans (if_neg (fun e => ?_))
    subst e
    rw [hm v (List.mem_singleton_self _)] at ho
    cases ho
  · have h := hinputs a
    rw [hy] at h
    obtain ⟨z, hz, hi⟩ := Option.map_eq_some_iff.1 h
    exact ⟨z, hz, congrArg (fun i : Pos × Option Target × Pos × Flags4 × Flags4 × LatchNumbers => i.2.1) hi⟩
  · by_cases e : m = n
    · subst e
      obtain rfl : r = y := Option.some.inj (hr.symm.trans hy)
      exact ⟨_, (hnode m).trans (if_pos rfl), rfl⟩
    · exact ⟨y, ((hnode m).trans (if_neg e)).trans hy, rfl⟩
  · cases eq_of_singleton_eq_append hl
  · obtain ⟨rfl, rfl⟩ := ReportItem.presence.inj (eq_of_singleton_eq_append hl)
    obtain rfl : r = y := Option.some.inj (hr.symm.trans hy)
    rw [hnode m, if_pos rfl]
    rfl

/-- R7, R8: one item of a report, while no pass runs that it could spoil. -/
theorem State.applyItem_taken {s : State} {p : Nat} {x : ReportItem} (hf : s.passFresh)
    (hn : ∀ n v, x = .presence n v → (s.nodeDesc n).isSome = true → (s.node n).isSome = true) :
    s.ItemsTaken (s.applyItem p x).1 p [x] ∧
    (s.applyItem p x).2 = if s.ownsItem p x then none else some .notYourItem := by
  cases ho : s.ownsItem p x with
  | false =>
    rw [State.applyItem_foreign ho]
    refine ⟨State.ItemsTaken.unchanged hf (fun _ _ _ _ h => ?_) (fun _ _ _ => ho), by simp⟩
    rw [ho] at h
    cases h
  | true =>
    rw [if_pos rfl]
    cases x with
    | apparatus a pos flags =>
      obtain ⟨d, hd, hp⟩ := (Option.any_eq_true _ _).1 ho
      obtain rfl := State.appDesc_number hd
      have hport : d.port = p := by simpa using hp
      cases hr : s.app d.number with
      | none =>
        have hitem : s.applyItem p (.apparatus d.number pos flags) = (s, none) := by
          refine (State.applyAppItem_own (u := s) pos flags hd hport (by simp only [State.changeApp, hr])).trans ?_
          simp only [State.applyBlocking, hr]
        rw [hitem]
        refine ⟨State.ItemsTaken.unchanged hf (fun a' pos' flags' hx _ => ?_) (fun n v hx => by cases hx), rfl⟩
        obtain ⟨rfl, -, -⟩ := ReportItem.apparatus.inj hx
        exact hr
      | some r =>
        have hitem : s.applyItem p (.apparatus d.number pos flags) = (s.positionReported d r pos flags, none) :=
          State.applyAppItem_open pos flags hd hport hr hf.not_held
        rw [hitem]
        exact ⟨State.ItemsTaken.position pos flags hf hr ho, rfl⟩
    | presence n v =>
      obtain ⟨d, hd, hp⟩ := (Option.any_eq_true _ _).1 ho
      obtain ⟨hm, hport⟩ : d.measured = true ∧ d.port = some p := by simpa using hp
      obtain ⟨r, hr⟩ := Option.isSome_iff_exists.1 (hn n v rfl (by rw [hd]; rfl))
      have hitem : s.applyItem p (.presence n v) = (s.presenceReported n r v, none) :=
        State.applyPresence_open hd hm hport hr hf.not_held
      rw [hitem]
      exact ⟨State.ItemsTaken.presence v hf hr ho, rfl⟩

/-- R7, R8: the items of a report in order: what they leave, the count applied, and the first refusal. -/
theorem State.applyItems_taken (p : Nat) (l : List ReportItem) (s : State) (i : Nat) (res : ReportResult)
    (hf : s.passFresh)
    (hn : ∀ n v, .presence n v ∈ l → (s.nodeDesc n).isSome = true → (s.node n).isSome = true) :
    s.ItemsTaken (s.applyItems p l i res).1 p l ∧
    (s.applyItems p l i res).2 =
      { applied := res.applied + l.countP (s.ownsItem p)
        refused := res.refused.or ((l.findIdx? (fun x => !s.ownsItem p x)).map
          (fun k => (i + k, AnswerCode.notYourItem))) } := by
  induction l generalizing s i res with
  | nil => exact ⟨State.ItemsTaken.nil p hf, by simp [State.applyItems]⟩
  | cons x l ih =>
    obtain ⟨htaken, hanswer⟩ := State.applyItem_taken (p := p) hf
      (fun n v hx hd => hn n v (List.mem_cons.2 (.inl hx.symm)) hd)
    have own : (s.applyItem p x).1.ownsItem p = s.ownsItem p := State.ownsItem_congr htaken.force p
    have hn' : ∀ n v, .presence n v ∈ l → ((s.applyItem p x).1.nodeDesc n).isSome = true →
        ((s.applyItem p x).1.node n).isSome = true := by
      intro n v hm hd
      rw [State.nodeDesc, htaken.force] at hd
      obtain ⟨r, hr⟩ := Option.isSome_iff_exists.1 (hn n v (List.mem_cons_of_mem _ hm) hd)
      obtain ⟨y, hy, -⟩ := htaken.nodesStand n r hr
      rw [hy]
      rfl
    cases ho : s.ownsItem p x with
    | true =>
      rw [ho, if_pos rfl] at hanswer
      obtain ⟨hrest, hres⟩ := ih (s.applyItem p x).1 (i + 1) { res with applied := res.applied + 1 } htaken.fresh hn'
      simp only [State.applyItems, hanswer]
      refine ⟨htaken.cons hrest, hres.trans ?_⟩
      rw [own, List.countP_cons_of_pos ho, List.findIdx?_cons, ho]
      simp [Option.map_map, Function.comp_def, Nat.add_assoc, Nat.add_comm, Nat.add_left_comm]
    | false =>
      rw [ho, if_neg Bool.false_ne_true] at hanswer
      obtain ⟨hrest, hres⟩ := ih (s.applyItem p x).1 (i + 1)
        { res with refused := some (res.refused.getD (i, .notYourItem)) } htaken.fresh hn'
      simp only [State.applyItems, hanswer]
      refine ⟨htaken.cons hrest, hres.trans ?_⟩
      rw [own, List.countP_cons_of_neg (by simp [ho]), List.findIdx?_cons, ho]
      cases res.refused <;> simp

/-- R7, R8, R187: a report of several items while no pass runs. -/
theorem report_several (s : State) (p : Nat) (f : Frame) (l : List ReportItem) (h : s.Takes p .positionReport f)
    (hb : decodeReport f.body = some l) (hpass : s.pass = none)
    (hn : ∀ n v, .presence n v ∈ l → (s.nodeDesc n).isSome = true → (s.node n).isSome = true) :
    ∃ t, exec (.positionReport p) s = .next t ∧ s.ItemsTaken t p l ∧
      (l.all (s.ownsItem p) = true → s.answers t p f .done (put8 l.length ++ [0#8, 0xFF#8])) ∧
      (∀ before x after, l = before ++ x :: after → before.all (s.ownsItem p) = true → s.ownsItem p x = false →
        s.answers t p f .notYourItem (put8 (l.countP (s.ownsItem p)) ++ put8 (before.length + 1) ++ [0x0A#8])) := by
  obtain ⟨htaken, hres⟩ := State.applyItems_taken p l (s.taking p f) 1 { applied := 0, refused := none } (.inl hpass) hn
  have haround := State.applyItems_around p l (s.taking p f) 1 { applied := 0, refused := none }
  have own : (s.taking p f).ownsItem p = s.ownsItem p := State.ownsItem_congr rfl p
  rw [own, Nat.zero_add, Option.none_or] at hres
  refine ⟨_, exec_positionReport_taken h hb, ?_, fun hall => ?_, fun before x after hl hall hx => ?_⟩
  · exact { force := htaken.force, fresh := htaken.fresh, appsKept := htaken.appsKept, nodesKept := htaken.nodesKept,
            appsStand := htaken.appsStand, nodesStand := htaken.nodesStand, lastApp := htaken.lastApp,
            lastNode := htaken.lastNode }
  · have hfind : l.findIdx? (fun x => !s.ownsItem p x) = none := by
      rw [List.findIdx?_eq_none_iff]
      simpa using List.all_eq_true.1 hall
    have hcount : l.countP (s.ownsItem p) = l.length := List.countP_eq_length.2 (List.all_eq_true.1 hall)
    have hans := haround.answers h.listed .done (put8 l.length ++ [0#8, 0xFF#8])
    simp only [State.positionReport, hres, hfind, hcount, ReportResult.code, ReportResult.fields, Option.map_none]
    exact hans
  · have hfind : l.findIdx? (fun x => !s.ownsItem p x) = some before.length := by
      rw [hl, List.findIdx?_append, List.findIdx?_cons]
      have hb : before.findIdx? (fun x => !s.ownsItem p x) = none := by
        rw [List.findIdx?_eq_none_iff]
        simpa using List.all_eq_true.1 hall
      simp [hb, hx]
    have hans := haround.answers h.listed .notYourItem
      (put8 (l.countP (s.ownsItem p)) ++ put8 (before.length + 1) ++ [0x0A#8])
    simp only [State.positionReport, hres, hfind, ReportResult.code, ReportResult.fields, Option.map_some]
    rw [Nat.add_comm 1]
    exact hans

end Sys2Proof.Machine
end

section
/-! What a retirement, an automatic INSPECT and an unbidden change leave, task by task (R21 to R23, R117, R127, R142). -/

namespace Sys2Proof.Machine

/-! ### Notices -/

/-- An update of the ports alone, written out. -/
theorem State.OnlyPorts.eq {s t : State} (h : s.OnlyPorts t) : t = { s with ports := t.ports } := by
  calc t = { ({ t with ports := s.ports } : State) with ports := t.ports } := rfl
    _ = { s with ports := t.ports } := by rw [h]

theorem State.notify_ports (s : State) (p : Nat) (n : Notice) : ∃ l, s.notify p n = { s with ports := l } :=
  ⟨_, (s.notify_onlyPorts p n).eq⟩

theorem State.broadcast_ports (s : State) (n : Notice) : ∃ l, s.broadcast n = { s with ports := l } :=
  ⟨_, (s.broadcast_onlyPorts n).eq⟩

theorem State.notify_port_ne (s : State) {p q : Nat} (n : Notice) (h : p ≠ q) : (s.notify p n).port q = s.port q := by
  rcases s.notify_eq p n with e | ⟨_, _, e⟩
  · rw [e]
  · rw [e, State.port_modPort_ne _ _ _ _ h]

/-- A notice leaves all of a port but its transmit list. -/
theorem State.Gains.queue {s t : State} (h : s.Gains t) (q : Nat) : (t.port q).queue = (s.port q).queue := by
  obtain ⟨l, hl⟩ := h.2 q
  rw [hl]

theorem State.Gains.state {s t : State} (h : s.Gains t) (q : Nat) : (t.port q).state = (s.port q).state := by
  obtain ⟨l, hl⟩ := h.2 q
  rw [hl]

theorem State.Gains.mem {s t : State} (h : s.Gains t) {q : Nat} {x : Outgoing} (hx : x ∈ (s.port q).transmit) :
    x ∈ (t.port q).transmit := by
  obtain ⟨l, hl⟩ := h.2 q
  rw [hl]
  exact List.mem_append_left _ hx

/-- A notice takes at most one notice place. -/
theorem State.notify_count (s : State) (p : Nat) (n : Notice) (q : Nat) :
    noticeCount ((s.notify p n).port q).transmit ≤ noticeCount (s.port q).transmit + 1 := by
  rcases s.notify_eq p n with e | ⟨_, _, e⟩
  · rw [e]; exact Nat.le_succ _
  · rw [e, State.port_modPort]
    split
    · simp [noticeCount, List.filter_append]
    · exact Nat.le_succ _

/-- An answer takes its place among the frames that stand. -/
theorem State.placeAnswer_mem {s : State} (p n : Nat) (a : Outgoing) {q : Nat} {x : Outgoing}
    (hx : x ∈ (s.port q).transmit) : x ∈ ((s.placeAnswer p n a).port q).transmit := by
  unfold State.placeAnswer
  rw [State.port_modPort]
  split
  · rw [← List.take_append_drop n (s.port q).transmit] at hx
    simp only [List.mem_append, List.mem_cons] at hx ⊢
    exact hx.imp id .inr
  · exact hx

/-- R167: a broadcast reaches every SUPERVISORY port that is ACTIVE and has a notice place free. -/
theorem State.broadcast_mem (s : State) (n : Notice) {q : Nat} (hq : q < 24) (hr : (s.port q).role = .supervisory)
    (ha : (s.port q).state = .active) (hc : noticeCount (s.port q).transmit < 32) :
    Outgoing.notice n ∈ ((s.broadcast n).port q).transmit := by
  have step_gains : ∀ (t : State) (p : Nat), t.Gains (if (t.port p).role = .supervisory then t.notify p n else t) := by
    intro t p
    split
    · exact t.notify_gains p n
    · exact State.Gains.refl t
  have key : ∀ (l : List Nat) (t : State), l.Nodup → q ∈ l → t.port q = s.port q → Outgoing.notice n ∈
      ((l.foldl (fun acc p => if (acc.port p).role = .supervisory then acc.notify p n else acc) t).port q).transmit := by
    intro l
    induction l with
    | nil => intro t _ hm; cases hm
    | cons p l ih =>
      intro t hd hm ht
      rw [List.nodup_cons] at hd
      rw [List.foldl_cons]
      by_cases hp : p = q
      · subst hp
        refine (foldl_gains _ step_gains l _).mem ?_
        rw [if_pos (by rw [ht]; exact hr)]
        exact t.notify_mem p n (by rw [ht]; exact ha) (by rw [ht]; exact hc)
      · refine ih _ hd.2 ((List.mem_cons.1 hm).resolve_left (Ne.symm hp)) ?_
        split
        · rw [State.notify_port_ne _ _ hp, ht]
        · exact ht
  exact key _ s List.nodup_range (List.mem_range.2 hq) rfl

/-! ### Tasks that do nothing -/

theorem State.marked_of_free {s : State} (h : s.evaluation = none) : s.marked = s := by
  unfold State.marked
  rw [h, Option.map_none, ← h]

/-- R86: a re-offer event of a calm state with no evaluation in flight changes nothing. -/
theorem State.calm.worksOff_reoffer_free {s : State} (h : s.calm) (hv : s.evaluation = none) :
    s.WorksOff [.reoffer] 1 s := by
  have hw := h.worksOff_reoffer
  rwa [State.marked_of_free hv] at hw

/-- R155: the condition of FROZEN is tested in FREEZING alone. -/
theorem State.worksOff_testFrozen {s : State} (h : s.mode ≠ .freezing) : s.WorksOff [.testFrozen] 1 s := by
  refine State.WorksOff.cons (new := []) ?_ (State.worksOff_nil _)
  simp only [State.runTask, State.testFrozen, h, false_and, if_false]

/-- A part of an event that may be left out, where it does nothing. -/
theorem State.WorksOff.ite {s : State} {ts : List Task} {k : Nat} (h : s.WorksOff ts k s) (c : Bool) :
    s.WorksOff (if c then ts else []) k s := by
  cases c with
  | true => exact h
  | false => exact s.worksOff_nil.mono (Nat.zero_le k)

/-! ### A retirement (R117) -/

/-- R117: the entry has left the table, and its owner has the notice. -/
def State.retiredBy (s : State) (e : Entry) (o : MoveOutcome) : State :=
  (s.takeOut e o).notify e.owner (.movementEnded e.ticket o e.operatingTime)

section
variable (s : State) (e : Entry) (o : MoveOutcome)

theorem State.retiredBy_eq : ∃ l, s.retiredBy e o = { s.takeOut e o with ports := l } :=
  State.notify_ports _ _ _

@[simp] theorem State.retiredBy_entries :
    (s.retiredBy e o).entries = s.entries.filter (fun x => x.ticket ≠ e.ticket) := by
  obtain ⟨l, h⟩ := s.retiredBy_eq e o; rw [h]; rfl
@[simp] theorem State.retiredBy_coupled : (s.retiredBy e o).coupled = s.coupled.filter (· ≠ e.ticket) := by
  obtain ⟨l, h⟩ := s.retiredBy_eq e o; rw [h]; rfl
@[simp] theorem State.retiredBy_ended : (s.retiredBy e o).ended =
    (s.ended ++ [Entry.endedItem e o]).drop (s.ended.length + 1 - 16) := by
  obtain ⟨l, h⟩ := s.retiredBy_eq e o
  rw [h]
  show (s.ended ++ [Entry.endedItem e o]).drop ((s.ended ++ [Entry.endedItem e o]).length - Config.maxEnded) = _
  rw [List.length_append]
  rfl
@[simp] theorem State.retiredBy_apps : (s.retiredBy e o).apps = s.apps.map (fun r =>
    if r.number = e.apparatus then { r with ticket := none, lastOutcome := some (.movement o) } else r) := by
  obtain ⟨l, h⟩ := s.retiredBy_eq e o; rw [h]; rfl
@[simp] theorem State.retiredBy_programmes : (s.retiredBy e o).programmes = s.programmes := by
  obtain ⟨l, h⟩ := s.retiredBy_eq e o; rw [h]; rfl
@[simp] theorem State.retiredBy_waitingOrder : (s.retiredBy e o).waitingOrder = s.waitingOrder := by
  obtain ⟨l, h⟩ := s.retiredBy_eq e o; rw [h]; rfl
@[simp] theorem State.retiredBy_mode : (s.retiredBy e o).mode = s.mode := by
  obtain ⟨l, h⟩ := s.retiredBy_eq e o; rw [h]; rfl
@[simp] theorem State.retiredBy_restrictions : (s.retiredBy e o).restrictions = s.restrictions := by
  obtain ⟨l, h⟩ := s.retiredBy_eq e o; rw [h]; rfl
@[simp] theorem State.retiredBy_writes : (s.retiredBy e o).writes = s.writes := by
  obtain ⟨l, h⟩ := s.retiredBy_eq e o; rw [h]; rfl

theorem State.retiredBy_evaluation (h : s.evaluation = none) : (s.retiredBy e o).evaluation = none := by
  obtain ⟨l, hl⟩ := s.retiredBy_eq e o
  rw [hl]
  show (match s.evaluation with | some v => if v.ticket = e.ticket then none else some v | none => none) = none
  rw [h]

theorem State.retiredBy_calm (h : s.calm) : (s.retiredBy e o).calm := by
  refine ⟨fun x hx => h.1 x ?_, (s.retiredBy_waitingOrder e o).trans h.2⟩
  rw [State.retiredBy_entries] at hx
  exact List.mem_of_mem_filter hx

/-- A ticket leaves its own port's queue alone. -/
theorem State.queueLeave_queue (p t q : Nat) : ((s.queueLeave p t).port q).queue =
    if q = p then (s.port q).queue.filter (· ≠ t) else (s.port q).queue := by
  unfold State.queueLeave
  rw [State.port_modPort]
  by_cases hq : q < s.ports.length
  · by_cases hp : p = q
    · simp [hp, hq]
    · simp [hp, Ne.symm hp]
  · have hm : s.port q = Port.missing := by simp [State.port, List.getElem?_eq_none (Nat.le_of_not_lt hq)]
    simp [hq, hm, Port.missing, Port.afterReset]

@[simp] theorem State.queueLeave_state (p t q : Nat) : ((s.queueLeave p t).port q).state = (s.port q).state := by
  unfold State.queueLeave
  rw [State.port_modPort]
  split <;> rfl

@[simp] theorem State.queueLeave_transmit (p t q : Nat) :
    ((s.queueLeave p t).port q).transmit = (s.port q).transmit := by
  unfold State.queueLeave
  rw [State.port_modPort]
  split <;> rfl

theorem State.takeOut_port (q : Nat) : (s.takeOut e o).port q = (s.queueLeave e.owner e.ticket).port q := rfl

theorem State.retiredBy_gains : (s.takeOut e o).Gains (s.retiredBy e o) := State.notify_gains _ _ _

theorem State.retiredBy_queue (q : Nat) : ((s.retiredBy e o).port q).queue =
    if q = e.owner then (s.port q).queue.filter (· ≠ e.ticket) else (s.port q).queue := by
  rw [(s.retiredBy_gains e o).queue, State.takeOut_port, State.queueLeave_queue]

theorem State.retiredBy_state (q : Nat) : ((s.retiredBy e o).port q).state = (s.port q).state := by
  rw [(s.retiredBy_gains e o).state, State.takeOut_port, State.queueLeave_state]

theorem State.retiredBy_count (q : Nat) :
    noticeCount ((s.retiredBy e o).port q).transmit ≤ noticeCount (s.port q).transmit + 1 := by
  have h := (s.takeOut e o).notify_count e.owner (.movementEnded e.ticket o e.operatingTime) q
  rwa [State.takeOut_port, State.queueLeave_transmit] at h

theorem State.retiredBy_notice (ha : (s.port e.owner).state = .active)
    (hc : noticeCount (s.port e.owner).transmit < 32) :
    Outgoing.notice (.movementEnded e.ticket o e.operatingTime) ∈ ((s.retiredBy e o).port e.owner).transmit := by
  refine State.notify_mem _ _ _ ?_ ?_
  · rw [State.takeOut_port, State.queueLeave_state, ha]
  · rw [State.takeOut_port, State.queueLeave_transmit]
    exact hc

end

section
variable {s : State} {e : Entry} (he : s.entry e.ticket = some e) (hh : e.state.held = true) (hs : e.state ≠ .settling)
include he hh hs

/-- R117: the retirement of an entry whose reservation is held, and which is not SETTLING. -/
theorem State.retire_held (o : MoveOutcome) : s.retire e.ticket o = (s.retiredBy e o,
    (match e.programme with
      | some (pt, _) => [.inform pt e.ticket o { footprint := e.footprint, reach := e.reach.getD [] }]
      | none => []) ++ (if s.heldBack e then [.testFrozen] else []) ++ [.reoffer]) := by
  simp only [State.retire, he, hh, if_true, Bool.true_and, State.settlingJudgement, hs, if_false, List.nil_append,
    Bool.false_eq_true, List.append_nil]
  rfl

/-- R117: in a calm state, outside FREEZING and a programme, nothing follows from a retirement. -/
theorem State.worksOff_retire (o : MoveOutcome) (hp : e.programme = none) (hc : s.calm) (hm : s.mode ≠ .freezing)
    (hv : s.evaluation = none) : s.WorksOff [.retire e.ticket o] 3 (s.retiredBy e o) := by
  have hm' : (s.retiredBy e o).mode ≠ .freezing := by rwa [State.retiredBy_mode]
  refine State.WorksOff.cons (s.retire_held he hh hs o) ?_
  simp only [hp, List.nil_append, List.append_nil]
  exact ((State.worksOff_testFrozen hm').ite _).append
    ((s.retiredBy_calm e o hc).worksOff_reoffer_free (s.retiredBy_evaluation e o hv))

end

/-! ### The programme of a movement that ends (R127, R128) -/

/-- R120, R128: the programme has left the table, and its owner has the notice. -/
def State.programmeEnded (s : State) (g : Programme) (r : StopReason) : State := (s.endProgramme g (some r)).1

section
variable (s : State) (g : Programme) (r : StopReason)

theorem State.programmeEnded_eq : ∃ l, s.programmeEnded g r = { s with
    programmes := s.programmes.filter (fun q => q.ticket ≠ g.ticket)
    waitingOrder := s.waitingOrder.filter (· ≠ g.ticket)
    ports := l } := State.notify_ports _ _ _

theorem State.programmeEnded_calm (h : s.calm) : (s.programmeEnded g r).calm := by
  obtain ⟨l, hl⟩ := s.programmeEnded_eq g r
  rw [hl]
  refine ⟨h.1, ?_⟩
  show s.waitingOrder.filter (· ≠ g.ticket) = []
  rw [h.2]
  rfl

theorem State.programmeEnded_notice (ha : (s.port g.owner).state = .active)
    (hc : noticeCount (s.port g.owner).transmit < 32) :
    Outgoing.notice (.programmeEnded g.ticket g.current (some r)) ∈ ((s.programmeEnded g r).port g.owner).transmit :=
  State.notify_mem _ _ _ ha hc

end

/-- R127: a programme whose current movement ends neither COMPLETED nor SKIPPED stops, CANCELLED if it was STOPPING. -/
theorem State.inform_stops {s : State} {g : Programme} {t : Nat} {o : MoveOutcome} {held : Reservation}
    (hg : s.programme g.ticket = some g) (hm : g.movement = some t) (ha : (s.port g.owner).state = .active)
    (ho : o ≠ .completed ∧ o ≠ .skipped) : s.inform g.ticket t o held =
      (s.programmeEnded g (.outcome (if g.state = .stopping then .cancelled else o)),
        if g.carry.isSome then [.reoffer] else []) := by
  have hlost : ¬ (s.port g.owner).state = .lost := by rw [ha]; decide
  have hdone : ¬ (o = .completed ∨ o = .skipped) := fun h => h.elim ho.1 ho.2
  simp only [State.inform, hg, hm, ne_eq, not_true, if_false, hlost, hdone]
  split <;> rfl

/-- R117, R127: in a calm state, outside FREEZING, a retirement stops the programme of the movement. -/
theorem State.worksOff_retire_programme {s : State} {e : Entry} {g : Programme} {k : Nat} {o : MoveOutcome}
    (he : s.entry e.ticket = some e) (hh : e.state.held = true) (hs : e.state ≠ .settling)
    (hp : e.programme = some (g.ticket, k)) (hg : s.programme g.ticket = some g) (hgm : g.movement = some e.ticket)
    (ha : (s.port g.owner).state = .active) (ho : o ≠ .completed ∧ o ≠ .skipped) (hc : s.calm) (hm : s.mode ≠ .freezing)
    (hv : s.evaluation = none) : s.WorksOff [.retire e.ticket o] 5 ((s.retiredBy e o).programmeEnded g
      (.outcome (if g.state = .stopping then .cancelled else o))) := by
  have hg' : (s.retiredBy e o).programme g.ticket = some g := by
    unfold State.programme
    rw [State.retiredBy_programmes]
    exact hg
  have hinform := State.inform_stops (held := { footprint := e.footprint, reach := e.reach.getD [] }) hg' hgm
    (by rw [State.retiredBy_state]; exact ha) ho
  obtain ⟨l, hl⟩ := (s.retiredBy e o).programmeEnded_eq g (.outcome (if g.state = .stopping then .cancelled else o))
  have hcalm := State.programmeEnded_calm (s.retiredBy e o) g
    (.outcome (if g.state = .stopping then .cancelled else o)) (s.retiredBy_calm e o hc)
  have hfree : ((s.retiredBy e o).programmeEnded g
      (.outcome (if g.state = .stopping then .cancelled else o))).evaluation = none := by
    rw [hl]; exact s.retiredBy_evaluation e o hv
  have hmode : ((s.retiredBy e o).programmeEnded g
      (.outcome (if g.state = .stopping then .cancelled else o))).mode ≠ .freezing := by
    rw [hl]; exact (s.retiredBy_mode e o) ▸ hm
  have hreoffer := hcalm.worksOff_reoffer_free hfree
  refine State.WorksOff.cons (s.retire_held he hh hs o) ?_
  simp only [hp, List.append_nil, List.cons_append]
  refine State.WorksOff.cons hinform ?_
  exact (hreoffer.ite _).append (((State.worksOff_testFrozen hmode).ite _).append hreoffer)

/-! ### An automatic INSPECT (R142 to R144) -/

/-- R136: with a place free, the lowest free id is found. -/
theorem State.freeId_lowest {s : State} (h : s.restrictions.length < 64) :
    ∃ i, s.freeId = some i ∧ s.lowestFree i := by
  cases hf : s.freeId with
  | none =>
    exfalso
    have hall := List.find?_eq_none.1 hf
    have hsub : List.range' 1 64 ⊆ s.restrictions.map Restriction.id := by
      intro i hi
      simpa using hall i hi
    have := (List.subperm_of_subset List.nodup_range' hsub).length_le
    simp only [List.length_range', List.length_map] at this
    omega
  | some i =>
    obtain ⟨hp, hi, hlow⟩ := List.find?_range'_eq_some.1 hf
    have hmem := List.mem_range'_1.1 hi
    refine ⟨i, rfl, hmem.1, Nat.lt_succ_iff.1 hmem.2, ?_, fun j h1 hj => ?_⟩
    · simpa using hp
    · simpa using hlow j h1 hj

/-- An update of the tables of restrictions and of overflow marks alone. -/
def State.OnlyRestrictions (s t : State) : Prop :=
  (∃ A R W, t = { s with apps := A, restrictions := R, writes := W }) ∧
  t.apps.map (fun r => { r with overflow := false }) = s.apps.map (fun r => { r with overflow := false })

namespace State.OnlyRestrictions

variable {s t : State}

theorem refl (s : State) : s.OnlyRestrictions s := ⟨⟨_, _, _, rfl⟩, rfl⟩

theorem entries (h : s.OnlyRestrictions t) : t.entries = s.entries := by obtain ⟨⟨_, _, _, rfl⟩, -⟩ := h; rfl
theorem ended (h : s.OnlyRestrictions t) : t.ended = s.ended := by obtain ⟨⟨_, _, _, rfl⟩, -⟩ := h; rfl
theorem coupled (h : s.OnlyRestrictions t) : t.coupled = s.coupled := by obtain ⟨⟨_, _, _, rfl⟩, -⟩ := h; rfl
theorem programmes (h : s.OnlyRestrictions t) : t.programmes = s.programmes := by obtain ⟨⟨_, _, _, rfl⟩, -⟩ := h; rfl
theorem port (h : s.OnlyRestrictions t) (q : Nat) : t.port q = s.port q := by obtain ⟨⟨_, _, _, rfl⟩, -⟩ := h; rfl

/-- What a record holds beside its overflow mark is kept. -/
theorem app_map {β : Type} (h : s.OnlyRestrictions t) (a : Nat) (f : AppLive → β)
    (hf : ∀ r, f { r with overflow := false } = f r) : (t.app a).map f = (s.app a).map f := by
  have key : ∀ l : List AppLive, (l.find? (fun r => r.number == a)).map f =
      ((l.map (fun r => { r with overflow := false })).find? (fun r => r.number == a)).map f := by
    intro l
    rw [List.find?_map, Option.map_map]
    exact Option.map_congr (fun r _ => (hf r).symm)
  unfold State.app
  rw [key t.apps, key s.apps, h.2]

end State.OnlyRestrictions

/-- R142 to R144: an automatic placing changes the tables of restrictions, or an overflow mark. -/
theorem State.placeInspect_onlyRestrictions (s : State) (a : Nat) : s.OnlyRestrictions (s.placeInspect a).1 := by
  unfold State.placeInspect
  split
  · exact ⟨⟨_, _, _, rfl⟩, rfl⟩
  · split
    · exact State.OnlyRestrictions.refl s
    · split
      · split
        · exact ⟨⟨_, _, _, rfl⟩, rfl⟩
        · exact State.OnlyRestrictions.refl s
      · refine ⟨⟨_, _, _, rfl⟩, ?_⟩
        simp only [State.modApp, List.map_map]
        apply List.map_congr_left
        intro r _
        simp only [Function.comp]
        split <;> rfl

/-- R142, R143: an automatic placing takes the first of the four steps that applies. -/
theorem State.placeInspect_inspected (s : State) (a : Nat) : s.Inspected (s.placeInspect a).1 a where
  again := fun r hr => by
    simp only [State.placeInspect, hr]
    exact ⟨rfl, rfl⟩
  marked := fun hn hm => by
    simp only [State.placeInspect, hn, hm, if_true]
    exact ⟨trivial, trivial, trivial⟩
  made := fun hn hm hl => by
    obtain ⟨i, hi, hlow⟩ := State.freeId_lowest hl
    refine ⟨i, hlow, ?_⟩
    have hroom : s.restrictions.length < Config.maxRestrictions := hl
    simp only [State.placeInspect, hn, hm, Bool.false_eq_true, if_false, if_pos hroom, hi]
    exact ⟨rfl, rfl⟩
  full := fun hn hm hl hs => by
    obtain ⟨r, hr⟩ := Option.isSome_iff_exists.1 hs
    have hroom : ¬ s.restrictions.length < Config.maxRestrictions := Nat.not_lt.2 hl
    simp only [State.placeInspect, hn, hm, Bool.false_eq_true, if_false, if_neg hroom]
    refine ⟨rfl, rfl, ?_⟩
    rw [State.overflowMark, State.app_modApp _ _ _ _ (by exact fun _ => rfl), hr]
    simp

theorem State.overflowMark_eq (s : State) (a : Nat) : s.overflowMark a = ((s.app a).map AppLive.overflow).getD false := by
  unfold State.overflowMark
  cases s.app a <;> rfl

theorem State.app_isSome_eq (s : State) (a : Nat) : (s.app a).isSome = ((s.app a).map AppLive.overflow).isSome :=
  Option.isSome_map.symm

/-- What an automatic placing meets and leaves are the tables of restrictions and the mark of the apparatus. -/
theorem State.Inspected.congr {s s' t t' : State} {a : Nat} (h : s.Inspected t a)
    (hr : s'.restrictions = s.restrictions) (hw : s'.writes = s.writes)
    (ho : (s'.app a).map AppLive.overflow = (s.app a).map AppLive.overflow) (hr' : t'.restrictions = t.restrictions)
    (hw' : t'.writes = t.writes) (ho' : (t'.app a).map AppLive.overflow = (t.app a).map AppLive.overflow) :
    s'.Inspected t' a := by
  obtain ⟨again, marked, made, full⟩ := h
  simp only [State.putIn, State.inspectOn, State.lowestFree, State.overflowMark_eq, State.app_isSome_eq]
    at again marked made full
  constructor <;>
    simp only [State.putIn, State.inspectOn, State.lowestFree, State.overflowMark_eq, State.app_isSome_eq, hr, hw, ho,
      hr', hw', ho']
  · exact again
  · exact marked
  · exact made
  · exact full

/-- R142: an automatic INSPECT of an apparatus with no RELEASED entry does no more than its placing. -/
theorem State.worksOff_inspect {s : State} {a : Nat} (h : ∀ e ∈ s.entries, e.apparatus = a → e.state ≠ .released) :
    s.WorksOff [.inspect a] 1 (s.placeInspect a).1 := by
  have hr : (s.placeInspect a).1.releasedOf a = [] := by
    simp only [State.releasedOf, (s.placeInspect_onlyRestrictions a).entries, List.map_eq_nil_iff,
      List.filter_eq_nil_iff, Bool.and_eq_true, beq_iff_eq, not_and]
    exact fun e he hs ha => h e he ha hs
  refine State.WorksOff.cons (new := []) ?_ (State.worksOff_nil _)
  simp only [State.runTask, State.inspect, hr, List.map_nil, ite_self]

/-! ### The unbidden judgement (R21 to R23) -/

theorem isUnbidden_iff (kind : AppKind) (x y : Pos) : isUnbidden kind x y = true ↔ Unbidden kind x y := by
  unfold Unbidden
  cases kind <;> cases x <;> cases y <;> decide

theorem isTrip_iff (kind : AppKind) (x y : Pos) : isTrip kind x y = true ↔ Trip kind x y := by
  unfold Trip
  cases kind <;> cases x <;> cases y <;> decide

/-- A trip is no unbidden change. -/
theorem Trip.not_unbidden {kind : AppKind} {x y : Pos} (h : Trip kind x y) : ¬ Unbidden kind x y := by
  obtain ⟨rfl, -, rfl⟩ := h
  rintro (⟨-, -, h⟩ | ⟨h, -⟩ | ⟨h, -⟩)
  · cases h
  · exact h rfl
  · exact h rfl

/-- R22, R23: the judgement of a change of an apparatus with no RELEASED entry. -/
theorem State.worksOff_judge {s : State} {a : Nat} {d : AppDesc} (x y : Pos) (hd : s.appDesc a = some d)
    (h : ∀ e ∈ s.entries, e.apparatus = a → e.state ≠ .released) : s.WorksOff [.judge a x y] 2
      (if isUnbidden d.kind x y then ((s.broadcast (.unbidden a x y)).placeInspect a).1
       else if isTrip d.kind x y then s.modApp a (fun r => { r with lastOutcome := some .tripped })
       else s) := by
  cases hu : isUnbidden d.kind x y with
  | true =>
    obtain ⟨l, hl⟩ := s.broadcast_ports (.unbidden a x y)
    refine State.WorksOff.cons (s1 := s.broadcast (.unbidden a x y)) (new := [.inspect a]) ?_ ?_
    · simp only [State.runTask, State.judge, hd, hu, if_true]
    · refine State.worksOff_inspect ?_
      rw [hl]
      exact h
  | false =>
    refine State.WorksOff.cons (new := []) ?_ (State.worksOff_nil _ |>.mono (Nat.zero_le 1))
    simp only [State.runTask, State.judge, hd, hu, Bool.false_eq_true, if_false]
    split <;> rfl

/-! ### The movement supervisor (R101, R102, R116) -/

section
variable {s : State} {e : Entry} (src : Source)

theorem State.supervise_travel (h : e.state = .released ∨ e.state = .revoking) :
    s.supervise e src .travelling = s.travel e := by
  rcases h with h | h <;> simp only [State.supervise, h, if_true]

theorem State.supervise_settle (h : e.state = .released ∨ e.state = .revoking ∨ e.state = .travelling) :
    s.supervise e src e.target.pos = s.settle e := by
  have ht : ¬ e.target.pos = .travelling := by cases e.target <;> decide
  rcases h with h | h | h <;> simp only [State.supervise, h, if_neg ht, if_true]

theorem State.supervise_returned (h : e.state = .travelling) :
    s.supervise e src e.target.opposite = s.run [.retire e.ticket .returned] := by
  have ht : ¬ e.target.opposite = e.target.pos := by cases e.target <;> decide
  simp only [State.supervise, h, if_neg ht, if_true]

theorem State.supervise_faulted {after : Pos} (h : e.state = .released ∨ e.state = .revoking ∨ e.state = .travelling)
    (ha : after = .faulty ∨ after = .unknown) : s.supervise e .report after = s.faulted e := by
  have h1 : ¬ after = .travelling := by rcases ha with rfl | rfl <;> decide
  have h2 : ¬ after = e.target.pos := by rcases ha with rfl | rfl <;> cases e.target <;> decide
  have h3 : ¬ after = e.target.opposite := by rcases ha with rfl | rfl <;> cases e.target <;> decide
  have hsrc : Source.report ≠ .portLoss := by decide
  rcases h with h | h | h <;> simp only [State.supervise, h, if_neg h1, if_neg h2, if_neg h3]
  all_goals rcases ha with rfl | rfl <;> simp

end

/-- The supervisor follows the held states alone. -/
theorem State.supervise_unheld (s : State) {e : Entry} (src : Source) (y : Pos) (h : judgedAtOnce (some e) = true) :
    s.supervise e src y = s := by
  simp only [judgedAtOnce] at h
  unfold State.supervise
  cases hst : e.state with
  | queued | deferred | evaluating | suspended | settling => rfl
  | released | revoking | travelling => simp only [hst, Bool.false_eq_true] at h

/-- R21: with no evaluation in flight, an image change of an apparatus whose entry stands in a held state is the
supervisor's alone. -/
theorem State.appChanged_supervised {s : State} {a : Nat} {e : Entry} (src : Source) (x y : Pos)
    (hv : s.evaluation = none) (he : s.entryOf a = some e) (hj : judgedAtOnce (some e) = false) :
    s.appChanged true src a x y = (s.noted (.apparatus a) true).supervise e src y := by
  have hfree : (s.noted (.apparatus a) true).evaluation = none := by rw [State.noted_evaluation, hv]
  simp only [State.appChanged, he, hj, Bool.false_eq_true, and_false, if_false, ← State.noted_true,
    State.evaluatorSees_free _ hfree]

/-- R21: with no evaluation in flight, a reported change of an apparatus with no entry in a held state is judged. -/
theorem State.appChanged_judged {s : State} {a : Nat} (x y : Pos) (hv : s.evaluation = none)
    (hj : judgedAtOnce (s.entryOf a) = true) :
    s.appChanged true .report a x y = (s.noted (.apparatus a) true).run [.judge a x y] := by
  have hfree : (s.noted (.apparatus a) true).evaluation = none := by rw [State.noted_evaluation, hv]
  simp only [State.appChanged, hj, and_self, if_true, ← State.noted_true, State.evaluatorSees_free _ hfree]
  cases he : s.entryOf a with
  | none => rfl
  | some e =>
    rw [he] at hj
    simp only [State.supervise_unheld _ _ _ hj]

end Sys2Proof.Machine
end

section
/-! A report that changes the position of an apparatus: what it does to a live entry of the apparatus and to the
programme of that entry, and the unbidden judgement (R21 to R23, R101, R102, R105, R111, R116, R127, R128, R142). -/

namespace Sys2Proof.Machine

/-! ### The report's first part and its last -/

/-- R7, R9, R13: the request taken, the record of apparatus `a` at a new position, and the topology unit told. -/
def State.itemTaken (s : State) (p : Nat) (f : Frame) (a : Nat) (pos : Pos) : State :=
  ((s.taking p f).appWritten a pos none pos).noted (.apparatus a) true

section
variable (s : State) (p : Nat) (f : Frame) (a : Nat) (pos : Pos)

@[simp] theorem State.itemTaken_now : (s.itemTaken p f a pos).now = s.now := State.noted_now _ _ _
@[simp] theorem State.itemTaken_mode : (s.itemTaken p f a pos).mode = s.mode := State.noted_mode _ _ _
@[simp] theorem State.itemTaken_force : (s.itemTaken p f a pos).force = s.force := State.noted_force _ _ _
@[simp] theorem State.itemTaken_nodes : (s.itemTaken p f a pos).nodes = s.nodes := State.noted_nodes_apparatus _ _ _
@[simp] theorem State.itemTaken_published : (s.itemTaken p f a pos).published = s.published := State.noted_published _ _ _
@[simp] theorem State.itemTaken_stored : (s.itemTaken p f a pos).stored = s.stored := State.noted_stored _ _ _
@[simp] theorem State.itemTaken_evaluation : (s.itemTaken p f a pos).evaluation = s.evaluation :=
  State.noted_evaluation _ _ _
@[simp] theorem State.itemTaken_entries : (s.itemTaken p f a pos).entries = s.entries := State.noted_entries _ _ _
@[simp] theorem State.itemTaken_ended : (s.itemTaken p f a pos).ended = s.ended := State.noted_ended _ _ _
@[simp] theorem State.itemTaken_coupled : (s.itemTaken p f a pos).coupled = s.coupled := State.noted_coupled _ _ _
@[simp] theorem State.itemTaken_programmes : (s.itemTaken p f a pos).programmes = s.programmes :=
  State.noted_programmes _ _ _
@[simp] theorem State.itemTaken_waitingOrder : (s.itemTaken p f a pos).waitingOrder = s.waitingOrder :=
  State.noted_waitingOrder _ _ _
@[simp] theorem State.itemTaken_restrictions : (s.itemTaken p f a pos).restrictions = s.restrictions :=
  State.noted_restrictions _ _ _
@[simp] theorem State.itemTaken_writes : (s.itemTaken p f a pos).writes = s.writes := State.noted_writes _ _ _
@[simp] theorem State.itemTaken_entry (t : Nat) : (s.itemTaken p f a pos).entry t = s.entry t := State.noted_entry _ _ _ _
@[simp] theorem State.itemTaken_appDesc (b : Nat) : (s.itemTaken p f a pos).appDesc b = s.appDesc b :=
  State.noted_appDesc _ _ _ _
@[simp] theorem State.itemTaken_programme (t : Nat) : (s.itemTaken p f a pos).programme t = s.programme t := by
  unfold State.programme
  rw [State.itemTaken_programmes]
theorem State.itemTaken_port (q : Nat) : (s.itemTaken p f a pos).port q = (s.taking p f).port q :=
  State.noted_port _ _ _ _

theorem State.itemTaken_calm (h : s.calm) : (s.itemTaken p f a pos).calm := by
  unfold State.calm
  rw [State.itemTaken_entries, State.itemTaken_waitingOrder]
  exact h

/-- The record keeps all that is neither an input nor the marker. -/
theorem State.itemTaken_app_map {β : Type} (g : AppLive → β)
    (hg : ∀ r m, g { r with reported := pos, substituted := none, effective := pos, marker := m } = g r) :
    ((s.itemTaken p f a pos).app a).map g = (s.app a).map g := by
  rw [State.itemTaken, State.noted_app, State.appWritten, State.app_modApp _ _ _ _ (by exact fun _ => rfl),
    State.taking_app, Option.map_map, Option.map_map]
  refine Option.map_congr fun r _ => ?_
  simp only [Function.comp, if_true]
  exact hg r _

end

/-- R17, R166: the blocking flags of apparatus `a` are written, and the request is answered. -/
def State.itemDone (w : State) (a : Nat) (modes flags : Flags4) (p n : Nat) (x : Outgoing) : State :=
  (w.modApp a (fun y => y.withBlocking modes flags)).placeAnswer p n x

section
variable (w : State) (a : Nat) (modes flags : Flags4) (p n : Nat) (x : Outgoing)

@[simp] theorem State.itemDone_entries : (w.itemDone a modes flags p n x).entries = w.entries := rfl
@[simp] theorem State.itemDone_ended : (w.itemDone a modes flags p n x).ended = w.ended := rfl
@[simp] theorem State.itemDone_coupled : (w.itemDone a modes flags p n x).coupled = w.coupled := rfl
@[simp] theorem State.itemDone_programmes : (w.itemDone a modes flags p n x).programmes = w.programmes := rfl
@[simp] theorem State.itemDone_restrictions : (w.itemDone a modes flags p n x).restrictions = w.restrictions := rfl
@[simp] theorem State.itemDone_writes : (w.itemDone a modes flags p n x).writes = w.writes := rfl

@[simp] theorem State.itemDone_queue (q : Nat) : ((w.itemDone a modes flags p n x).port q).queue = (w.port q).queue :=
  State.placeAnswer_queue _ _ _ _ _

theorem State.itemDone_mem {q : Nat} {y : Outgoing} (h : y ∈ (w.port q).transmit) :
    y ∈ ((w.itemDone a modes flags p n x).port q).transmit :=
  State.placeAnswer_mem (s := w.modApp a _) p n x h

/-- The record keeps all that the blocking flags do not write. -/
theorem State.itemDone_app_map {β : Type} (g : AppLive → β) (hg : ∀ r, g (AppLive.withBlocking r modes flags) = g r) :
    ((w.itemDone a modes flags p n x).app a).map g = (w.app a).map g := by
  rw [State.itemDone, State.placeAnswer_app, State.app_modApp _ _ _ _ (by exact fun _ => rfl), Option.map_map]
  refine Option.map_congr fun r _ => ?_
  simp only [Function.comp, if_true]
  exact hg r

end

/-- R20: flags that stay as they were make no blocking event. -/
theorem State.applyBlocking_same {s : State} {d : AppDesc} {x : AppLive} {flags : Flags4} (hx : s.app d.number = some x)
    (hf : x.present = flags) :
    s.applyBlocking d flags = s.modApp d.number (fun y => y.withBlocking d.latchedModes flags) := by
  have hevent : x.blockingEvent flags = false := by
    simp [AppLive.blockingEvent, hf, Flags4.rising, Flags4.any]
  simp only [State.applyBlocking, hx, hevent, Bool.false_eq_true, if_false]

section
variable {s : State} {p : Nat} {f : Frame} {d : AppDesc} {r : AppLive} {pos : Pos}

/-- R7, R9, R13: a report that changes the position of an apparatus without substitution on an ACTIVE port, its flags kept:
the record is written, the change is told, and the request is answered. -/
theorem exec_position_changed (h : s.Takes p .positionReport f)
    (hb : decodeReport f.body = some [.apparatus d.number pos r.present]) (hh : s.heldPassRunning = false)
    (hd : s.appDesc d.number = some d) (hp : d.port = p) (hr : s.app d.number = some r) (hsub : r.substituted = none)
    (hact : (s.port p).state = .active) (hne : pos ≠ r.effective) :
    ∃ w, w = ((s.taking p f).appWritten d.number pos none pos).appChanged true .report d.number r.effective pos ∧
      (s.itemTaken p f d.number pos).Within w ∧ exec (.positionReport p) s = .next (w.itemDone d.number d.latchedModes
        r.present p (s.port p).transmit.length (Frame.answer f .done [1#8, 0#8, 0xFF#8])) := by
  have hrt : (s.taking p f).app d.number = some r := hr
  have heff : effectivePosition none ((s.taking p f).reporterActive d) pos = pos := by
    rw [State.taking_reporterActive, State.reporterActive, hp, hact]
    rfl
  obtain ⟨x, hx, ho⟩ := State.setAppInputs_app .report pos none hrt heff
  obtain ⟨-, -, -, -, hpre, -, -, -⟩ := AppLive.of_outer ho
  have hset := State.setAppInputs_changed true .report pos none hrt (by rw [heff]; exact hne)
  rw [heff] at hset
  obtain ⟨hexec, -⟩ := exec_item_applied h hb
    (State.applyAppItem_open (s := s.taking p f) pos r.present hd hp hr hh)
  refine ⟨_, rfl, State.appChanged_within _ _ _ _ _, ?_⟩
  rw [hexec, State.positionReported, hsub, State.applyBlocking_same hx hpre, hset]
  rfl

/-- The inputs of every record come from the item, whatever tasks follow. -/
theorem State.itemDone_inputs {w : State} {a : Nat} (hw : (s.itemTaken p f a pos).Within w) (modes flags : Flags4)
    (n : Nat) (x : Outgoing) : (w.itemDone a modes flags p n x).apps.map AppLive.inputs =
      (s.modApp a (fun y => AppLive.withBlocking { y with reported := pos, substituted := none, effective := pos } modes
        flags)).apps.map AppLive.inputs := by
  refine (hw.modApp a (fun y => y.withBlocking modes flags) (fun _ => rfl)).appInputs.trans ?_
  simp only [State.modApp, State.itemTaken, State.noted_apps_apparatus, State.appWritten, State.taking_apps,
    List.map_map]
  refine List.map_congr_left fun y _ => ?_
  by_cases hy : y.number = a
  · simp only [Function.comp, if_pos hy]
    rfl
  · simp only [Function.comp, if_neg hy]

end

/-! ### The entry goes on (R101, R105, R111) -/

theorem State.travel_eq {s : State} {e : Entry} {d : AppDesc} (hd : s.appDesc e.apparatus = some d) :
    s.travel e = s.modEntry e.ticket (fun x =>
      { x with state := .travelling, flavour := none, deadline := some d.travelLimit }) := by
  simp only [State.travel, hd]

theorem State.travel_entries {s : State} {e : Entry} {d : AppDesc} (hd : s.appDesc e.apparatus = some d) :
    (s.travel e).entries = s.entries.map (fun x => if x.ticket = e.ticket then
      { x with state := .travelling, flavour := none, deadline := some d.travelLimit } else x) := by
  rw [State.travel_eq hd]
  rfl

theorem State.travel_restrictions {s : State} {e : Entry} {d : AppDesc} (hd : s.appDesc e.apparatus = some d) :
    (s.travel e).restrictions = s.restrictions := by
  rw [State.travel_eq hd, State.modEntry_restrictions]

theorem State.settle_entries (s : State) (e : Entry) : (s.settle e).entries = s.entries.map (fun x =>
    if x.ticket = e.ticket then
      { x with state := .settling, flavour := none, deadline := none, operatingTime := some (operatingTime s.now e) }
    else x) := rfl

theorem State.settle_restrictions (s : State) (e : Entry) : (s.settle e).restrictions = s.restrictions := rfl

theorem State.settle_lastOperatingTime (s : State) (e : Entry) :
    ((s.settle e).app e.apparatus).map AppLive.lastOperatingTime =
      (s.app e.apparatus).map (fun _ => some (operatingTime s.now e)) := by
  rw [State.settle, State.app_modApp _ _ _ _ (by exact fun _ => rfl), Option.map_map]
  exact Option.map_congr fun r _ => by simp

theorem State.entryOf_apparatus {s : State} {a : Nat} {e : Entry} (h : s.entryOf a = some e) : e.apparatus = a := by
  simpa using List.find?_some h

/-! ### The entry retires (R102, R116, R117) -/

/-- The record after a retirement of the apparatus's entry. -/
theorem State.retiredBy_app (s : State) (e : Entry) (o : MoveOutcome) : (s.retiredBy e o).app e.apparatus =
    (s.app e.apparatus).map (fun r => { r with ticket := none, lastOutcome := some (.movement o) }) := by
  have h : (s.retiredBy e o).app e.apparatus = (s.modApp e.apparatus (fun r =>
      { r with ticket := none, lastOutcome := some (.movement o) })).app e.apparatus := by
    unfold State.app State.modApp
    rw [State.retiredBy_apps]
  rw [h, State.app_modApp _ _ _ _ (by exact fun _ => rfl)]
  exact Option.map_congr fun r _ => by simp

/-- R116: an automatic INSPECT follows a retirement, which has taken the apparatus's last entry out. -/
theorem State.worksOff_faulted {s v : State} {a t : Nat} {k : Nat} (h : s.WorksOff [.retire t .faulted] k v)
    (hv : v.entries = s.entries.filter (fun x => x.ticket ≠ t))
    (hone : ∀ x ∈ s.entries, x.apparatus = a → x.ticket = t) :
    s.WorksOff [.retire t .faulted, .inspect a] (k + 1) (v.placeInspect a).1 := by
  refine State.WorksOff.append (us := [.inspect a]) h (State.worksOff_inspect fun x hx ha => ?_)
  rw [hv, List.mem_filter, decide_eq_true_iff] at hx
  exact absurd (hone x hx.1 ha) hx.2

/-- R142: an automatic INSPECT placed on the way is the report's, where the tables it meets are those before the report. -/
theorem State.inspected_itemDone {s v : State} {a : Nat} (hr : v.restrictions = s.restrictions) (hw : v.writes = s.writes)
    (ho : (v.app a).map AppLive.overflow = (s.app a).map AppLive.overflow) (modes flags : Flags4) (p n : Nat)
    (x : Outgoing) : s.Inspected ((v.placeInspect a).1.itemDone a modes flags p n x) a :=
  (v.placeInspect_inspected a).congr hr.symm hw.symm ho.symm rfl rfl
    (State.itemDone_app_map _ _ _ _ _ _ _ _ (fun _ => rfl))

section
variable {s : State} {p : Nat} {f : Frame} {pos : Pos} {e : Entry} {o : MoveOutcome} {w : State}

/-- R117: the whole of a retirement in the report of an item, with or without an automatic INSPECT. -/
theorem State.retired_itemDone (hw : ((s.itemTaken p f e.apparatus pos).retiredBy e o).OnlyRestrictions w)
    (hin : (s.itemTaken p f e.apparatus pos).Within w) (modes flags : Flags4) (n : Nat) (x : Outgoing) :
    (s.modApp e.apparatus (fun y => AppLive.withBlocking
      { y with reported := pos, substituted := none, effective := pos } modes flags)).Retired
      (w.itemDone e.apparatus modes flags p n x) e o where
  entries := by
    rw [State.itemDone_entries, hw.entries, State.retiredBy_entries, State.itemTaken_entries]
    rfl
  ended := by
    rw [State.itemDone_ended, hw.ended, State.retiredBy_ended, State.itemTaken_ended]
    rfl
  queues := fun q => by
    rw [State.itemDone_queue, hw.port, State.retiredBy_queue, State.itemTaken_port, State.taking_queue]
    rfl
  coupled := by
    rw [State.itemDone_coupled, hw.coupled, State.retiredBy_coupled, State.itemTaken_coupled]
    rfl
  record := by
    rw [State.itemDone_app_map _ _ _ _ _ _ _ _ (by exact fun _ => rfl), hw.app_map _ _ (by exact fun _ => rfl),
      State.retiredBy_app, Option.map_map, State.app_modApp _ _ _ _ (by exact fun _ => rfl), Option.map_map]
    exact State.itemTaken_app_map s p f e.apparatus pos (fun _ => ((none : Option Nat), some (LastOutcome.movement o)))
      (fun _ _ => rfl)
  inputs := State.itemDone_inputs hin modes flags n x
  notice := fun ha hc => by
    refine State.itemDone_mem _ _ _ _ _ _ _ ?_
    rw [hw.port]
    refine State.retiredBy_notice _ _ _ ?_ ?_
    · rw [State.itemTaken_port, State.taking_state]
      exact ha
    · rw [State.itemTaken_port, State.taking_transmit]
      exact Nat.lt_succ_of_lt hc
  nodes := hin.nodes.trans (State.itemTaken_nodes s p f _ pos)
  programmes := by
    rw [State.itemDone_programmes, hw.programmes, State.retiredBy_programmes, State.itemTaken_programmes]
    rfl
  published := hin.published.trans (State.itemTaken_published s p f _ pos)
  force := hin.force.trans (State.itemTaken_force s p f _ pos)
  stored := hin.stored.trans (State.itemTaken_stored s p f _ pos)

end

/-! ### The programme of the entry stops (R127, R128) -/

section
variable (s : State) (g : Programme) (r : StopReason)

@[simp] theorem State.programmeEnded_entries : (s.programmeEnded g r).entries = s.entries := by
  obtain ⟨l, h⟩ := s.programmeEnded_eq g r; rw [h]
@[simp] theorem State.programmeEnded_ended : (s.programmeEnded g r).ended = s.ended := by
  obtain ⟨l, h⟩ := s.programmeEnded_eq g r; rw [h]
@[simp] theorem State.programmeEnded_programmes :
    (s.programmeEnded g r).programmes = s.programmes.filter (fun x => x.ticket ≠ g.ticket) := by
  obtain ⟨l, h⟩ := s.programmeEnded_eq g r; rw [h]
@[simp] theorem State.programmeEnded_restrictions : (s.programmeEnded g r).restrictions = s.restrictions := by
  obtain ⟨l, h⟩ := s.programmeEnded_eq g r; rw [h]
@[simp] theorem State.programmeEnded_writes : (s.programmeEnded g r).writes = s.writes := by
  obtain ⟨l, h⟩ := s.programmeEnded_eq g r; rw [h]
@[simp] theorem State.programmeEnded_app (a : Nat) : (s.programmeEnded g r).app a = s.app a := by
  obtain ⟨l, h⟩ := s.programmeEnded_eq g r; rw [h]; rfl

end

/-- R127: the reason with which a programme stops when its current movement ends with outcome `o`. -/
def Programme.stopsWith (g : Programme) (o : MoveOutcome) : StopReason :=
  .outcome (if g.state = .stopping then .cancelled else o)

/-- R117, R127, R128: the whole of a retirement of a programme's movement in the report of an item. -/
theorem State.stops_itemDone {s w : State} {p : Nat} {f : Frame} {a : Nat} {pos : Pos} {e : Entry} {g : Programme}
    {o : MoveOutcome}
    (hw : (((s.itemTaken p f a pos).retiredBy e o).programmeEnded g (g.stopsWith o)).OnlyRestrictions w)
    (ha : (s.port g.owner).state = .active) (modes flags : Flags4) (n : Nat) (x : Outgoing) :
    let t := w.itemDone a modes flags p n x
    t.entries = s.entries.filter (fun x => x.ticket ≠ e.ticket) ∧
    t.programmes = s.programmes.filter (fun x => x.ticket ≠ g.ticket) ∧
    t.ended = (s.ended ++ [Entry.endedItem e o]).drop (s.ended.length + 1 - 16) ∧
    (noticeCount (s.port g.owner).transmit < 31 →
      Outgoing.notice (.programmeEnded g.ticket g.current (some (g.stopsWith o))) ∈ (t.port g.owner).transmit) := by
  refine ⟨?_, ?_, ?_, fun hc => State.itemDone_mem _ _ _ _ _ _ _ ?_⟩
  · rw [State.itemDone_entries, hw.entries, State.programmeEnded_entries, State.retiredBy_entries,
      State.itemTaken_entries]
  · rw [State.itemDone_programmes, hw.programmes, State.programmeEnded_programmes, State.retiredBy_programmes,
      State.itemTaken_programmes]
  · rw [State.itemDone_ended, hw.ended, State.programmeEnded_ended, State.retiredBy_ended, State.itemTaken_ended]
  · have hcount := (s.itemTaken p f a pos).retiredBy_count e o g.owner
    rw [State.itemTaken_port, State.taking_transmit] at hcount
    rw [hw.port]
    refine State.programmeEnded_notice _ _ _ ?_ (by omega)
    rw [State.retiredBy_state, State.itemTaken_port, State.taking_state]
    exact ha

/-! ### The clauses for an entry of the apparatus -/

/-- R101, R102: the states in which an image change of the apparatus may end a movement. -/
def Moving (x : EntryState) : Prop := x = .released ∨ x = .revoking ∨ x = .travelling

theorem Moving.held {x : EntryState} (h : Moving x) : x.held = true := by
  rcases h with rfl | rfl | rfl <;> rfl

theorem Moving.not_settling {x : EntryState} (h : Moving x) : x ≠ .settling := by
  rcases h with rfl | rfl | rfl <;> decide

theorem Moving.not_judged {e : Entry} (h : Moving e.state) : judgedAtOnce (some e) = false := by
  rcases h with h | h | h <;> simp only [judgedAtOnce, h]

section
variable {s w : State} {p : Nat} {f : Frame} {pos : Pos} {e : Entry} (modes flags : Flags4) (n : Nat) (x : Outgoing)

/-- R101, R104, R111: at TRAVELLING, a RELEASED or REVOKING entry becomes TRAVELLING. -/
theorem State.travels {a : Nat} {d : AppDesc} (hd : s.appDesc a = some d) (ha : e.apparatus = a)
    (hst : e.state = .released ∨ e.state = .revoking)
    (hw : w = (s.itemTaken p f a .travelling).supervise e .report .travelling) :
    let t := w.itemDone a modes flags p n x
    t.entries = s.entries.map (fun x => if x.ticket = e.ticket then
      { x with state := .travelling, flavour := none, deadline := some d.travelLimit } else x) ∧
    t.restrictions = s.restrictions := by
  have hd' : (s.itemTaken p f a .travelling).appDesc e.apparatus = some d := by rw [State.itemTaken_appDesc, ha, hd]
  rw [hw, State.supervise_travel .report hst]
  refine ⟨?_, ?_⟩
  · rw [State.itemDone_entries, State.travel_entries hd', State.itemTaken_entries]
  · rw [State.itemDone_restrictions, State.travel_restrictions hd', State.itemTaken_restrictions]

/-- R101, R105, R111: at its target, an entry becomes SETTLING, and its operating time is kept. -/
theorem State.settles {r : AppLive} (hr : s.app e.apparatus = some r) (hst : Moving e.state)
    (hw : w = (s.itemTaken p f e.apparatus e.target.pos).supervise e .report e.target.pos) :
    let t := w.itemDone e.apparatus modes flags p n x
    t.entries = s.entries.map (fun x => if x.ticket = e.ticket then
      { x with state := .settling, flavour := none, deadline := none,
               operatingTime := some (min 65535 (s.now - e.releaseTime.getD s.now)) } else x) ∧
    (t.app e.apparatus).map AppLive.lastOperatingTime =
      some (some (min 65535 (s.now - e.releaseTime.getD s.now))) ∧
    t.restrictions = s.restrictions := by
  rw [hw, State.supervise_settle .report hst]
  refine ⟨?_, ?_, ?_⟩
  · rw [State.itemDone_entries, State.settle_entries, State.itemTaken_entries, State.itemTaken_now]
    rfl
  · rw [State.itemDone_app_map _ _ _ _ _ _ _ _ (by exact fun _ => rfl), State.settle_lastOperatingTime,
      State.itemTaken_now]
    refine (State.itemTaken_app_map s p f e.apparatus e.target.pos _ (by exact fun _ _ => rfl)).trans ?_
    rw [hr]
    rfl
  · rw [State.itemDone_restrictions, State.settle_restrictions, State.itemTaken_restrictions]

/-- The marks of overflow are not the item's to change. -/
theorem State.retiredBy_overflow (o : MoveOutcome) :
    (((s.itemTaken p f e.apparatus pos).retiredBy e o).app e.apparatus).map AppLive.overflow =
      (s.app e.apparatus).map AppLive.overflow := by
  rw [State.retiredBy_app, Option.map_map]
  exact State.itemTaken_app_map s p f e.apparatus pos AppLive.overflow (fun _ _ => rfl)

section
variable (hentry : s.entry e.ticket = some e) (hst : Moving e.state) (hc : s.calm) (hm : s.mode ≠ .freezing)
  (hv : s.evaluation = none)
include hentry hst hc hm hv

/-- R117: the retirement that the report of an item brings about, outside a programme. -/
theorem State.itemTaken_retires (o : MoveOutcome) (hp : e.programme = none) :
    (s.itemTaken p f e.apparatus pos).WorksOff [.retire e.ticket o] 3
      ((s.itemTaken p f e.apparatus pos).retiredBy e o) :=
  State.worksOff_retire (by rw [State.itemTaken_entry, hentry]) hst.held hst.not_settling o hp
    (s.itemTaken_calm p f _ pos hc) (by rwa [State.itemTaken_mode]) (by rwa [State.itemTaken_evaluation])

/-- R117, R127: the retirement of a programme's movement that the report of an item brings about. -/
theorem State.itemTaken_stops {o : MoveOutcome} {g : Programme} {k : Nat} (hp : e.programme = some (g.ticket, k))
    (hg : s.programme g.ticket = some g) (hgm : g.movement = some e.ticket) (ha : (s.port g.owner).state = .active)
    (ho : o ≠ .completed ∧ o ≠ .skipped) :
    (s.itemTaken p f e.apparatus pos).WorksOff [.retire e.ticket o] 5
      (((s.itemTaken p f e.apparatus pos).retiredBy e o).programmeEnded g (g.stopsWith o)) :=
  State.worksOff_retire_programme (by rw [State.itemTaken_entry, hentry]) hst.held hst.not_settling hp
    (by rw [State.itemTaken_programme, hg]) hgm (by rw [State.itemTaken_port, State.taking_state, ha]) ho
    (s.itemTaken_calm p f _ pos hc) (by rwa [State.itemTaken_mode]) (by rwa [State.itemTaken_evaluation])

end

/-- R102: at the opposite of its target, a TRAVELLING entry retires RETURNED, and no more than that follows. -/
theorem State.returns {k : Nat} {v : State} (hst : e.state = .travelling) (hpos : pos = e.target.opposite) (hk : k ≤ 32)
    (hv : (s.itemTaken p f e.apparatus pos).WorksOff [.retire e.ticket .returned] k v)
    (hw : w = (s.itemTaken p f e.apparatus pos).supervise e .report pos) : w = v := by
  subst hpos
  rw [hw, State.supervise_returned .report hst, hv.run hk]

/-- R116: at FAULTY or UNKNOWN, an entry retires FAULTED, and an automatic INSPECT follows. -/
theorem State.faults {k : Nat} {v : State} (hst : Moving e.state) (hpos : pos = .faulty ∨ pos = .unknown) (hk : k + 1 ≤ 32)
    (hv : (s.itemTaken p f e.apparatus pos).WorksOff [.retire e.ticket .faulted] k v)
    (hve : v.entries = s.entries.filter (fun x => x.ticket ≠ e.ticket))
    (hone : ∀ x ∈ s.entries, x.apparatus = e.apparatus → x.ticket = e.ticket)
    (hw : w = (s.itemTaken p f e.apparatus pos).supervise e .report pos) : w = (v.placeInspect e.apparatus).1 := by
  rw [hw, State.supervise_faulted hst hpos]
  exact (State.worksOff_faulted hv (by rw [hve, State.itemTaken_entries])
    (by rwa [State.itemTaken_entries])).run hk

end

/-! ### The unbidden judgement (R21 to R23) -/

theorem State.entryOf_judged {s : State} {a : Nat} (h : ∀ e ∈ s.entries, e.apparatus = a →
    e.state = .queued ∨ e.state = .deferred ∨ e.state = .evaluating ∨ e.state = .suspended) :
    judgedAtOnce (s.entryOf a) = true := by
  cases he : s.entryOf a with
  | none => rfl
  | some e =>
    rcases h e (List.mem_of_find?_eq_some he) (State.entryOf_apparatus he) with h | h | h | h <;>
      simp only [judgedAtOnce, h]

section
variable {s w : State} {p : Nat} {f : Frame} {a : Nat} {pos : Pos} {d : AppDesc} {r : AppLive} (modes flags : Flags4)
  (n : Nat) (x : Outgoing)

theorem State.itemTaken_lastOutcome (hr : s.app a = some r) :
    ((s.itemTaken p f a pos).app a).map AppLive.lastOutcome = some r.lastOutcome := by
  rw [State.itemTaken_app_map s p f a pos AppLive.lastOutcome (fun _ _ => rfl), hr]
  rfl

/-- R22, R142, R167: an unbidden change brings an INSPECT and its notice. -/
theorem State.judges_unbidden {v : State} {m : Notice} (hr : s.app a = some r)
    (hv : v = (s.itemTaken p f a pos).broadcast m) (hw : w = (v.placeInspect a).1) :
    let t := w.itemDone a modes flags p n x
    t.entries = s.entries ∧ s.Inspected t a ∧ s.Announced t 0 m ∧
    (t.app a).map AppLive.lastOutcome = some r.lastOutcome := by
  have hplaced : v.OnlyRestrictions w := hw ▸ v.placeInspect_onlyRestrictions a
  obtain ⟨l, hl⟩ := (s.itemTaken p f a pos).broadcast_ports m
  rw [← hv] at hl
  have happ : v.app a = (s.itemTaken p f a pos).app a := by rw [hl]; rfl
  have hentries : v.entries = s.entries := by rw [hl]; exact State.itemTaken_entries s p f a pos
  have hrestrictions : v.restrictions = s.restrictions := by rw [hl]; exact State.itemTaken_restrictions s p f a pos
  have hwrites : v.writes = s.writes := by rw [hl]; exact State.itemTaken_writes s p f a pos
  have hmark : (v.app a).map AppLive.overflow = (s.app a).map AppLive.overflow := by
    rw [happ]
    exact State.itemTaken_app_map s p f a pos AppLive.overflow (fun _ _ => rfl)
  refine ⟨?_, ?_, fun q hq hrole ha hc => State.itemDone_mem _ _ _ _ _ _ _ ?_, ?_⟩
  · rw [State.itemDone_entries, hplaced.entries, hentries]
  · rw [hw]
    exact State.inspected_itemDone hrestrictions hwrites hmark modes flags p n x
  · rw [hplaced.port, hv]
    refine State.broadcast_mem _ _ hq ?_ ?_ ?_
    · rw [State.itemTaken_port, State.taking_role, hrole]
    · rw [State.itemTaken_port, State.taking_state, ha]
    · rw [State.itemTaken_port, State.taking_transmit]
      exact hc
  · rw [State.itemDone_app_map w a modes flags p n x AppLive.lastOutcome (fun _ => rfl),
      hplaced.app_map a AppLive.lastOutcome (fun _ => rfl), happ]
    exact State.itemTaken_lastOutcome hr

/-- R23: a trip gives the record its outcome. -/
theorem State.judges_trip (hr : s.app a = some r)
    (hw : w = (s.itemTaken p f a pos).modApp a (fun y => { y with lastOutcome := some .tripped })) :
    let t := w.itemDone a modes flags p n x
    t.entries = s.entries ∧ t.restrictions = s.restrictions ∧ t.writes = s.writes ∧
    (t.app a).map AppLive.lastOutcome = some (some .tripped) := by
  obtain ⟨y, hy, -⟩ := Option.map_eq_some_iff.1 (State.itemTaken_lastOutcome (p := p) (f := f) (pos := pos) hr)
  refine ⟨?_, ?_, ?_, ?_⟩
  · rw [State.itemDone_entries, hw, State.modApp_entries, State.itemTaken_entries]
  · rw [State.itemDone_restrictions, hw, State.modApp_restrictions, State.itemTaken_restrictions]
  · rw [State.itemDone_writes, hw, State.modApp_writes, State.itemTaken_writes]
  · rw [State.itemDone_app_map w a modes flags p n x AppLive.lastOutcome (fun _ => rfl), hw,
      State.app_modApp _ _ _ _ (by exact fun _ => rfl), hy]
    simp

/-- R21: no other change is acted on. -/
theorem State.judges_other (hr : s.app a = some r) (hw : w = s.itemTaken p f a pos) :
    let t := w.itemDone a modes flags p n x
    t.entries = s.entries ∧ t.restrictions = s.restrictions ∧ t.writes = s.writes ∧
    (t.app a).map AppLive.lastOutcome = some r.lastOutcome := by
  refine ⟨?_, ?_, ?_, ?_⟩
  · rw [State.itemDone_entries, hw, State.itemTaken_entries]
  · rw [State.itemDone_restrictions, hw, State.itemTaken_restrictions]
  · rw [State.itemDone_writes, hw, State.itemTaken_writes]
  · rw [State.itemDone_app_map w a modes flags p n x AppLive.lastOutcome (fun _ => rfl), hw]
    exact State.itemTaken_lastOutcome hr

/-- R21 to R23, R142: what the unbidden judgement leaves of the tables, and which changes it acts on. -/
theorem State.judges {before : Pos} (hd : s.appDesc a = some d) (hr : s.app a = some r)
    (hrel : ∀ e ∈ s.entries, e.apparatus = a → e.state ≠ .released)
    (hw : w = (s.itemTaken p f a pos).run [.judge a before pos]) :
    let t := w.itemDone a modes flags p n x
    t.entries = s.entries ∧
    (Unbidden d.kind before pos → s.Inspected t a ∧ s.Announced t 0 (.unbidden a before pos)) ∧
    (¬ Unbidden d.kind before pos → t.restrictions = s.restrictions ∧ t.writes = s.writes) ∧
    (Trip d.kind before pos → (t.app a).map AppLive.lastOutcome = some (some .tripped)) ∧
    (¬ Trip d.kind before pos → (t.app a).map AppLive.lastOutcome = some r.lastOutcome) := by
  have hrun := (State.worksOff_judge (s := s.itemTaken p f a pos) (a := a) before pos (d := d)
    (by rw [State.itemTaken_appDesc, hd]) (by rwa [State.itemTaken_entries])).run (by decide)
  rw [← hw] at hrun
  by_cases hu : Unbidden d.kind before pos
  · rw [if_pos ((isUnbidden_iff _ _ _).2 hu)] at hrun
    obtain ⟨hentries, hins, hann, hlast⟩ := State.judges_unbidden modes flags n x hr rfl hrun
    exact ⟨hentries, fun _ => ⟨hins, hann⟩, fun h => absurd hu h, fun ht => absurd hu ht.not_unbidden, fun _ => hlast⟩
  · rw [if_neg (fun h => hu ((isUnbidden_iff _ _ _).1 h))] at hrun
    by_cases ht : Trip d.kind before pos
    · rw [if_pos ((isTrip_iff _ _ _).2 ht)] at hrun
      obtain ⟨hentries, hres, hwrites, hlast⟩ := State.judges_trip modes flags n x hr hrun
      exact ⟨hentries, fun h => absurd h hu, fun _ => ⟨hres, hwrites⟩, fun _ => hlast, fun h => absurd ht h⟩
    · rw [if_neg (fun h => ht ((isTrip_iff _ _ _).1 h))] at hrun
      obtain ⟨hentries, hres, hwrites, hlast⟩ := State.judges_other modes flags n x hr hrun
      exact ⟨hentries, fun h => absurd h hu, fun _ => ⟨hres, hwrites⟩, fun h => absurd h ht, fun _ => hlast⟩

end

end Sys2Proof.Machine
end

section
/-! O10: a report of apparatus items. -/

namespace Sys2Proof.Machine

/-- R21 to R23, R101, R102, R105, R111, R116, R127, R128, R142: a report that changes the position of an apparatus. -/
theorem report_apparatus_moves (s : State) (p : Nat) (f : Frame) (a : Nat) (pos : Pos) (d : AppDesc) (r : AppLive)
    (h : s.Takes p .positionReport f) (hb : decodeReport f.body = some [.apparatus a pos r.present])
    (hh : s.heldPassRunning = false) (hd : s.appDesc a = some d) (hp : d.port = p) (hr : s.app a = some r)
    (hsub : r.substituted = none) (hact : (s.port p).state = .active) (hne : pos ≠ r.effective)
    (hv : s.evaluation = none) :
    ∃ t, exec (.positionReport p) s = .next t ∧
      (∀ e, s.entryOf a = some e → s.entry e.ticket = some e →
        (e.state = .released ∨ e.state = .revoking → pos = .travelling →
          t.entries = s.entries.map (fun x => if x.ticket = e.ticket then
            { x with state := .travelling, flavour := none, deadline := some d.travelLimit } else x) ∧
          t.restrictions = s.restrictions) ∧
        (e.state = .released ∨ e.state = .revoking ∨ e.state = .travelling → pos = e.target.pos →
          t.entries = s.entries.map (fun x => if x.ticket = e.ticket then
            { x with state := .settling, flavour := none, deadline := none,
                     operatingTime := some (min 65535 (s.now - e.releaseTime.getD s.now)) } else x) ∧
          (t.app a).map AppLive.lastOperatingTime = some (some (min 65535 (s.now - e.releaseTime.getD s.now))) ∧
          t.restrictions = s.restrictions) ∧
        (e.programme = none → s.calm → s.mode ≠ .freezing →
          (∀ x ∈ s.entries, x.apparatus = a → x.ticket = e.ticket) →
          let m := s.modApp a (fun x => AppLive.withBlocking
            { x with reported := pos, substituted := none, effective := pos } d.latchedModes r.present)
          (e.state = .travelling → pos = e.target.opposite →
            m.Retired t e .returned ∧ t.restrictions = s.restrictions) ∧
          (e.state = .released ∨ e.state = .revoking ∨ e.state = .travelling → pos = .faulty ∨ pos = .unknown →
            m.Retired t e .faulted ∧ s.Inspected t a)) ∧
        (∀ g k, e.programme = some (g.ticket, k) → s.programme g.ticket = some g → g.movement = some e.ticket →
          (s.port g.owner).state = .active → s.calm → s.mode ≠ .freezing →
          (∀ x ∈ s.entries, x.apparatus = a → x.ticket = e.ticket) →
          let stops := fun (o : MoveOutcome) =>
            t.entries = s.entries.filter (fun x => x.ticket ≠ e.ticket) ∧
            t.programmes = s.programmes.filter (fun x => x.ticket ≠ g.ticket) ∧
            t.ended = (s.ended ++ [Entry.endedItem e o]).drop (s.ended.length + 1 - 16) ∧
            (noticeCount (s.port g.owner).transmit < 31 → Outgoing.notice (.programmeEnded g.ticket g.current
              (some (.outcome (if g.state = .stopping then .cancelled else o)))) ∈ (t.port g.owner).transmit)
          (e.state = .travelling → pos = e.target.opposite → stops .returned ∧ t.restrictions = s.restrictions) ∧
          (e.state = .released ∨ e.state = .revoking ∨ e.state = .travelling → pos = .faulty ∨ pos = .unknown →
            stops .faulted ∧ s.Inspected t a))) ∧
      ((∀ e ∈ s.entries, e.apparatus = a →
          e.state = .queued ∨ e.state = .deferred ∨ e.state = .evaluating ∨ e.state = .suspended) →
        t.entries = s.entries ∧
        (Unbidden d.kind r.effective pos → s.Inspected t a ∧ s.Announced t 0 (.unbidden a r.effective pos)) ∧
        (¬ Unbidden d.kind r.effective pos → t.restrictions = s.restrictions ∧ t.writes = s.writes) ∧
        (Trip d.kind r.effective pos → (t.app a).map AppLive.lastOutcome = some (some .tripped)) ∧
        (¬ Trip d.kind r.effective pos → (t.app a).map AppLive.lastOutcome = some r.lastOutcome)) := by
  obtain rfl := State.appDesc_number hd
  obtain ⟨w, hw, hin, hexec⟩ := exec_position_changed h hb hh hd hp hr hsub hact hne
  have supervised : ∀ e, s.entryOf d.number = some e → Moving e.state →
      w = (s.itemTaken p f d.number pos).supervise e .report pos := fun e he hst =>
    hw.trans (State.appChanged_supervised (s := (s.taking p f).appWritten d.number pos none pos) .report r.effective pos
      hv he hst.not_judged)
  refine ⟨_, hexec, fun e he hentry => ⟨fun hst hpos => ?_, fun hst hpos => ?_, fun hprog hc hm hone => ?_,
    fun g k hprog hg hgm hown hc hm hone => ?_⟩, fun hunheld => ?_⟩
  · have hmoving : Moving e.state := hst.imp id .inl
    subst hpos
    exact State.travels _ _ _ _ hd (State.entryOf_apparatus he) hst (supervised e he hmoving)
  · have hw' := supervised e he hst
    subst hpos
    rw [← State.entryOf_apparatus he] at hw' hr ⊢
    exact State.settles _ _ _ _ hr hst hw'
  · have acted := supervised e he
    rw [← State.entryOf_apparatus he] at acted hin hone ⊢
    refine ⟨fun hst hpos => ?_, fun hst hpos => ?_⟩
    · have hmoving : Moving e.state := .inr (.inr hst)
      obtain rfl := State.returns hst hpos (by decide)
        (State.itemTaken_retires hentry hmoving hc hm hv .returned hprog) (acted hmoving)
      exact ⟨State.retired_itemDone (.refl _) hin _ _ _ _, by simp⟩
    · obtain rfl := State.faults hst hpos (by decide)
        (State.itemTaken_retires hentry hst hc hm hv .faulted hprog) (by simp) hone (acted hst)
      exact ⟨State.retired_itemDone (State.placeInspect_onlyRestrictions _ _) hin _ _ _ _,
        State.inspected_itemDone (by simp) (by simp) (State.retiredBy_overflow _) _ _ _ _ _⟩
  · have acted := supervised e he
    rw [← State.entryOf_apparatus he] at acted hin hone ⊢
    refine ⟨fun hst hpos => ?_, fun hst hpos => ?_⟩
    · have hmoving : Moving e.state := .inr (.inr hst)
      obtain rfl := State.returns hst hpos (by decide)
        (State.itemTaken_stops hentry hmoving hc hm hv hprog hg hgm hown (by decide)) (acted hmoving)
      exact ⟨State.stops_itemDone (.refl _) hown _ _ _ _, by simp⟩
    · obtain rfl := State.faults hst hpos (by decide)
        (State.itemTaken_stops hentry hst hc hm hv hprog hg hgm hown (by decide)) (by simp) hone (acted hst)
      exact ⟨State.stops_itemDone (State.placeInspect_onlyRestrictions _ _) hown _ _ _ _,
        State.inspected_itemDone (by simp) (by simp) (by rw [State.programmeEnded_app]; exact State.retiredBy_overflow _)
          _ _ _ _ _⟩
  · refine State.judges _ _ _ _ hd hr (fun e he ha => ?_) (hw.trans (State.appChanged_judged
      (s := (s.taking p f).appWritten d.number pos none pos) r.effective pos hv (State.entryOf_judged hunheld)))
    rcases hunheld e he ha with hst | hst | hst | hst <;> rw [hst] <;> decide

/-- Settles O10: one item outside a held pass, what its change of position does to the entry of the apparatus, one item in a
held pass, and several items, each by the lemma on its case. -/
theorem reportedApparatusItem : Obligations.ReportedApparatusItem := by
  unfold Obligations.ReportedApparatusItem
  refine ⟨report_apparatus_open, report_apparatus_moves, report_apparatus_held, fun s p f l h hb hpass hn => ?_⟩
  obtain ⟨t, hexec, taken, hall, hfirst⟩ := report_several s p f l h hb hpass hn
  exact ⟨t, hexec, hall, hfirst, taken.lastApp, taken.lastNode, taken.appsKept, taken.nodesKept⟩

end Sys2Proof.Machine
end

section
/-! Taking up a node (R30 to R32, R35 to R37): the two reads, the growth along closed apparatus, and the draft. -/

namespace Sys2Proof.Machine

/-! ### The two reads of a take-up (R36) -/

/-- R36: what the second read of apparatus `d` adds to the read set. -/
def State.newRead (s : State) (w : Pass) (d : AppDesc) : List ReadApp :=
  if w.hasRead (.apparatus d.number) then []
  else [{ number := d.number, position := s.positionOf d.number, stale := false }]

/-- R36: what the second read of apparatus `d` adds to the component. -/
def State.newFar (s : State) (n : Nat) (w : Pass) (d : AppDesc) : List Nat :=
  if !w.hasRead (.apparatus d.number) && (s.positionOf d.number).possiblyClosed && !w.reached.contains (d.otherEnd n) then
    [d.otherEnd n]
  else []

theorem State.readApp_eq (s : State) (n : Nat) (w : Pass) (d : AppDesc) : s.readApp n w d =
    { w with readApps := w.readApps ++ s.newRead w d, reached := w.reached ++ s.newFar n w d } := by
  unfold State.readApp State.newRead State.newFar
  cases w.hasRead (.apparatus d.number) with
  | true => simp
  | false =>
    simp only [Bool.false_eq_true, if_false, Bool.not_false, Bool.true_and]
    split <;> simp

theorem State.mem_newRead {s : State} {w : Pass} {d : AppDesc} {r : ReadApp} : r ∈ s.newRead w d ↔
    (∀ x ∈ w.readApps, x.number ≠ d.number) ∧
      r = { number := d.number, position := s.positionOf d.number, stale := false } := by
  unfold State.newRead
  cases h : w.hasRead (.apparatus d.number) with
  | true =>
    obtain ⟨y, hy, hn⟩ := (w.hasRead_apparatus _).1 h
    simp only [if_true, List.not_mem_nil, false_iff, not_and]
    exact fun hall => absurd hn (hall y hy)
  | false =>
    have hall : ∀ x ∈ w.readApps, x.number ≠ d.number := by simpa [Pass.hasRead] using h
    simp only [Bool.false_eq_true, if_false, List.mem_singleton, iff_and_self]
    exact fun _ => hall

theorem State.mem_newFar {s : State} {n m : Nat} {w : Pass} {d : AppDesc} : m ∈ w.reached ++ s.newFar n w d ↔
    m ∈ w.reached ∨ (d.otherEnd n = m ∧ (∀ x ∈ w.readApps, x.number ≠ d.number) ∧ s.positionOf d.number ≠ .opened) := by
  have hread : (∀ x ∈ w.readApps, x.number ≠ d.number) ↔ w.hasRead (.apparatus d.number) = false := by
    simp [Pass.hasRead]
  have hpos : s.positionOf d.number ≠ .opened ↔ (s.positionOf d.number).possiblyClosed = true := by
    simp [Pos.possiblyClosed]
  rw [hread, hpos, State.newFar]
  by_cases hm : d.otherEnd n ∈ w.reached
  · have hc : w.reached.contains (d.otherEnd n) = true := by simpa using hm
    simp only [hc, Bool.not_true, Bool.and_false, Bool.false_eq_true, if_false, List.append_nil, iff_self_or]
    rintro ⟨rfl, -⟩
    exact hm
  · have hc : w.reached.contains (d.otherEnd n) = false := by simpa using hm
    simp only [hc, Bool.not_false, Bool.and_true, List.mem_append, Bool.and_eq_true, Bool.not_eq_true']
    refine or_congr_right ?_
    split
    · rename_i h
      simp only [List.mem_singleton, h, and_self, and_true, eq_comm]
    · rename_i h
      simp only [List.not_mem_nil, h, and_false]

/-- The second reads of the apparatus of `l` have led from pass `w` to pass `v` at node `n` (R36). -/
structure State.AppsRead (s : State) (n : Nat) (l : List AppDesc) (w v : Pass) : Prop where
  kept : v = { w with readApps := v.readApps, reached := v.reached }
  all : ∀ d ∈ l, ∃ r ∈ v.readApps, r.number = d.number
  grown : ∃ more, v.readApps = w.readApps ++ more ∧ ∀ r ∈ more, r.position = s.positionOf r.number ∧ r.stale = false ∧
    (∀ x ∈ w.readApps, x.number ≠ r.number) ∧ ∃ d ∈ l, d.number = r.number
  joined : ∃ more, v.reached = w.reached ++ more
  component : (l.map AppDesc.number).Nodup → ∀ m, m ∈ v.reached ↔ m ∈ w.reached ∨ ∃ d ∈ l, d.otherEnd n = m ∧
    (∀ x ∈ w.readApps, x.number ≠ d.number) ∧ s.positionOf d.number ≠ .opened

theorem State.appsRead (s : State) (n : Nat) (l : List AppDesc) (w : Pass) :
    s.AppsRead n l w (l.foldl (s.readApp n) w) := by
  induction l generalizing w with
  | nil => exact ⟨rfl, by simp, ⟨[], by simp⟩, ⟨[], by simp⟩, by simp⟩
  | cons d l ih =>
    rw [List.foldl_cons, State.readApp_eq]
    obtain ⟨kept, all, ⟨more, hmore, hnew⟩, ⟨far, hfar⟩, component⟩ :=
      ih { w with readApps := w.readApps ++ s.newRead w d, reached := w.reached ++ s.newFar n w d }
    rw [List.append_assoc] at hmore hfar
    refine ⟨kept, fun d' hd' => ?_, ⟨_, hmore, fun r hr => ?_⟩, ⟨_, hfar⟩, fun hnodup m => ?_⟩
    · rcases List.mem_cons.1 hd' with rfl | hd'
      · rw [hmore]
        by_cases hread : ∀ x ∈ w.readApps, x.number ≠ d'.number
        · exact ⟨_, List.mem_append_right _ (List.mem_append_left _ (State.mem_newRead.2 ⟨hread, rfl⟩)), rfl⟩
        · push Not at hread
          obtain ⟨x, hx, hn⟩ := hread
          exact ⟨x, List.mem_append_left _ hx, hn⟩
      · exact all d' hd'
    · rcases List.mem_append.1 hr with hr | hr
      · obtain ⟨hread, rfl⟩ := State.mem_newRead.1 hr
        exact ⟨rfl, rfl, hread, d, List.mem_cons_self, rfl⟩
      · obtain ⟨hpos, hstale, hread, d', hd', hn⟩ := hnew r hr
        exact ⟨hpos, hstale, fun x hx => hread x (List.mem_append_left _ hx), d', List.mem_cons_of_mem _ hd', hn⟩
    · rw [List.map_cons, List.nodup_cons] at hnodup
      have unread : ∀ d' ∈ l, (∀ x ∈ w.readApps ++ s.newRead w d, x.number ≠ d'.number) ↔
          ∀ x ∈ w.readApps, x.number ≠ d'.number := by
        intro d' hd'
        refine ⟨fun h x hx => h x (List.mem_append_left _ hx), fun h x hx => ?_⟩
        rcases List.mem_append.1 hx with hx | hx
        · exact h x hx
        · obtain ⟨-, rfl⟩ := State.mem_newRead.1 hx
          exact fun e => hnodup.1 (List.mem_map.2 ⟨d', hd', e.symm⟩)
      rw [component hnodup.2, State.mem_newFar, or_assoc]
      refine or_congr_right ⟨?_, ?_⟩
      · rintro (h | ⟨d', hd', ho, hr, hp⟩)
        · exact ⟨d, List.mem_cons_self, h⟩
        · exact ⟨d', List.mem_cons_of_mem _ hd', ho, (unread d' hd').1 hr, hp⟩
      · rintro ⟨d', hd', ho, hr, hp⟩
        rcases List.mem_cons.1 hd' with rfl | hd'
        · exact .inl ⟨ho, hr, hp⟩
        · exact .inr ⟨d', hd', ho, (unread d' hd').2 hr, hp⟩

/-- R36: an apparatus not read before stands in the read set with its present position. -/
theorem State.AppsRead.present {s : State} {n : Nat} {l : List AppDesc} {w v : Pass} (h : s.AppsRead n l w v) {d : AppDesc}
    (hd : d ∈ l) (hread : ∀ r ∈ w.readApps, r.number ≠ d.number) :
    ∃ r ∈ v.readApps, r.number = d.number ∧ r.position = s.positionOf d.number ∧ r.stale = false := by
  obtain ⟨r, hr, hn⟩ := h.all d hd
  obtain ⟨more, hmore, hnew⟩ := h.grown
  have hr' := hr
  rw [hmore] at hr'
  obtain ⟨hpos, hstale, -⟩ := hnew r ((List.mem_append.1 hr').resolve_left (fun hw => hread r hw hn))
  exact ⟨r, hr, hn, hn ▸ hpos, hstale⟩

/-- R36: the first read adds a measured node with its class, and changes nothing else of the pass. -/
theorem State.readNode_eq (s : State) (n : Nat) (w : Pass) : ∃ more,
    s.readNode n w = { w with readNodes := w.readNodes ++ more } ∧
    (∀ d r, s.nodeDesc n = some d → d.measured = true → s.node n = some r →
      more = [{ number := n, cls := r.effective, stale := false }]) ∧
    ((∀ d, s.nodeDesc n = some d → d.measured = false) → more = []) := by
  unfold State.readNode
  split
  · rename_i d r hd hr
    cases hm : d.measured with
    | true =>
      refine ⟨_, rfl, fun d' r' _ _ hr' => ?_, fun h => ?_⟩
      · rw [hr] at hr'
        rw [Option.some.inj hr']
      · rw [h d hd] at hm
        cases hm
    | false =>
      refine ⟨[], by simp, fun d' _ hd' hm' => ?_, fun _ => rfl⟩
      rw [hd] at hd'
      rw [← Option.some.inj hd', hm] at hm'
      cases hm'
  · rename_i hnone
    exact ⟨[], by simp, fun d r hd _ hr => absurd hr (hnone d r hd), fun _ => rfl⟩

/-! ### The smallest number of a list -/

theorem smallest_mem (x : Nat) (l : List Nat) : smallest x l ∈ x :: l := by
  induction l generalizing x with
  | nil => exact List.mem_cons_self
  | cons y l ih =>
    have h := ih (min x y)
    rcases Nat.le_total x y with hxy | hxy
    · rw [Nat.min_eq_left hxy] at h
      simpa [smallest, Nat.min_eq_left hxy] using (List.mem_cons.1 h).imp id .inr
    · rw [Nat.min_eq_right hxy] at h
      simpa [smallest, Nat.min_eq_right hxy] using .inr (List.mem_cons.1 h)

theorem smallest_le (x : Nat) (l : List Nat) : ∀ y ∈ x :: l, smallest x l ≤ y := by
  induction l generalizing x with
  | nil => simp [smallest]
  | cons z l ih =>
    have hmin : smallest x (z :: l) ≤ min x z := ih (min x z) _ List.mem_cons_self
    intro y hy
    rcases List.mem_cons.1 hy with rfl | hy
    · exact hmin.trans (Nat.min_le_left _ _)
    · rcases List.mem_cons.1 hy with rfl | hy
      · exact hmin.trans (Nat.min_le_right _ _)
      · exact ih (min x z) y (List.mem_cons_of_mem _ hy)

theorem smallest_mem_of_mem {x : Nat} {l : List Nat} (h : x ∈ l) : smallest x l ∈ l := by
  rcases List.mem_cons.1 (smallest_mem x l) with e | hm
  · rwa [e]
  · exact hm

/-! ### Growth along edges -/

/-- One growth along one edge. -/
def growEdge (set : List Nat) (e : Nat × Nat) : List Nat :=
  if set.contains e.1 && !set.contains e.2 then set ++ [e.2]
  else if set.contains e.2 && !set.contains e.1 then set ++ [e.1]
  else set

theorem growOnce_cons (e : Nat × Nat) (edges : List (Nat × Nat)) (set : List Nat) :
    growOnce (e :: edges) set = growOnce edges (growEdge set e) := rfl

/-- A set holds both ends of an edge or none. -/
def ClosedUnder (P : Nat → Prop) (edges : List (Nat × Nat)) : Prop := ∀ e ∈ edges, P e.1 ↔ P e.2

/-- An edge adds the one end that is missing, or has both ends in the set, or none. -/
theorem growEdge_cases (set : List Nat) (e : Nat × Nat) :
    (growEdge set e = set ∧ (e.1 ∈ set ↔ e.2 ∈ set)) ∨
    (e.1 ∈ set ∧ e.2 ∉ set ∧ growEdge set e = set ++ [e.2]) ∨ (e.2 ∈ set ∧ e.1 ∉ set ∧ growEdge set e = set ++ [e.1]) := by
  by_cases h1 : e.1 ∈ set <;> by_cases h2 : e.2 ∈ set <;> simp [growEdge, h1, h2]

theorem growEdge_append (set : List Nat) (e : Nat × Nat) : ∃ more, growEdge set e = set ++ more := by
  rcases growEdge_cases set e with ⟨h, -⟩ | ⟨-, -, h⟩ | ⟨-, -, h⟩
  · exact ⟨[], by rw [h, List.append_nil]⟩
  · exact ⟨_, h⟩
  · exact ⟨_, h⟩

theorem growOnce_append (edges : List (Nat × Nat)) (set : List Nat) : ∃ more, growOnce edges set = set ++ more := by
  induction edges generalizing set with
  | nil => exact ⟨[], (List.append_nil set).symm⟩
  | cons e edges ih =>
    obtain ⟨first, hfirst⟩ := growEdge_append set e
    obtain ⟨more, hmore⟩ := ih (growEdge set e)
    exact ⟨first ++ more, by rw [growOnce_cons, hmore, hfirst, List.append_assoc]⟩

theorem growOnce_nodup (edges : List (Nat × Nat)) {set : List Nat} (h : set.Nodup) : (growOnce edges set).Nodup := by
  induction edges generalizing set with
  | nil => exact h
  | cons e edges ih =>
    refine ih (set := growEdge set e) ?_
    rcases growEdge_cases set e with ⟨hg, -⟩ | ⟨-, hn, hg⟩ | ⟨-, hn, hg⟩ <;> rw [hg]
    · exact h
    · exact List.nodup_append.2 ⟨h, List.nodup_singleton _, by simpa using fun a ha => (by rintro rfl; exact hn ha)⟩
    · exact List.nodup_append.2 ⟨h, List.nodup_singleton _, by simpa using fun a ha => (by rintro rfl; exact hn ha)⟩

/-- Growth does not leave what is closed under the edges. -/
theorem growOnce_within {P : Nat → Prop} {edges : List (Nat × Nat)} (hP : ClosedUnder P edges) {set : List Nat}
    (h : ∀ x ∈ set, P x) : ∀ x ∈ growOnce edges set, P x := by
  induction edges generalizing set with
  | nil => exact h
  | cons e edges ih =>
    have he := hP e List.mem_cons_self
    refine ih (fun x hx => hP x (List.mem_cons_of_mem _ hx)) (set := growEdge set e) ?_
    rcases growEdge_cases set e with ⟨hg, -⟩ | ⟨hm, -, hg⟩ | ⟨hm, -, hg⟩ <;> rw [hg]
    · exact h
    · simpa [or_imp, forall_and] using ⟨h, he.1 (h _ hm)⟩
    · simpa [or_imp, forall_and] using ⟨h, he.2 (h _ hm)⟩

/-- A set that a growth leaves as it is, is closed under the edges. -/
theorem closed_of_growOnce_eq {edges : List (Nat × Nat)} {set : List Nat} (h : growOnce edges set = set) :
    ClosedUnder (· ∈ set) edges := by
  induction edges with
  | nil => exact fun e he => absurd he List.not_mem_nil
  | cons e edges ih =>
    obtain ⟨more, hmore⟩ := growOnce_append edges (growEdge set e)
    have hsame : growEdge set e = set := by
      obtain ⟨first, hfirst⟩ := growEdge_append set e
      rw [growOnce_cons, hmore, hfirst, List.append_assoc, List.append_right_eq_self] at h
      rw [hfirst, (List.append_eq_nil_iff.1 h).1, List.append_nil]
    have hiff : e.1 ∈ set ↔ e.2 ∈ set := by
      rcases growEdge_cases set e with ⟨-, hiff⟩ | ⟨-, -, hg⟩ | ⟨-, -, hg⟩
      · exact hiff
      · simp [hg] at hsame
      · simp [hg] at hsame
    rw [growOnce_cons, hsame] at h
    intro x hx
    rcases List.mem_cons.1 hx with rfl | hx
    · exact hiff
    · exact ih h x hx

theorem grow_of_fixed {edges : List (Nat × Nat)} {set : List Nat} (h : growOnce edges set = set) (k : Nat) :
    grow edges k set = set := by
  induction k with
  | zero => rfl
  | succ k ih => rw [grow, h, ih]

theorem subset_grow (edges : List (Nat × Nat)) (k : Nat) (set : List Nat) : set ⊆ grow edges k set := by
  induction k generalizing set with
  | zero => exact List.Subset.refl _
  | succ k ih =>
    obtain ⟨more, hmore⟩ := growOnce_append edges set
    refine List.Subset.trans ?_ (ih (growOnce edges set))
    rw [hmore]
    exact List.subset_append_left _ _

theorem grow_nodup (edges : List (Nat × Nat)) (k : Nat) {set : List Nat} (h : set.Nodup) : (grow edges k set).Nodup := by
  induction k generalizing set with
  | zero => exact h
  | succ k ih => exact ih (growOnce_nodup edges h)

theorem grow_within {P : Nat → Prop} {edges : List (Nat × Nat)} (hP : ClosedUnder P edges) (k : Nat) {set : List Nat}
    (h : ∀ x ∈ set, P x) : ∀ x ∈ grow edges k set, P x := by
  induction k generalizing set with
  | zero => exact h
  | succ k ih => exact ih (growOnce_within hP h)

/-- Each growth adds a node, until the set is closed under the edges. -/
theorem grow_closed_or_longer (edges : List (Nat × Nat)) (k : Nat) (set : List Nat) :
    ClosedUnder (· ∈ grow edges k set) edges ∨ set.length + k ≤ (grow edges k set).length := by
  induction k generalizing set with
  | zero => exact .inr (Nat.le_refl _)
  | succ k ih =>
    obtain ⟨more, hmore⟩ := growOnce_append edges set
    cases more with
    | nil =>
      rw [List.append_nil] at hmore
      rw [grow_of_fixed hmore]
      exact .inl (closed_of_growOnce_eq hmore)
    | cons x more =>
      refine (ih (growOnce edges set)).imp id (fun h => ?_)
      rw [hmore, List.length_append, List.length_cons] at h
      rw [grow, hmore]
      omega

/-- Growing one node as often as a set that holds all it can reach has members closes it under the edges. -/
theorem grow_closed {edges : List (Nat × Nat)} {set : List Nat} {n : Nat} (hset : ClosedUnder (· ∈ set) edges)
    (hn : n ∈ set) : ClosedUnder (· ∈ grow edges set.length [n]) edges := by
  refine (grow_closed_or_longer edges set.length [n]).resolve_right (fun hlong => ?_)
  have hsub : grow edges set.length [n] ⊆ set := grow_within hset _ (by simpa using hn)
  have hle := (List.subperm_of_subset (grow_nodup edges set.length (List.nodup_singleton n)) hsub).length_le
  rw [List.length_singleton] at hlong
  omega

/-! ### The sure component and the draft (R30 to R32, R37) -/

theorem State.mem_sureEdges {s : State} {w : Pass} {e : Nat × Nat} : e ∈ s.sureEdges w ↔
    ∃ r ∈ w.readApps, r.position = .closed ∧ ∃ d, s.appDesc r.number = some d ∧ (d.a, d.b) = e := by
  simp only [State.sureEdges, List.mem_filterMap, Option.ite_none_right_eq_some, Pos.surelyClosed, beq_iff_eq,
    Option.map_eq_some_iff]

theorem State.SureJoined.congr {s : State} {v w : Pass} (h : v.readApps = w.readApps) {n m : Nat}
    (hj : s.SureJoined w n m) : s.SureJoined v n m := by
  induction hj with
  | refl => exact .refl _
  | step _ hr hp hd he ih => exact .step ih (h ▸ hr) hp hd he

/-- The nodes joined to `n` are closed under the sure edges. -/
theorem State.sureJoined_closed (s : State) (w : Pass) (n : Nat) : ClosedUnder (s.SureJoined w n) (s.sureEdges w) := by
  intro e he
  obtain ⟨r, hr, hp, d, hd, rfl⟩ := State.mem_sureEdges.1 he
  exact ⟨fun h => h.step hr hp hd (.inl ⟨rfl, rfl⟩), fun h => h.step hr hp hd (.inr ⟨rfl, rfl⟩)⟩

/-- What is closed under the sure edges and holds `n` holds every node joined to `n`. -/
theorem State.SureJoined.mem_of_closed {s : State} {w : Pass} {P : Nat → Prop} (hP : ClosedUnder P (s.sureEdges w))
    {n m : Nat} (hn : P n) (hj : s.SureJoined w n m) : P m := by
  induction hj with
  | refl => exact hn
  | step _ hr hp hd he ih =>
    rename_i r d _
    have hiff := hP (d.a, d.b) (State.mem_sureEdges.2 ⟨r, hr, hp, d, hd, rfl⟩)
    rcases he with ⟨rfl, rfl⟩ | ⟨rfl, rfl⟩
    · exact hiff.1 ih
    · exact hiff.2 ih

/-- R37: in a component that holds both ends of a CLOSED apparatus or none, growth finds exactly the nodes joined to `n`. -/
theorem State.mem_grow_sureEdges {s : State} {w : Pass} {n : Nat} (hc : ClosedUnder (· ∈ w.reached) (s.sureEdges w))
    (hn : n ∈ w.reached) (m : Nat) : m ∈ grow (s.sureEdges w) w.reached.length [n] ↔ s.SureJoined w n m :=
  ⟨grow_within (s.sureJoined_closed w n) _ (by simpa using .refl n) m,
    fun hj => hj.mem_of_closed (grow_closed hc hn) (subset_grow _ _ _ (List.mem_singleton_self n))⟩

theorem Pass.componentLive_iff (w : Pass) :
    w.componentLive = true ↔ ∃ r ∈ w.readNodes, r.number ∈ w.reached ∧ r.cls ≠ .dead := by
  simp [Pass.componentLive]

/-- R30 to R32, R37: the draft entry of a node of an explored component. -/
theorem State.draftEntry_draftedAs {s : State} {w : Pass} {n : Nat} (hc : ClosedUnder (· ∈ w.reached) (s.sureEdges w))
    (hn : n ∈ w.reached) : s.DraftedAs w w.reached n (s.draftEntry w n) where
  possible := ⟨smallest_mem_of_mem hn, fun m hm => smallest_le n _ m (List.mem_cons_of_mem _ hm)⟩
  sure := by
    have hjoined := State.mem_grow_sureEdges hc hn
    refine ⟨(hjoined _).1 (smallest_mem_of_mem ((hjoined n).2 (.refl n))), fun m hm => ?_⟩
    exact smallest_le n _ m (List.mem_cons_of_mem _ ((hjoined m).2 hm))
  ground := fun h => by simp only [State.draftEntry, if_pos h]
  live := fun h hlive => by
    simp [State.draftEntry, h, w.componentLive_iff.2 hlive, colourOf]
  dead := fun h hdead => by
    have hl : w.componentLive = false := Bool.eq_false_iff.2 (fun hl => by
      obtain ⟨r, hr, hm, hd⟩ := w.componentLive_iff.1 hl
      exact hd (hdead r hr hm))
    simp [State.draftEntry, h, hl, colourOf]

theorem State.DraftedAs.congr {s : State} {v w : Pass} (ha : v.readApps = w.readApps) (hn : v.readNodes = w.readNodes)
    {c : List Nat} {n : Nat} {x : NodeEntry} (h : s.DraftedAs w c n x) : s.DraftedAs v c n x where
  possible := h.possible
  sure := ⟨h.sure.1.congr ha, fun m hm => h.sure.2 m (hm.congr ha.symm)⟩
  ground := h.ground
  live := hn ▸ h.live
  dead := hn ▸ h.dead

/-! ### The end of an exploration (R35, R37) -/

theorem Pass.next_isSome_iff (w : Pass) : w.next.isSome = true ↔ ∃ m ∈ w.reached, m ∉ w.takenUp := by
  simp [Pass.next, List.find?_isSome]

theorem State.explored_open {s : State} {w : Pass} (h : ∃ m ∈ w.reached, m ∉ w.takenUp) : s.explored w = w := by
  simp only [State.explored, w.next_isSome_iff.2 h, if_true]

theorem State.explored_done {s : State} {w : Pass} (h : ∀ m ∈ w.reached, m ∈ w.takenUp) : s.explored w =
    { w with draft := w.draft ++ w.reached.map (fun n => (n, s.draftEntry w n)), reached := s.nextComponent w } := by
  have hn : ¬ w.next.isSome = true := fun hs => by
    obtain ⟨m, hm, hnot⟩ := w.next_isSome_iff.1 hs
    exact hnot (h m hm)
  simp only [State.explored, if_neg hn]

/-- The end of an exploration changes the component and adds to the draft. -/
theorem State.explored_kept (s : State) (w : Pass) : ∃ c more,
    s.explored w = { w with draft := w.draft ++ more, reached := c } := by
  by_cases h : ∃ m ∈ w.reached, m ∉ w.takenUp
  · exact ⟨w.reached, [], by rw [State.explored_open h, List.append_nil]⟩
  · push Not at h
    exact ⟨_, _, State.explored_done h⟩

/-- R35: the next component begins at the first described node not taken up. -/
theorem State.nextComponent_eq (s : State) (w : Pass) : s.nextComponent w =
    match s.force.nodes.find? (fun d => !w.takenUp.contains d.number) with
    | some d => [d.number]
    | none => [] := by
  unfold State.nextComponent
  rw [List.find?_map]
  cases h : s.force.nodes.find? ((fun n => !w.takenUp.contains n) ∘ NodeDesc.number) <;>
    · change s.force.nodes.find? (fun d => !w.takenUp.contains d.number) = _ at h
      rw [h]
      rfl

/-! ### A take-up -/

theorem exec_passTakeUp {s : State} {w : Pass} {n : Nat} (hr : s.heldInReset = false) (hw : s.pass = some w)
    (hn : w.next = some n) : exec .passTakeUp s = .next { s with pass := some (s.takeUpNode w n) } := by
  have h : exec .passTakeUp s = .next (s.whenRunning State.takeUp) := rfl
  rw [h, s.whenRunning_running _ hr]
  simp only [State.takeUp, hw, hn]

theorem State.mem_appsAt {s : State} {n : Nat} {d : AppDesc} :
    d ∈ s.appsAt n ↔ d ∈ s.force.apparatus ∧ (d.a = n ∨ d.b = n) := by
  simp [State.appsAt, AppDesc.atNode]

/-- The far terminal of an apparatus at a node. -/
theorem AppDesc.otherEnd_iff {d : AppDesc} {n m : Nat} (h : d.a = n ∨ d.b = n) :
    d.otherEnd n = m ↔ d.a = n ∧ d.b = m ∨ d.a ≠ n ∧ d.b = n ∧ d.a = m := by
  unfold AppDesc.otherEnd
  by_cases ha : d.a = n
  · simp [ha]
  · simp [ha, h.resolve_left ha]

/-- R36: the pass after both reads of a take-up, before its component is looked at. -/
def State.nodeTaken (s : State) (w : Pass) (n : Nat) : Pass :=
  let v := (s.appsAt n).foldl (s.readApp n) (s.readNode n w)
  { v with takenUp := v.takenUp ++ [n] }

theorem State.takeUpNode_eq (s : State) (w : Pass) (n : Nat) : s.takeUpNode w n = s.explored (s.nodeTaken w n) := rfl

/-- R36: both reads of a take-up. -/
theorem State.nodeTaken_reads (s : State) (w : Pass) (n : Nat) : ∃ v nodes,
    s.AppsRead n (s.appsAt n) { w with readNodes := w.readNodes ++ nodes } v ∧
    s.nodeTaken w n = { w with
      takenUp := w.takenUp ++ [n], readNodes := w.readNodes ++ nodes, readApps := v.readApps, reached := v.reached } ∧
    (∀ d r, s.nodeDesc n = some d → d.measured = true → s.node n = some r →
      nodes = [{ number := n, cls := r.effective, stale := false }]) ∧
    ((∀ d, s.nodeDesc n = some d → d.measured = false) → nodes = []) := by
  obtain ⟨nodes, hnodes, hread, hnone⟩ := s.readNode_eq n w
  have happs := s.appsRead n (s.appsAt n) (s.readNode n w)
  rw [hnodes] at happs
  refine ⟨_, nodes, happs, ?_, hread, hnone⟩
  rw [State.nodeTaken, hnodes, happs.kept]

/-- Settles O44: the reads by `State.AppsRead`, the component by what they reached, and its entries by the growth along
closed apparatus. -/
theorem nodeTakenUp : Obligations.NodeTakenUp := by
  unfold Obligations.NodeTakenUp
  intro s w n hr hw hn
  obtain ⟨u, nodes, happs, htaken, hread, hnone⟩ := s.nodeTaken_reads w n
  obtain ⟨c', drafted', hexplored⟩ := s.explored_kept (s.nodeTaken w n)
  have happs' : (s.takeUpNode w n).readApps = u.readApps := by rw [State.takeUpNode_eq, hexplored, htaken]
  have hnodes' : (s.takeUpNode w n).readNodes = w.readNodes ++ nodes := by rw [State.takeUpNode_eq, hexplored, htaken]
  have htaken' : (s.takeUpNode w n).takenUp = w.takenUp ++ [n] := by rw [State.takeUpNode_eq, hexplored, htaken]
  refine ⟨s.takeUpNode w n, exec_passTakeUp hr hw hn, ?_, htaken', fun d hd hat => ?_, fun d hd hat hunread => ?_, ?_, ?_,
    ?_, fun hnodup => ?_⟩
  · rw [State.takeUpNode_eq, hexplored, htaken]
  · rw [happs']
    exact happs.all d (State.mem_appsAt.2 ⟨hd, hat⟩)
  · rw [happs']
    exact happs.present (State.mem_appsAt.2 ⟨hd, hat⟩) hunread
  · exact ⟨nodes, hnodes', hread, hnone⟩
  · obtain ⟨more, hmore, hnew⟩ := happs.grown
    refine ⟨more, happs'.trans hmore, fun r hmem => ?_⟩
    obtain ⟨hpos, hstale, hunread, d, hd, hnum⟩ := hnew r hmem
    obtain ⟨hdesc, hat⟩ := State.mem_appsAt.1 hd
    exact ⟨hpos, hstale, hunread, d, hdesc, hnum, hat⟩
  · refine ⟨drafted', ?_⟩
    rw [State.takeUpNode_eq, hexplored, htaken]
  · have hreached : (s.nodeTaken w n).reached = u.reached := by rw [htaken]
    have htakenUp : (s.nodeTaken w n).takenUp = (s.takeUpNode w n).takenUp := by rw [htaken, htaken']
    have hdraft : (s.nodeTaken w n).draft = w.draft := by rw [htaken]
    obtain ⟨more, hmore⟩ := happs.joined
    refine ⟨u.reached, more, hmore, fun m => ?_, fun hopen => ?_, fun hdone => ⟨?_, ?_⟩⟩
    · have hsub : ((s.appsAt n).map AppDesc.number).Nodup := hnodup.sublist (List.filter_sublist.map _)
      rw [happs.component hsub]
      refine or_congr_right (exists_congr fun d => ?_)
      rw [State.mem_appsAt]
      constructor
      · rintro ⟨⟨hd, hat⟩, hfar, hrest⟩
        exact ⟨hd, (AppDesc.otherEnd_iff hat).1 hfar, hrest⟩
      · rintro ⟨hd, hfar, hrest⟩
        have hat : d.a = n ∨ d.b = n := hfar.imp (·.1) (·.2.1)
        exact ⟨⟨hd, hat⟩, (AppDesc.otherEnd_iff hat).2 hfar, hrest⟩
    · rw [← htakenUp, ← hreached] at hopen
      rw [State.takeUpNode_eq, State.explored_open hopen]
      exact ⟨hreached, hdraft⟩
    · rw [← htakenUp, ← hreached] at hdone
      have hv : s.takeUpNode w n = _ := (s.takeUpNode_eq w n).trans (State.explored_done hdone)
      refine ⟨(s.nodeTaken w n).reached.map (fun m => (m, s.draftEntry (s.nodeTaken w n) m)), ?_, ?_,
        fun hclosed x hx => ?_⟩
      · rw [hv, hdraft]
      · rw [List.map_map, hreached]
        exact List.map_id' _
      · obtain ⟨m, hm, rfl⟩ := List.mem_map.1 hx
        have hsame : (s.takeUpNode w n).readApps = (s.nodeTaken w n).readApps := by rw [hv]
        have hc : ClosedUnder (· ∈ (s.nodeTaken w n).reached) (s.sureEdges (s.nodeTaken w n)) := by
          intro e he
          obtain ⟨r, hr, hp, d, hd, rfl⟩ := State.mem_sureEdges.1 he
          rw [hreached]
          exact hclosed r (hsame ▸ hr) hp d hd
        have h := (State.draftEntry_draftedAs hc hm).congr (v := s.takeUpNode w n) hsame (by rw [hv])
        rwa [hreached] at h
    · rw [← htakenUp, ← hreached] at hdone
      rw [← htakenUp, State.takeUpNode_eq, State.explored_done hdone]
      exact s.nextComponent_eq _

end Sys2Proof.Machine
end

section
/-! A publication and its hand-on (R43 to R45), and what they leave of the image. -/

namespace Sys2Proof.Machine

/-! ### The markers that a publication clears (R44) -/

theorem State.clears_apparatus (s : State) (w : Pass) (a : Nat) : s.clears w (.apparatus a) = true ↔
    (∃ x ∈ w.readApps, x.number = a ∧ x.stale = false) ∧ s.heldFor (.apparatus a) = none := by
  simp [State.clears]

theorem State.clears_node (s : State) (w : Pass) (n : Nat) : s.clears w (.node n) = true ↔
    (∃ x ∈ w.readNodes, x.number = n ∧ x.stale = false) ∧ s.heldFor (.node n) = none := by
  simp [State.clears]

/-- R44: an apparatus record after a publication. -/
def State.appPublished (s : State) (w : Pass) (r : AppLive) : AppLive :=
  if s.clears w (.apparatus r.number) then { r with marker := false } else r

/-- R44: a node record after a publication. -/
def State.nodePublished (s : State) (w : Pass) (r : NodeLive) : NodeLive :=
  if s.clears w (.node r.number) then { r with marker := false } else r

section
variable (s : State) (w : Pass)

@[simp] theorem State.publish_apps : (s.publish w).apps = s.apps.map (s.appPublished w) := rfl
@[simp] theorem State.publish_nodes : (s.publish w).nodes = s.nodes.map (s.nodePublished w) := rfl

variable {s w} in
theorem State.publish_calm (h : s.calm) : (s.publish w).calm := h

theorem State.appPublished_cleared {r : AppLive} (h : s.clears w (.apparatus r.number) = true) :
    s.appPublished w r = { r with marker := false } := if_pos h

theorem State.appPublished_kept {r : AppLive} (h : ¬ s.clears w (.apparatus r.number) = true) :
    s.appPublished w r = r := if_neg h

theorem State.nodePublished_cleared {r : NodeLive} (h : s.clears w (.node r.number) = true) :
    s.nodePublished w r = { r with marker := false } := if_pos h

theorem State.nodePublished_kept {r : NodeLive} (h : ¬ s.clears w (.node r.number) = true) :
    s.nodePublished w r = r := if_neg h

/-- A publication changes the marker of an apparatus record alone. -/
theorem State.appPublished_map {β : Type} (f : AppLive → β) (hf : ∀ r m, f { r with marker := m } = f r) (r : AppLive) :
    f (s.appPublished w r) = f r := by
  by_cases h : s.clears w (.apparatus r.number) = true
  · rw [State.appPublished_cleared s w h, hf]
  · rw [State.appPublished_kept s w h]

theorem State.nodePublished_map {β : Type} (f : NodeLive → β) (hf : ∀ r m, f { r with marker := m } = f r) (r : NodeLive) :
    f (s.nodePublished w r) = f r := by
  by_cases h : s.clears w (.node r.number) = true
  · rw [State.nodePublished_cleared s w h, hf]
  · rw [State.nodePublished_kept s w h]

theorem State.publish_app (a : Nat) : (s.publish w).app a = (s.app a).map (s.appPublished w) := by
  have hkey : ((fun r : AppLive => r.number == a) ∘ s.appPublished w) = fun r => r.number == a :=
    funext fun r => congrArg (· == a) (s.appPublished_map w AppLive.number (fun _ _ => rfl) r)
  unfold State.app
  rw [State.publish_apps, List.find?_map, hkey]

theorem State.publish_node (n : Nat) : (s.publish w).node n = (s.node n).map (s.nodePublished w) := by
  have hkey : ((fun r : NodeLive => r.number == n) ∘ s.nodePublished w) = fun r => r.number == n :=
    funext fun r => congrArg (· == n) (s.nodePublished_map w NodeLive.number (fun _ _ => rfl) r)
  unfold State.node
  rw [State.publish_nodes, List.find?_map, hkey]

end

/-! ### The hand-on (R45) and the start of the next pass (R43) -/

/-- R180: the end of gathering changes the mode, its timer and its mark, and sends notices. -/
theorem State.endGathering_within (s : State) : State.Within
    { s with gatheringTimer := none, freezeCarried := false, mode := if s.freezeCarried then .frozen else .service }
    s.endGathering := by
  unfold State.endGathering State.changeMode
  exact State.broadcast_within _ _

/-- What tasks leave, whatever stands in the fields of gathering. -/
theorem State.Within.gathering {s t : State} (h : s.Within t) (g : Option Time) (f : Bool) (m : Mode) : State.Within
    { s with gatheringTimer := g, freezeCarried := f, mode := m } { t with gatheringTimer := g, freezeCarried := f, mode := m }
    where
  outer := congrArg (fun x : State => { x with gatheringTimer := g, freezeCarried := f }) h.outer
  apps := h.apps
  ports := h.ports
  transmit := h.transmit
  mode := .inl rfl

/-- R45, R180: beyond the end of gathering, a hand-on does no more than tasks can. -/
theorem State.handOn_within (s : State) (known : Bool) (completing : List Nat) : ∃ g f m,
    State.Within { s with gatheringTimer := g, freezeCarried := f, mode := m } (s.handOn known completing) := by
  have hrun := s.run_within (.reoffer :: completing.map (fun t => .retire t .completed))
  unfold State.handOn
  generalize s.run (.reoffer :: completing.map (fun t => .retire t .completed)) = u at hrun
  simp only
  split
  · exact ⟨_, _, _, (hrun.gathering _ _ _).trans u.endGathering_within⟩
  · exact ⟨_, _, _, hrun⟩

theorem State.startIfMarked_eq (s : State) : s.startIfMarked =
    { s with pass := if s.apps.any AppLive.marker || s.nodes.any NodeLive.marker then some (freshPass false) else s.pass } := by
  unfold State.startIfMarked State.anyMarker
  split <;> rfl

/-- The image and the topology unit in `t`, after pass `w` has published in `s` (R43, R44). -/
structure State.PublishedIn (s t : State) (w : Pass) : Prop where
  published : t.published = w.result
  count : t.publicationCount = s.publicationCount + 1
  spoils : t.spoils = 0
  pass : t.pass = none
  held : t.held = s.held
  substs : t.substs = s.substs
  force : t.force = s.force
  nodes : t.nodes = s.nodes.map (s.nodePublished w)
  apps : t.apps.map AppLive.outer = s.apps.map (fun r => (s.appPublished w r).outer)
  portState : ∀ p, (t.port p).state = (s.port p).state

theorem State.publishAndHandOn_publishedIn (s : State) (w : Pass) : s.PublishedIn (s.publishAndHandOn w) w := by
  obtain ⟨g, f, m, h⟩ := (s.publish w).handOn_within (s.known w) (s.completing w)
  exact ⟨h.published, h.publicationCount, h.spoils, h.pass, h.held, h.substs, h.force, h.nodes,
    h.apps.trans List.map_map, fun p => by have e := congrArg Port.state (h.port p); exact e⟩

namespace State.PublishedIn

variable {s t : State} {w : Pass}

theorem app (h : s.PublishedIn t w) (a : Nat) :
    (t.app a).map AppLive.outer = (s.app a).map (fun r => (s.appPublished w r).outer) := by
  have hfind : ∀ l : List AppLive, (l.find? (fun r => r.number == a)).map AppLive.outer =
      (l.map AppLive.outer).find? (fun r => r.number == a) := by
    intro l
    rw [List.find?_map]
    rfl
  have hpub := congrArg (Option.map AppLive.outer) (s.publish_app w a)
  rw [Option.map_map] at hpub
  refine Eq.trans ?_ hpub
  unfold State.app
  rw [hfind, hfind, h.apps, State.publish_apps, List.map_map]
  rfl

theorem node (h : s.PublishedIn t w) (n : Nat) : t.node n = (s.node n).map (s.nodePublished w) := by
  rw [← s.publish_node w n]
  unfold State.node
  rw [h.nodes, State.publish_nodes]

theorem subst (h : s.PublishedIn t w) (i : RecordId) : t.subst i = s.subst i := by
  unfold State.subst
  rw [h.substs]

theorem appDesc (h : s.PublishedIn t w) (a : Nat) : t.appDesc a = s.appDesc a := by
  unfold State.appDesc
  rw [h.force]

theorem reporterActive (h : s.PublishedIn t w) (d : AppDesc) : t.reporterActive d = s.reporterActive d := by
  unfold State.reporterActive
  rw [h.portState]

theorem appInputs (h : s.PublishedIn t w) : t.apps.map AppLive.inputs = s.apps.map AppLive.inputs := by
  have e := congrArg (List.map AppLive.inputs) h.apps
  rw [List.map_map, List.map_map] at e
  refine e.trans (List.map_congr_left fun r _ => ?_)
  exact s.appPublished_map w AppLive.inputs (fun _ _ => rfl) r

/-- R44: the record that stands for one of `s` after the publication. -/
theorem app_mem (h : s.PublishedIn t w) {r : AppLive} (hr : r ∈ s.apps) :
    ∃ x ∈ t.apps, x.number = r.number ∧ x.marker = (s.appPublished w r).marker := by
  have hmem : (s.appPublished w r).outer ∈ t.apps.map AppLive.outer := by
    rw [h.apps]
    exact List.mem_map.2 ⟨r, hr, rfl⟩
  obtain ⟨x, hx, ho⟩ := List.mem_map.1 hmem
  obtain ⟨hnum, -, -, -, -, -, -, hmark⟩ := AppLive.of_outer ho
  exact ⟨x, hx, hnum.trans (s.appPublished_map w AppLive.number (fun _ _ => rfl) r), hmark⟩

end State.PublishedIn

/-! ### The commands (R43, R46) -/

section
variable {s : State} {w : Pass} (hr : s.heldInReset = false) (hw : s.pass = some w) (hn : w.next = none)
include hr hw hn

theorem exec_publication (hh : w.held = false) :
    exec .publication s = .next (s.publishAndHandOn w).startIfMarked := by
  have h : exec .publication s = .next (s.whenRunning State.ordinaryPublication) := rfl
  rw [h, s.whenRunning_running _ hr]
  simp only [State.ordinaryPublication, hw, hh, Pass.complete, hn, Option.isNone_none, Bool.not_false, Bool.and_self,
    if_true]

theorem exec_endOfHeldPass (hh : w.held = true) : exec .endOfHeldPass s =
    .next (s.held.foldl State.applyHeld (s.publishAndHandOn w)).startIfMarked := by
  have h : exec .endOfHeldPass s = .next (s.whenRunning State.heldPassEnd) := rfl
  rw [h, s.whenRunning_running _ hr]
  simp only [State.heldPassEnd, hw, hh, Pass.complete, hn, Option.isNone_none, Bool.and_self, if_true,
    (s.publishAndHandOn_publishedIn w).held]

/-- A publication whose hand-on is its whole effect: that of an ordinary pass, or of a held pass with its queue empty. -/
theorem exec_publishes {c : Instr} (hc : (c = .publication ∧ w.held = false) ∨
    (c = .endOfHeldPass ∧ w.held = true ∧ s.held = [])) : exec c s = .next (s.publishAndHandOn w).startIfMarked := by
  rcases hc with ⟨rfl, hh⟩ | ⟨rfl, hh, hempty⟩
  · exact exec_publication hr hw hn hh
  · rw [exec_endOfHeldPass hr hw hn hh, hempty, List.foldl_nil]

end

/-- R43: what every publication leaves of the topology unit, with the pass that may start after it. -/
def State.Publishes (s t : State) (w : Pass) : Prop :=
  t.published = w.result ∧ t.publicationCount = s.publicationCount + 1 ∧ t.spoils = 0 ∧
  t.pass = if t.apps.any AppLive.marker || t.nodes.any NodeLive.marker then some (freshPass false) else none

theorem State.startIfMarked_publishes {s u : State} {w : Pass} (hp : u.published = w.result)
    (hc : u.publicationCount = s.publicationCount + 1) (hs : u.spoils = 0) (hn : u.pass = none) :
    s.Publishes u.startIfMarked w := by
  rw [State.startIfMarked_eq, hn]
  exact ⟨hp, hc, hs, rfl⟩

/-- R43, R44: the publication of an ordinary pass. -/
theorem ordinary_publication {s : State} {w : Pass} (hr : s.heldInReset = false) (hw : s.pass = some w)
    (hn : w.next = none) (hh : w.held = false) :
    ∃ t, exec .publication s = .next t ∧ s.Publishes t w ∧ t.held = s.held ∧
      t.apps.map AppLive.inputs = s.apps.map AppLive.inputs ∧ t.nodes = s.nodes.map (s.nodePublished w) ∧
      ∀ r ∈ s.apps, ∃ x ∈ t.apps, x.number = r.number ∧ x.marker = (s.appPublished w r).marker := by
  have h := s.publishAndHandOn_publishedIn w
  refine ⟨_, exec_publication hr hw hn hh, State.startIfMarked_publishes h.published h.count h.spoils h.pass, ?_⟩
  rw [State.startIfMarked_eq]
  exact ⟨h.held, h.appInputs, h.nodes, fun r hr => h.app_mem hr⟩

end Sys2Proof.Machine
end

section
/-! The end of a held pass (R46): the held entries applied, one after the other. -/

namespace Sys2Proof.Machine

/-! ### An image change that wakes no pass (R46, step 2) -/

theorem State.topologySees_asleep {s : State} (i : RecordId) (h : s.pass = none) : s.topologySees false i = s := by
  simp only [State.topologySees, h, Bool.false_and, Bool.false_eq_true, if_false]

/-- R3, R5, R13: an apparatus record with new inputs, its marker set where its effective position has changed. -/
def AppLive.rewritten (rep : Pos) (sub : Option Target) (eff before : Pos) (x : AppLive) : AppLive :=
  { x with reported := rep, substituted := sub, effective := eff, marker := x.marker || eff != before }

/-- R4, R6, R13: a node record with new inputs, its marker set where its effective class has changed. -/
def NodeLive.rewritten (cls : Cls) (sub : Option Cand) (eff before : Cls) (x : NodeLive) : NodeLive :=
  { x with cls := cls, substituted := sub, effective := eff, marker := x.marker || eff != before }

theorem AppLive.rewritten_same (rep : Pos) (sub : Option Target) (eff : Pos) :
    AppLive.rewritten rep sub eff eff = fun x => { x with reported := rep, substituted := sub, effective := eff } := by
  funext x
  simp only [AppLive.rewritten, bne_self_eq_false, Bool.or_false]

theorem AppLive.rewritten_changed (rep : Pos) (sub : Option Target) {eff before : Pos} (h : eff ≠ before) :
    AppLive.rewritten rep sub eff before =
      fun x => { x with reported := rep, substituted := sub, effective := eff, marker := true } := by
  funext x
  simp only [AppLive.rewritten, bne_iff_ne.2 h, Bool.or_true]

theorem NodeLive.rewritten_same (cls : Cls) (sub : Option Cand) (eff : Cls) :
    NodeLive.rewritten cls sub eff eff = fun x => { x with cls := cls, substituted := sub, effective := eff } := by
  funext x
  simp only [NodeLive.rewritten, bne_self_eq_false, Bool.or_false]

theorem NodeLive.rewritten_changed (cls : Cls) (sub : Option Cand) {eff before : Cls} (h : eff ≠ before) :
    NodeLive.rewritten cls sub eff before =
      fun x => { x with cls := cls, substituted := sub, effective := eff, marker := true } := by
  funext x
  simp only [NodeLive.rewritten, bne_iff_ne.2 h, Bool.or_true]

theorem map_if_map_if {α : Type} (key : α → Nat) (a : Nat) (f g : α → α) (hf : ∀ x, key (f x) = key x) (l : List α) :
    (l.map (fun x => if key x = a then f x else x)).map (fun x => if key x = a then g x else x) =
      l.map (fun x => if key x = a then g (f x) else x) := by
  rw [List.map_map]
  refine List.map_congr_left fun x _ => ?_
  by_cases hx : key x = a
  · simp only [Function.comp, if_pos hx, if_pos ((hf x).trans hx)]
  · simp only [Function.comp, if_neg hx]

/-- Two updates of one apparatus record are one. -/
theorem State.modApp_modApp (s : State) (a : Nat) (f g : AppLive → AppLive) (hf : ∀ r, (f r).number = r.number) :
    (s.modApp a f).modApp a g = s.modApp a (fun r => g (f r)) :=
  congrArg (fun l => ({ s with apps := l } : State)) (map_if_map_if AppLive.number a f g hf s.apps)

/-- Two updates of one node record are one. -/
theorem State.modNode_modNode (s : State) (n : Nat) (f g : NodeLive → NodeLive) (hf : ∀ r, (f r).number = r.number) :
    (s.modNode n f).modNode n g = s.modNode n (fun r => g (f r)) :=
  congrArg (fun l => ({ s with nodes := l } : State)) (map_if_map_if NodeLive.number n f g hf s.nodes)

section
variable {s : State} (hp : s.pass = none)
include hp

theorem State.appChanged_asleep_within (src : Source) (a : Nat) (x y : Pos) :
    (s.setMarker (.apparatus a)).Within (s.appChanged false src a x y) := by
  have h := State.evaluatorSees_within (s.setMarker (.apparatus a)) (.apparatus a)
  unfold State.appChanged
  rw [State.topologySees_asleep (s := s.setMarker (.apparatus a)) _ hp]
  cases s.entryOf a with
  | none =>
    simp only
    split
    · exact h.trans (State.run_within _ _)
    · exact h
  | some e =>
    simp only
    split
    · exact (h.trans (State.supervise_within _ _ _ _)).trans (State.run_within _ _)
    · exact h.trans (State.supervise_within _ _ _ _)

theorem State.nodeChanged_asleep_within (n : Nat) : (s.setMarker (.node n)).Within (s.nodeChanged false n) := by
  unfold State.nodeChanged
  rw [State.topologySees_asleep (s := s.setMarker (.node n)) _ hp]
  exact State.evaluatorSees_within _ _

/-- R3, R5, R13: new inputs are written, a change is marked, and beyond that no more is done than tasks can do. -/
theorem State.setAppInputs_asleep_within {d : AppDesc} {r : AppLive} (src : Source) (rep : Pos) (sub : Option Target)
    {eff : Pos} (hr : s.app d.number = some r) (heff : effectivePosition sub (s.reporterActive d) rep = eff) :
    (s.modApp d.number (AppLive.rewritten rep sub eff r.effective)).Within (s.setAppInputs false src d rep sub) := by
  by_cases he : eff = r.effective
  · rw [State.setAppInputs_same false src rep sub hr (heff.trans he), he, AppLive.rewritten_same]
    exact State.Within.refl _
  · have hmark : (s.appWritten d.number rep sub eff).setMarker (.apparatus d.number) =
        s.modApp d.number (AppLive.rewritten rep sub eff r.effective) := by
      rw [AppLive.rewritten_changed rep sub he]
      exact State.modApp_modApp _ _ _ _ (by exact fun _ => rfl)
    rw [State.setAppInputs_changed false src rep sub hr (by rw [heff]; exact he), heff, ← hmark]
    exact State.appChanged_asleep_within (s := s.appWritten d.number rep sub eff) hp _ _ _ _

theorem State.setNodeInputs_asleep_within {r : NodeLive} (n : Nat) (cls : Cls) (sub : Option Cand)
    (hr : s.node n = some r) :
    (s.modNode n (NodeLive.rewritten cls sub (effectiveClass sub cls) r.effective)).Within
      (s.setNodeInputs false n cls sub) := by
  by_cases he : effectiveClass sub cls = r.effective
  · rw [State.setNodeInputs_same false n cls sub hr he, he, NodeLive.rewritten_same]
    exact State.Within.refl _
  · have hmark : (s.nodeWritten n cls sub (effectiveClass sub cls)).setMarker (.node n) =
        s.modNode n (NodeLive.rewritten cls sub (effectiveClass sub cls) r.effective) := by
      rw [NodeLive.rewritten_changed cls sub he]
      exact State.modNode_modNode _ _ _ _ (by exact fun _ => rfl)
    have hset : s.setNodeInputs false n cls sub = (s.nodeWritten n cls sub (effectiveClass sub cls)).nodeChanged false n := by
      simp only [State.setNodeInputs, hr, if_neg he]
      rfl
    rw [hset, ← hmark]
    exact State.nodeChanged_asleep_within (s := s.nodeWritten n cls sub (effectiveClass sub cls)) hp n

end

/-! ### The substitution table beyond a target -/

theorem find?_map_target {j i : RecordId} (h : j ≠ i) (f : Subst → Subst) (hf : ∀ y, (f y).target = y.target)
    (l : List Subst) : (l.map (fun y => if y.target = i then f y else y)).find? (fun y => y.target == j) =
      l.find? (fun y => y.target == j) := by
  induction l with
  | nil => rfl
  | cons y l ih =>
    rw [List.map_cons, List.find?_cons, List.find?_cons, ih]
    by_cases hy : y.target = i
    · have hne : (i == j) = false := by simpa using Ne.symm h
      rw [if_pos hy, hf, hy, hne]
    · rw [if_neg hy]

/-- The table keeps the substitutions of other targets. -/
theorem State.subst_setSubst_ne (s : State) {i j : RecordId} (x : Option (SubstValue × Nat)) (h : j ≠ i) :
    (s.setSubst i x).subst j = s.subst j := by
  unfold State.setSubst
  cases x with
  | none =>
    simp only [State.subst, List.find?_filter]
    refine congrArg (fun q => s.substs.find? q) (funext fun y => ?_)
    by_cases hy : y.target = j
    · simp [hy, h]
    · simp [hy]
  | some vp =>
    simp only
    split
    · exact find?_map_target h (fun y => { y with value := vp.1, port := vp.2 }) (fun _ => rfl) s.substs
    · have hne : (i == j) = false := by simpa using Ne.symm h
      simp [State.subst, List.find?_append, hne]

theorem State.subst_setSubst_map {α : Type} (s : State) (i : RecordId) (x : Option α) (f : α → SubstValue) (p : Nat) :
    (s.setSubst i (x.map (fun y => (f y, p)))).subst i = x.map (fun y => { target := i, value := f y, port := p }) := by
  cases x with
  | none => exact s.subst_setSubst_none i
  | some y => exact s.subst_setSubst_some i (f y) p

/-! ### One target, kept or written -/

/-- The record and the substitution of a target are as they were, but for what tasks may change of a record. -/
def State.SameRecord (s t : State) (i : RecordId) : Prop :=
  t.subst i = s.subst i ∧ match i with
    | .apparatus a => (t.app a).map AppLive.outer = (s.app a).map AppLive.outer
    | .node n => t.node n = s.node n

theorem State.SameRecord.trans {s t u : State} {i : RecordId} (h1 : s.SameRecord t i) (h2 : t.SameRecord u i) :
    s.SameRecord u i := by
  cases i with
  | apparatus a => exact ⟨h2.1.trans h1.1, h2.2.trans h1.2⟩
  | node n => exact ⟨h2.1.trans h1.1, h2.2.trans h1.2⟩

theorem State.Within.sameRecord {s t : State} (h : s.Within t) (i : RecordId) : s.SameRecord t i := by
  cases i with
  | apparatus a => exact ⟨h.subst _, h.app a⟩
  | node n => exact ⟨h.subst _, h.node n⟩

/-- R46: the copy of an apparatus's inputs stands in the record and in the substitution table. -/
def State.AppApplied (s t : State) (a : Nat) (rep : Pos) (sub : Option Target) (port : Nat) : Prop :=
  ∀ d r, s.appDesc a = some d → s.app a = some r → ∃ x, t.app a = some x ∧ x.reported = rep ∧ x.substituted = sub ∧
    x.effective = effectivePosition sub (s.reporterActive d) rep ∧ (x.effective ≠ r.effective → x.marker = true) ∧
    t.subst (.apparatus a) = sub.map (fun g => { target := .apparatus a, value := .position g, port := port })

/-- R46: the copy of a node's inputs stands in the record and in the substitution table, and its samples are kept. -/
def State.NodeApplied (s t : State) (n : Nat) (cls : Cls) (sub : Option Cand) (port : Nat) : Prop :=
  ∀ r, s.node n = some r → ∃ x, t.node n = some x ∧ x.cls = cls ∧ x.substituted = sub ∧
    x.effective = effectiveClass sub cls ∧
    x.lastCandidate = r.lastCandidate ∧ x.counter = r.counter ∧ x.lastSample = r.lastSample ∧
    (x.effective ≠ r.effective → x.marker = true) ∧
    t.subst (.node n) = sub.map (fun c => { target := .node n, value := .cls c, port := port })

section
variable {s t u : State}

/-- What comes after leaves the target as it was written. -/
theorem State.AppApplied.trans_same {a : Nat} {rep : Pos} {sub : Option Target} {port : Nat}
    (h1 : s.AppApplied t a rep sub port) (h2 : t.SameRecord u (.apparatus a)) : s.AppApplied u a rep sub port := by
  intro d r hd hr
  obtain ⟨x, hx, hrep, hsub, heff, hmark, hsubst⟩ := h1 d r hd hr
  have happ : (u.app a).map AppLive.outer = (t.app a).map AppLive.outer := h2.2
  rw [hx] at happ
  obtain ⟨y, hy, ho⟩ := Option.map_eq_some_iff.1 happ
  obtain ⟨-, yrep, ysub, yeff, -, -, -, ymark⟩ := AppLive.of_outer ho
  exact ⟨y, hy, yrep.trans hrep, ysub.trans hsub, yeff.trans heff, fun hne => ymark.trans (hmark (yeff ▸ hne)),
    h2.1.trans hsubst⟩

theorem State.NodeApplied.trans_same {n : Nat} {cls : Cls} {sub : Option Cand} {port : Nat}
    (h1 : s.NodeApplied t n cls sub port) (h2 : t.SameRecord u (.node n)) : s.NodeApplied u n cls sub port := by
  intro r hr
  obtain ⟨x, hx, hcls, hsub, heff, hcand, hcount, hsample, hmark, hsubst⟩ := h1 r hr
  exact ⟨x, h2.2.trans hx, hcls, hsub, heff, hcand, hcount, hsample, hmark, h2.1.trans hsubst⟩

/-- What comes before leaves what the writing starts from: the record's effective position, and the state of ports. -/
theorem State.AppApplied.of_before {a : Nat} {rep : Pos} {sub : Option Target} {port : Nat}
    (hd : t.appDesc a = s.appDesc a) (hact : ∀ d, t.reporterActive d = s.reporterActive d)
    (heff : (t.app a).map AppLive.effective = (s.app a).map AppLive.effective) (h : t.AppApplied u a rep sub port) :
    s.AppApplied u a rep sub port := by
  intro d r hd' hr
  rw [hr] at heff
  obtain ⟨y, hy, he⟩ := Option.map_eq_some_iff.1 heff
  obtain ⟨x, hx, hrep, hsub, hxeff, hmark, hsubst⟩ := h d y (hd.trans hd') hy
  exact ⟨x, hx, hrep, hsub, by rw [hxeff, hact], fun hne => hmark (he ▸ hne), hsubst⟩

theorem State.NodeApplied.of_before {n : Nat} {cls : Cls} {sub : Option Cand} {port : Nat}
    (hnode : (t.node n).map (fun r => { r with marker := false }) = (s.node n).map (fun r => { r with marker := false }))
    (h : t.NodeApplied u n cls sub port) : s.NodeApplied u n cls sub port := by
  intro r hr
  rw [hr] at hnode
  obtain ⟨y, hy, he⟩ := Option.map_eq_some_iff.1 hnode
  simp only [NodeLive.mk.injEq, and_true] at he
  obtain ⟨-, -, ycand, ycount, ysample, -, yeff⟩ := he
  obtain ⟨x, hx, hcls, hsub, heff, hcand, hcount, hsample, hmark, hsubst⟩ := h y hy
  exact ⟨x, hx, hcls, hsub, heff, hcand.trans ycand, hcount.trans ycount, hsample.trans ysample,
    fun hne => hmark (yeff ▸ hne), hsubst⟩

end

/-! ### Held entries applied from the head (R46) -/

/-- The held entries of `l` have been applied one after the other between `s` and `t`, while no pass runs. -/
structure State.HeldApplied (s t : State) (l : List HeldEntry) : Prop where
  around : s.Around t
  pass : t.pass = none
  spoils : t.spoils = s.spoils
  held : t.held = s.held.drop l.length
  others : ∀ i, (∀ h ∈ l, h.target ≠ i) → s.SameRecord t i
  apparatus : ∀ a rep sub port, { target := .apparatus a, copy := .apparatus rep sub port } ∈ l →
    s.AppApplied t a rep sub port
  node : ∀ n cls sub port, { target := .node n, copy := .node cls sub port } ∈ l → s.NodeApplied t n cls sub port

/-- A held entry leaves its queue. -/
def State.headTaken (s : State) : State := { s with held := s.held.drop 1 }

/-- One held entry applied: its target is written, and beyond that no more is done than tasks can do. -/
theorem State.HeldApplied.single {s u t : State} {h : HeldEntry} (hp : s.pass = none)
    (hu : ∃ A N S, u = { s.headTaken with apps := A, nodes := N, substs := S }) (hw : u.Within t) (haround : s.Around t)
    (others : ∀ i, h.target ≠ i → s.SameRecord u i)
    (happ : ∀ a rep sub port, h = { target := .apparatus a, copy := .apparatus rep sub port } → s.AppApplied u a rep sub port)
    (hnode : ∀ n cls sub port, h = { target := .node n, copy := .node cls sub port } → s.NodeApplied u n cls sub port) :
    s.HeldApplied t [h] := by
  obtain ⟨A, N, S, rfl⟩ := hu
  refine ⟨haround, hw.pass.trans hp, hw.spoils, hw.held, fun i hi => ?_, fun a rep sub port hm => ?_,
    fun n cls sub port hm => ?_⟩
  · exact (others i (hi h (List.mem_singleton_self h))).trans (hw.sameRecord i)
  · exact (happ a rep sub port (List.mem_singleton.1 hm).symm).trans_same (hw.sameRecord _)
  · exact (hnode n cls sub port (List.mem_singleton.1 hm).symm).trans_same (hw.sameRecord _)

section
variable {s : State}

/-- The records and substitutions of other targets, where one target is written. -/
theorem State.sameRecord_of_apparatus (x : Option (SubstValue × Nat)) {a : Nat} (f : AppLive → AppLive)
    (hf : ∀ r, (f r).number = r.number) {i : RecordId} (hi : RecordId.apparatus a ≠ i) :
    s.SameRecord ((s.headTaken.setSubst (.apparatus a) x).modApp a f) i := by
  refine ⟨(s.headTaken.subst_setSubst_ne x hi.symm : _), ?_⟩
  cases i with
  | apparatus b =>
    have hb : ¬ b = a := fun e => hi (e ▸ rfl)
    show Option.map _ (State.app _ b) = _
    rw [State.app_modApp _ _ _ _ hf, State.setSubst_app]
    simp only [if_neg hb, Option.map_id']
    rfl
  | node n => exact s.headTaken.setSubst_node _ _ _

theorem State.sameRecord_of_node (x : Option (SubstValue × Nat)) {n : Nat} (f : NodeLive → NodeLive)
    (hf : ∀ r, (f r).number = r.number) {i : RecordId} (hi : RecordId.node n ≠ i) :
    s.SameRecord ((s.headTaken.setSubst (.node n) x).modNode n f) i := by
  refine ⟨(s.headTaken.subst_setSubst_ne x hi.symm : _), ?_⟩
  cases i with
  | apparatus a => exact congrArg (Option.map AppLive.outer) (s.headTaken.setSubst_app _ _ _)
  | node m =>
    have hm : ¬ m = n := fun e => hi (e ▸ rfl)
    show State.node _ m = _
    rw [State.node_modNode _ _ _ _ hf, State.setSubst_node]
    simp only [if_neg hm, Option.map_id']
    rfl

/-- R14, R46: the entry of a described apparatus, its record there. -/
theorem State.applyHeld_apparatus {rep : Pos} {sub : Option Target} {port : Nat} {d : AppDesc} {r : AppLive}
    (hp : s.pass = none) (hd : s.appDesc d.number = some d) (hr : s.app d.number = some r) :
    s.HeldApplied (s.applyHeld { target := .apparatus d.number, copy := .apparatus rep sub port })
      [{ target := .apparatus d.number, copy := .apparatus rep sub port }] := by
  have haround := s.applyHeld_around { target := .apparatus d.number, copy := .apparatus rep sub port }
  have hd' : s.headTaken.appDesc d.number = some d := hd
  have hr' : s.headTaken.app d.number = some r := hr
  have happly : s.applyHeld { target := .apparatus d.number, copy := .apparatus rep sub port } =
      (s.headTaken.setSubst (.apparatus d.number) (sub.map (fun g => (SubstValue.position g, port)))).setAppInputs false
        (if sub = r.substituted then .report else .substitution) d rep sub := by
    unfold State.headTaken at hd' hr'
    simp only [State.applyHeld, hd', hr', State.setAppSubst_some]
    rfl
  obtain ⟨S, hS⟩ := s.headTaken.setSubst_eq (.apparatus d.number) (sub.map (fun g => (SubstValue.position g, port)))
  have hw := State.setAppInputs_asleep_within
    (s := s.headTaken.setSubst (.apparatus d.number) (sub.map (fun g => (SubstValue.position g, port))))
    (d := d) (r := r) (by rw [hS]; exact hp) (if sub = r.substituted then .report else .substitution) rep sub
    (eff := effectivePosition sub (s.reporterActive d) rep) (by rw [State.setSubst_app]; exact hr)
    (by rw [State.setSubst_reporterActive]; rfl)
  rw [← happly] at hw
  refine State.HeldApplied.single hp ⟨_, _, _, by rw [hS]; rfl⟩ hw haround
    (fun i hi => State.sameRecord_of_apparatus _ _ (by exact fun _ => rfl) hi) (fun a rep' sub' port' he => ?_)
    (fun n cls sub port he => by cases he)
  obtain ⟨ha, hc⟩ := HeldEntry.mk.inj he
  obtain ⟨rfl, rfl, rfl⟩ := HeldCopy.apparatus.inj hc
  obtain rfl := RecordId.apparatus.inj ha
  intro d' r' hdd' hrr'
  obtain rfl := Option.some.inj (hd.symm.trans hdd')
  obtain rfl := Option.some.inj (hr.symm.trans hrr')
  refine ⟨AppLive.rewritten rep sub (effectivePosition sub (s.reporterActive d) rep) r.effective r, ?_, rfl, rfl, rfl, ?_,
    s.headTaken.subst_setSubst_map _ _ _ _⟩
  · rw [State.app_modApp _ _ _ _ (by exact fun _ => rfl), State.setSubst_app, hr', Option.map_some, if_pos rfl]
  · intro hne
    have hne' : effectivePosition sub (s.reporterActive d) rep ≠ r.effective := hne
    rw [AppLive.rewritten_changed rep sub hne']

/-- R14, R46: the entry of a node, its record there. -/
theorem State.applyHeld_node {n : Nat} {cls : Cls} {sub : Option Cand} {port : Nat} {r : NodeLive}
    (hp : s.pass = none) (hr : s.node n = some r) :
    s.HeldApplied (s.applyHeld { target := .node n, copy := .node cls sub port })
      [{ target := .node n, copy := .node cls sub port }] := by
  have haround := s.applyHeld_around { target := .node n, copy := .node cls sub port }
  obtain ⟨S, hS⟩ := s.headTaken.setSubst_eq (.node n) (sub.map (fun c => (SubstValue.cls c, port)))
  have hw : ((s.headTaken.setSubst (.node n) (sub.map (fun c => (SubstValue.cls c, port)))).modNode n
      (NodeLive.rewritten cls sub (effectiveClass sub cls) r.effective)).Within
      (s.applyHeld { target := .node n, copy := .node cls sub port }) :=
    State.setNodeInputs_asleep_within (by rw [hS]; exact hp) n cls sub (by rw [State.setSubst_node]; exact hr)
  refine State.HeldApplied.single hp ⟨_, _, _, by rw [hS]; rfl⟩ hw haround
    (fun i hi => State.sameRecord_of_node _ _ (by exact fun _ => rfl) hi) (fun a rep sub port he => by cases he)
    (fun n' cls' sub' port' he => ?_)
  obtain ⟨ha, hc⟩ := HeldEntry.mk.inj he
  obtain ⟨rfl, rfl, rfl⟩ := HeldCopy.node.inj hc
  obtain rfl := RecordId.node.inj ha
  intro r' hr'
  obtain rfl := Option.some.inj (hr.symm.trans hr')
  refine ⟨NodeLive.rewritten cls sub (effectiveClass sub cls) r.effective r, ?_, rfl, rfl, rfl, rfl, rfl, rfl, ?_,
    s.headTaken.subst_setSubst_map _ _ _ _⟩
  · have hnode : s.headTaken.node n = some r := hr
    rw [State.node_modNode _ _ _ _ (by exact fun _ => rfl), State.setSubst_node, hnode, Option.map_some, if_pos rfl]
  · intro hne
    have hne' : effectiveClass sub cls ≠ r.effective := hne
    rw [NodeLive.rewritten_changed cls sub hne']

/-- R14, R46: an entry with no record to write only leaves its queue. -/
theorem State.HeldApplied.idle {h : HeldEntry} (hp : s.pass = none) (he : s.applyHeld h = s.headTaken)
    (happ : ∀ a rep sub port, h = { target := .apparatus a, copy := .apparatus rep sub port } →
      s.appDesc a = none ∨ s.app a = none)
    (hnode : ∀ n cls sub port, h ≠ { target := .node n, copy := .node cls sub port }) :
    s.HeldApplied (s.applyHeld h) [h] := by
  have haround := s.applyHeld_around h
  rw [he] at haround ⊢
  refine State.HeldApplied.single hp ⟨_, _, _, rfl⟩ (State.Within.refl _) haround (fun i _ => ?_)
    (fun a rep sub port hh d r hd hr => ?_) (fun n cls sub port hh => absurd hh (hnode n cls sub port))
  · cases i <;> exact ⟨rfl, rfl⟩
  · rcases happ a rep sub port hh with hnone | hnone
    · rw [hd] at hnone; cases hnone
    · rw [hr] at hnone; cases hnone

/-- R14, R46: the entry of a node without a record changes the substitution table alone. -/
theorem State.applyHeld_node_missing {n : Nat} {cls : Cls} {sub : Option Cand} {port : Nat} (hp : s.pass = none)
    (hr : s.node n = none) :
    s.HeldApplied (s.applyHeld { target := .node n, copy := .node cls sub port })
      [{ target := .node n, copy := .node cls sub port }] := by
  have haround := s.applyHeld_around { target := .node n, copy := .node cls sub port }
  have hr' : (s.headTaken.setSubst (.node n) (sub.map (fun c => (SubstValue.cls c, port)))).node n = none := by
    rw [State.setSubst_node]; exact hr
  have happly : s.applyHeld { target := .node n, copy := .node cls sub port } =
      s.headTaken.setSubst (.node n) (sub.map (fun c => (SubstValue.cls c, port))) := by
    unfold State.headTaken at hr'
    simp only [State.applyHeld, State.setNodeSubst, State.setNodeInputs, hr', State.headTaken]
  rw [happly] at haround ⊢
  obtain ⟨S, hS⟩ := s.headTaken.setSubst_eq (.node n) (sub.map (fun c => (SubstValue.cls c, port)))
  refine State.HeldApplied.single hp ⟨_, _, _, hS⟩ (State.Within.refl _) haround (fun i hi => ?_)
    (fun a rep sub port he => by cases he) (fun n' cls' sub' port' he r hrr => ?_)
  · refine ⟨(s.headTaken.subst_setSubst_ne _ hi.symm : _), ?_⟩
    cases i with
    | apparatus a => exact congrArg (Option.map AppLive.outer) (s.headTaken.setSubst_app _ _ _)
    | node m => exact s.headTaken.setSubst_node _ _ _
  · obtain rfl := RecordId.node.inj (HeldEntry.mk.inj he).1
    rw [hr] at hrr
    cases hrr

/-- R14, R46: one held entry applied, whatever its target. -/
theorem State.applyHeld_applied (hp : s.pass = none) (h : HeldEntry) : s.HeldApplied (s.applyHeld h) [h] := by
  obtain ⟨target, copy⟩ := h
  cases target with
  | apparatus a =>
    cases copy with
    | node cls sub port =>
      exact State.HeldApplied.idle hp rfl (fun _ _ _ _ he => by cases he) (fun _ _ _ _ he => by cases he)
    | apparatus rep sub port =>
      have missing : s.appDesc a = none ∨ s.app a = none → ∀ b rep' sub' port',
          ({ target := .apparatus a, copy := .apparatus rep sub port } : HeldEntry) =
            { target := .apparatus b, copy := .apparatus rep' sub' port' } → s.appDesc b = none ∨ s.app b = none := by
        intro hnone b rep' sub' port' he
        obtain rfl := RecordId.apparatus.inj (HeldEntry.mk.inj he).1
        exact hnone
      cases hd : s.appDesc a with
      | none =>
        have hd' : State.appDesc { s with held := s.held.drop 1 } a = none := hd
        refine State.HeldApplied.idle hp ?_ (missing (.inl hd)) (fun _ _ _ _ he => by cases he)
        simp only [State.applyHeld, hd', State.headTaken]
      | some d =>
        obtain rfl := State.appDesc_number hd
        cases hr : s.app d.number with
        | none =>
          have hd' : State.appDesc { s with held := s.held.drop 1 } d.number = some d := hd
          have hr' : State.app { s with held := s.held.drop 1 } d.number = none := hr
          refine State.HeldApplied.idle hp ?_ (missing (.inr hr)) (fun _ _ _ _ he => by cases he)
          simp only [State.applyHeld, hd', hr', State.headTaken]
        | some r => exact State.applyHeld_apparatus hp hd hr
  | node n =>
    cases copy with
    | apparatus rep sub port =>
      exact State.HeldApplied.idle hp rfl (fun _ _ _ _ he => by cases he) (fun _ _ _ _ he => by cases he)
    | node cls sub port =>
      cases hr : s.node n with
      | none => exact State.applyHeld_node_missing hp hr
      | some r => exact State.applyHeld_node hp hr

end

/-- What an image change keeps decides what a held entry starts from. -/
theorem State.Around.reporterActive {s t : State} (h : s.Around t) (d : AppDesc) :
    t.reporterActive d = s.reporterActive d := by
  have e := congrArg Port.state (h.port d.port)
  exact congrArg (· == PortState.active) e

theorem State.Around.appDesc {s t : State} (h : s.Around t) (a : Nat) : t.appDesc a = s.appDesc a := by
  unfold State.appDesc
  rw [h.force]

theorem State.SameRecord.effective {s t : State} {a : Nat} (h : s.SameRecord t (.apparatus a)) :
    (t.app a).map AppLive.effective = (s.app a).map AppLive.effective := by
  have happ : (t.app a).map AppLive.outer = (s.app a).map AppLive.outer := h.2
  have e := congrArg (Option.map AppLive.effective) happ
  rwa [Option.map_map, Option.map_map] at e

/-- R46: one held entry and then the others, each of a target of its own. -/
theorem State.HeldApplied.cons {s t u : State} {h : HeldEntry} {l : List HeldEntry} (h1 : s.HeldApplied t [h])
    (h2 : t.HeldApplied u l) (hn : ∀ x ∈ l, x.target ≠ h.target) : s.HeldApplied u (h :: l) where
  around := h1.around.trans h2.around
  pass := h2.pass
  spoils := h2.spoils.trans h1.spoils
  held := by rw [h2.held, h1.held, List.drop_drop, Nat.add_comm]; rfl
  others := fun i hi => (h1.others i (fun x hx => hi x (List.mem_singleton.1 hx ▸ List.mem_cons_self))).trans
    (h2.others i (fun x hx => hi x (List.mem_cons_of_mem _ hx)))
  apparatus := fun a rep sub port hm => by
    rcases List.mem_cons.1 hm with rfl | hm
    · exact (h1.apparatus a rep sub port (List.mem_singleton_self _)).trans_same (h2.others _ hn)
    · have hsame := h1.others (.apparatus a) (fun x hx => List.mem_singleton.1 hx ▸ (hn _ hm).symm)
      exact (h2.apparatus a rep sub port hm).of_before (h1.around.appDesc a) h1.around.reporterActive hsame.effective
  node := fun n cls sub port hm => by
    rcases List.mem_cons.1 hm with rfl | hm
    · exact (h1.node n cls sub port (List.mem_singleton_self _)).trans_same (h2.others _ hn)
    · have hsame : t.node n = s.node n := (h1.others (.node n) (fun x hx => List.mem_singleton.1 hx ▸ (hn _ hm).symm)).2
      exact (h2.node n cls sub port hm).of_before (by rw [hsame])

/-- R46: the held entries of distinct targets, applied from the head. -/
theorem State.foldl_applyHeld {l : List HeldEntry} {s : State} (hp : s.pass = none) (hn : (l.map HeldEntry.target).Nodup) :
    s.HeldApplied (l.foldl State.applyHeld s) l := by
  induction l generalizing s with
  | nil =>
    refine ⟨State.Around.refl s, hp, rfl, rfl, fun i _ => ?_,
      fun _ _ _ _ hm => absurd hm List.not_mem_nil, fun _ _ _ _ hm => absurd hm List.not_mem_nil⟩
    cases i <;> exact ⟨rfl, rfl⟩
  | cons h l ih =>
    rw [List.map_cons, List.nodup_cons] at hn
    have h1 := State.applyHeld_applied hp h
    exact h1.cons (ih h1.pass hn.2) (fun x hx e => hn.1 (e ▸ List.mem_map_of_mem hx))

/-! ### The end of a held pass -/

theorem State.heldFor_eq_none {s : State} {i : RecordId} : s.heldFor i = none ↔ ∀ h ∈ s.held, h.target ≠ i := by
  simp [State.heldFor]

/-- R43 to R46: the publication of a held pass, the held entries applied, and what is left of the other targets. -/
theorem held_publication {s : State} {w : Pass} (hr : s.heldInReset = false) (hw : s.pass = some w)
    (hn : w.next = none) (hh : w.held = true) (hd : (s.held.map HeldEntry.target).Nodup) :
    ∃ t, exec .endOfHeldPass s = .next t ∧ s.Publishes t w ∧ t.held = [] ∧
      (∀ a rep sub port, { target := .apparatus a, copy := .apparatus rep sub port } ∈ s.held →
        s.AppApplied t a rep sub port) ∧
      (∀ n cls sub port, { target := .node n, copy := .node cls sub port } ∈ s.held → s.NodeApplied t n cls sub port) ∧
      (∀ a, s.heldFor (.apparatus a) = none →
        (t.app a).map AppLive.outer = (s.app a).map (fun r => (s.appPublished w r).outer) ∧
        t.subst (.apparatus a) = s.subst (.apparatus a)) ∧
      (∀ n, s.heldFor (.node n) = none →
        t.node n = (s.node n).map (s.nodePublished w) ∧ t.subst (.node n) = s.subst (.node n)) := by
  have hpub := s.publishAndHandOn_publishedIn w
  have happ := State.foldl_applyHeld hpub.pass hd
  refine ⟨_, exec_endOfHeldPass hr hw hn hh, State.startIfMarked_publishes (happ.around.published.trans hpub.published)
    (happ.around.publicationCount.trans hpub.count) (happ.spoils.trans hpub.spoils) happ.pass, ?_⟩
  rw [State.startIfMarked_eq]
  refine ⟨?_, fun a rep sub port hm => ?_, fun n cls sub port hm => ?_, fun a ha => ?_, fun n hn => ?_⟩
  · exact happ.held.trans (by rw [hpub.held, List.drop_length])
  · have heff := congrArg (Option.map AppLive.effective) (hpub.app a)
    rw [Option.map_map, Option.map_map] at heff
    refine (happ.apparatus a rep sub port hm).of_before (hpub.appDesc a) hpub.reporterActive (heff.trans ?_)
    exact Option.map_congr fun r _ => s.appPublished_map w AppLive.effective (fun _ _ => rfl) r
  · refine (happ.node n cls sub port hm).of_before ?_
    rw [hpub.node n, Option.map_map]
    exact Option.map_congr fun r _ => s.nodePublished_map w (fun r => { r with marker := false }) (fun _ _ => rfl) r
  · obtain ⟨hsubst, hsame⟩ := happ.others (.apparatus a) (State.heldFor_eq_none.1 ha)
    exact ⟨hsame.trans (hpub.app a), hsubst.trans (hpub.subst _)⟩
  · obtain ⟨hsubst, hsame⟩ := happ.others (.node n) (State.heldFor_eq_none.1 hn)
    exact ⟨hsame.trans (hpub.node n), hsubst.trans (hpub.subst _)⟩

end Sys2Proof.Machine
end

section
/-! What a publication brings about (R45): the re-offer, the entries that complete, and the end of gathering. -/

namespace Sys2Proof.Machine

/-! ### Runs of as many tasks as there are entries -/

theorem taskBound_ge_entries (s : State) (ts : List Task) : 32 * (s.entries.length + ts.length + 1) ≤ taskBound s ts := by
  unfold taskBound
  simp only
  generalize hc : s.entries.length + (s.programmes.map (fun p => p.steps.length + 1)).sum + ts.length + 1 = c
  have h1 : 1 ≤ c := by omega
  calc 32 * (s.entries.length + ts.length + 1) ≤ 32 * c := Nat.mul_le_mul_left 32 (by omega)
    _ = 32 * c * 1 := (Nat.mul_one _).symm
    _ ≤ 32 * c * c := Nat.mul_le_mul_left _ h1

/-- A run of tasks that are worked off within a bound that grows with the table and with the tasks. -/
theorem State.WorksOff.run_entries {s u : State} {ts : List Task} {k : Nat} (h : s.WorksOff ts k u)
    (hk : k ≤ 32 * (s.entries.length + ts.length + 1)) : s.run ts = u := by
  obtain ⟨j, hj, h⟩ := h
  obtain ⟨n, hn⟩ := Nat.exists_eq_add_of_le' (show j ≤ taskBound s ts by have := taskBound_ge_entries s ts; omega)
  have := h n []
  rw [List.append_nil, ← hn, runTasks_nil] at this
  exact this

/-! ### The re-offer (R86) -/

/-- R86: the entries of some tickets have become QUEUED. -/
def State.requeued (s : State) (ts : List Nat) : State :=
  { s with entries := s.entries.map (fun e => if e.ticket ∈ ts then { e with state := .queued } else e) }

theorem State.modEntry_requeued (s : State) (t : Nat) (ts : List Nat) :
    (s.modEntry t (fun e => { e with state := .queued })).requeued ts = s.requeued (t :: ts) := by
  have h : ∀ e : Entry, (if (if e.ticket = t then { e with state := .queued } else e).ticket ∈ ts
      then { (if e.ticket = t then { e with state := .queued } else e) with state := .queued }
      else (if e.ticket = t then { e with state := .queued } else e)) =
      if e.ticket ∈ t :: ts then { e with state := .queued } else e := by
    intro e
    by_cases ht : e.ticket = t <;> simp [ht]
  simp only [State.requeued, State.modEntry, List.map_map, Function.comp_def, h]

/-- R86: DEFERRED entries of ports that are not muted return to QUEUED, outside a freeze. -/
theorem State.worksOff_requeue {ts : List Nat} {s : State} (hm : s.mode.isFreeze = false) (hn : ts.Nodup)
    (h : ∀ t ∈ ts, ∃ e, s.entry t = some e ∧ e.state = .deferred ∧ s.muted e.owner = false) :
    s.WorksOff (ts.map .requeue) ts.length (s.requeued ts) := by
  induction ts generalizing s with
  | nil =>
    have hnil : s.requeued [] = s := by simp [State.requeued]
    rw [hnil]
    exact s.worksOff_nil
  | cons t ts ih =>
    obtain ⟨ht, hn⟩ := List.nodup_cons.1 hn
    obtain ⟨e, he, hst, hmute⟩ := h t List.mem_cons_self
    have hfirst : s.runTask (.requeue t) = (s.modEntry t (fun x => { x with state := .queued }), []) := by
      simp only [State.runTask, State.requeue, State.enqueue, he, hst, hmute, hm, if_true, Bool.false_and,
        Bool.false_eq_true, if_false]
    refine State.WorksOff.cons hfirst ?_
    rw [← State.modEntry_requeued]
    refine ih hm hn fun u hu => ?_
    obtain ⟨x, hx, hxs, hxm⟩ := h u (List.mem_cons_of_mem _ hu)
    have hne : ¬ u = t := fun hut => ht (hut ▸ hu)
    refine ⟨x, ?_, hxs, hxm⟩
    rw [State.entry_modEntry _ _ _ _ (by exact fun _ => rfl), hx, Option.map_some, if_neg hne]

theorem State.distinct.entry {s : State} (h : s.distinct) {e : Entry} (he : e ∈ s.entries) : s.entry e.ticket = some e := by
  cases hf : s.entry e.ticket with
  | none =>
    have hnone := List.find?_eq_none.1 hf e he
    exact absurd (beq_self_eq_true _) hnone
  | some x =>
    obtain ⟨hx, hxt⟩ := State.entry_mem hf
    rw [List.inj_on_of_nodup_map h hx he hxt]

theorem State.distinct.deferredTickets_nodup {s : State} (h : s.distinct) : s.deferredTickets.Nodup :=
  List.Nodup.sublist (List.filter_sublist.map Entry.ticket) h

theorem State.mem_deferredTickets {s : State} {t : Nat} :
    t ∈ s.deferredTickets ↔ ∃ e ∈ s.entries, e.state = .deferred ∧ e.ticket = t := by
  simp [State.deferredTickets, and_assoc]

/-- R86: outside a freeze, with no programme waiting and no owner muted, a re-offer event returns every DEFERRED entry. -/
theorem State.run_reoffer {s : State} (hd : s.distinct) (hm : s.mode.isFreeze = false) (hw : s.waitingOrder = [])
    (h : ∀ e ∈ s.entries, e.state = .deferred → s.muted e.owner = false) :
    s.run [.reoffer] = s.marked.requeued s.deferredTickets := by
  have hfirst : s.runTask .reoffer = (s.marked, s.deferredTickets.map .requeue) := by
    simp only [State.runTask, State.reoffer, hw, List.map_nil, List.append_nil, State.marked]
  have hcount : s.deferredTickets.length ≤ s.entries.length := by
    rw [State.deferredTickets, List.length_map]
    exact List.length_filter_le _ _
  refine (State.WorksOff.cons (k := s.deferredTickets.length) hfirst ?_).run_entries
    (by simp only [List.length_singleton]; omega)
  rw [List.append_nil]
  refine State.worksOff_requeue hm hd.deferredTickets_nodup fun t ht => ?_
  obtain ⟨e, he, hst, rfl⟩ := State.mem_deferredTickets.1 ht
  exact ⟨e, hd.entry he, hst, h e he hst⟩

/-- The entries of the DEFERRED tickets are the DEFERRED entries. -/
theorem State.requeued_deferredTickets {s : State} (hd : s.distinct) : (s.requeued s.deferredTickets).entries =
    s.entries.map (fun e => if e.state = .deferred then { e with state := .queued } else e) := by
  refine List.map_congr_left fun e he => ?_
  have hiff : e.ticket ∈ s.deferredTickets ↔ e.state = .deferred := by
    rw [State.mem_deferredTickets]
    refine ⟨fun ⟨x, hx, hxs, hxt⟩ => ?_, fun hst => ⟨e, he, hst, rfl⟩⟩
    rwa [List.inj_on_of_nodup_map hd he hx hxt.symm]
  simp only [hiff]

/-! ### The entries that complete (R107) -/

theorem State.mem_completing {s : State} {w : Pass} {t : Nat} : t ∈ s.completing w ↔
    ∃ e ∈ s.entries, e.state = .settling ∧ s.clears w (.apparatus e.apparatus) = true ∧
      (∃ r, s.app e.apparatus = some r ∧ r.marker = true) ∧ e.ticket = t := by
  simp only [State.completing, List.mem_map, List.mem_filter, Bool.and_eq_true, beq_iff_eq, and_assoc]
  refine exists_congr fun e => and_congr_right fun _ => and_congr_right fun _ => and_congr_right fun _ =>
    and_congr_left fun _ => ?_
  cases s.app e.apparatus <;> simp

/-- R45, R180: outside GATHERING, a hand-on is its re-offer and the completions. -/
theorem State.handOn_of_not_gathering {s : State} (h : s.mode ≠ .gathering) (known : Bool) (completing : List Nat) :
    s.handOn known completing = s.run (.reoffer :: completing.map (fun t => .retire t .completed)) := by
  have hmode : (s.run (.reoffer :: completing.map (fun t => .retire t .completed))).mode ≠ .gathering := by
    rcases (s.run_within (.reoffer :: completing.map (fun t => .retire t .completed))).mode with hm | ⟨-, hm⟩ <;> rw [hm]
    · exact h
    · decide
  simp only [State.handOn, hmode, false_and, if_false]

/-- R45, R86: the publication that returns the DEFERRED entries. -/
theorem publication_reoffers {s : State} {w : Pass} (hd : s.distinct) (hm : s.mode = .service) (hwait : s.waitingOrder = [])
    (hmute : ∀ e ∈ s.entries, e.state = .deferred → s.muted e.owner = false)
    (hset : ∀ e ∈ s.entries, e.state = .settling → ¬ s.clears w (.apparatus e.apparatus) = true) :
    s.publishAndHandOn w = ((s.publish w).marked).requeued s.deferredTickets := by
  have hnone : s.completing w = [] := by
    refine List.eq_nil_iff_forall_not_mem.2 fun t ht => ?_
    obtain ⟨e, he, hst, hclears, -⟩ := State.mem_completing.1 ht
    exact hset e he hst hclears
  have hservice : (s.publish w).mode = .service := hm
  unfold State.publishAndHandOn
  rw [State.handOn_of_not_gathering (by rw [hservice]; decide), hnone, List.map_nil]
  exact State.run_reoffer hd (by rw [hservice]; rfl) hwait hmute

/-! ### The judgement of the final position (R24) -/

/-- R22, R23: the judgement of a change of an apparatus, no entry of which is RELEASED. -/
def State.judgedAs (s : State) (a : Nat) (x y : Pos) : State :=
  match s.appDesc a with
  | none => s
  | some d =>
    if isUnbidden d.kind x y then ((s.broadcast (.unbidden a x y)).placeInspect a).1
    else if isTrip d.kind x y then s.modApp a (fun r => { r with lastOutcome := some .tripped })
    else s

theorem State.worksOff_judgedAs {s : State} {a : Nat} (x y : Pos)
    (h : ∀ e ∈ s.entries, e.apparatus = a → e.state ≠ .released) : s.WorksOff [.judge a x y] 2 (s.judgedAs a x y) := by
  cases hd : s.appDesc a with
  | none =>
    refine State.WorksOff.cons (s1 := s) (new := []) ?_ ?_
    · simp only [State.runTask, State.judge, hd]
    · simp only [State.judgedAs, hd]
      exact s.worksOff_nil.mono (Nat.zero_le 1)
  | some d =>
    simp only [State.judgedAs, hd]
    exact State.worksOff_judge x y hd h

/-- A judgement changes the ports, the apparatus records and the tables of restrictions alone. -/
theorem State.judgedAs_eq (s : State) (a : Nat) (x y : Pos) :
    ∃ P A R W, s.judgedAs a x y = { s with ports := P, apps := A, restrictions := R, writes := W } := by
  unfold State.judgedAs
  split
  · exact ⟨_, _, _, _, rfl⟩
  · split
    · obtain ⟨l, hl⟩ := s.broadcast_ports (.unbidden a x y)
      obtain ⟨⟨A, R, W, hp⟩, -⟩ := (s.broadcast (.unbidden a x y)).placeInspect_onlyRestrictions a
      exact ⟨l, A, R, W, by rw [hp, hl]⟩
    · split <;> exact ⟨_, _, _, _, rfl⟩

theorem State.judgedAs_unbidden {s : State} {a : Nat} {d : AppDesc} {x y : Pos} (hd : s.appDesc a = some d)
    (h : Unbidden d.kind x y) : s.judgedAs a x y = ((s.broadcast (.unbidden a x y)).placeInspect a).1 := by
  simp only [State.judgedAs, hd, (isUnbidden_iff _ _ _).2 h, if_true]

theorem State.judgedAs_trip {s : State} {a : Nat} {d : AppDesc} {x y : Pos} (hd : s.appDesc a = some d)
    (h : Trip d.kind x y) : s.judgedAs a x y = s.modApp a (fun r => { r with lastOutcome := some .tripped }) := by
  have hu : isUnbidden d.kind x y = false :=
    Bool.eq_false_iff.2 (fun hu => h.not_unbidden ((isUnbidden_iff _ _ _).1 hu))
  simp only [State.judgedAs, hd, hu, (isTrip_iff _ _ _).2 h, if_true, Bool.false_eq_true, if_false]

/-- R24: the final position of an entry's apparatus has been judged against its target. -/
def State.settled (s : State) (e : Entry) (y : Pos) : State :=
  if y = e.target.pos then s else s.judgedAs e.apparatus e.target.pos y

theorem State.settled_eq (s : State) (e : Entry) (y : Pos) :
    ∃ P A R W, s.settled e y = { s with ports := P, apps := A, restrictions := R, writes := W } := by
  unfold State.settled
  split
  · exact ⟨_, _, _, _, rfl⟩
  · exact s.judgedAs_eq _ _ _

theorem State.settled_calm {s : State} (h : s.calm) (e : Entry) (y : Pos) : (s.settled e y).calm := by
  obtain ⟨P, A, R, W, hs⟩ := s.settled_eq e y
  rw [hs]
  exact h

section
variable {s : State} {e : Entry} {r : AppLive}

/-- R24, R117: the retirement of a SETTLING entry, outside a programme. -/
theorem State.retire_settling (he : s.entry e.ticket = some e) (hs : e.state = .settling) (hp : e.programme = none)
    (hr : s.app e.apparatus = some r) (o : MoveOutcome) : s.retire e.ticket o = (s.retiredBy e o,
    (if r.effective = e.target.pos then [] else [.judge e.apparatus e.target.pos r.effective]) ++
      (if s.heldBack e then [.testFrozen] else []) ++ [.reoffer]) := by
  simp only [State.retire, he, hs, EntryState.held, State.settlingJudgement, hr, hp, if_true, Bool.true_and, Bool.false_eq_true,
    if_false, List.append_nil]
  rfl

/-- R24, R107, R117: in a calm state, outside FREEZING, a SETTLING entry retires and its final position is judged. -/
theorem State.worksOff_retire_settling (he : s.entry e.ticket = some e) (hs : e.state = .settling)
    (hp : e.programme = none) (hr : s.app e.apparatus = some r) (hc : s.calm) (hm : s.mode ≠ .freezing)
    (hone : ∀ x ∈ s.entries, x.apparatus = e.apparatus → x.ticket = e.ticket) (o : MoveOutcome) :
    s.WorksOff [.retire e.ticket o] 5 ((s.retiredBy e o).settled e r.effective).marked := by
  have hjudge : (s.retiredBy e o).WorksOff
      (if r.effective = e.target.pos then [] else [.judge e.apparatus e.target.pos r.effective]) 2
      ((s.retiredBy e o).settled e r.effective) := by
    unfold State.settled
    by_cases ht : r.effective = e.target.pos
    · rw [if_pos ht, if_pos ht]
      exact (State.worksOff_nil _).mono (Nat.zero_le 2)
    · rw [if_neg ht, if_neg ht]
      refine State.worksOff_judgedAs _ _ fun x hx ha => ?_
      rw [State.retiredBy_entries, List.mem_filter, decide_eq_true_iff] at hx
      exact absurd (hone x hx.1 ha) hx.2
  have hmode : ((s.retiredBy e o).settled e r.effective).mode ≠ .freezing := by
    obtain ⟨P, A, R, W, h⟩ := (s.retiredBy e o).settled_eq e r.effective
    rw [h]
    exact (s.retiredBy_mode e o).symm ▸ hm
  refine State.WorksOff.cons (s.retire_settling he hs hp hr o) ?_
  rw [List.append_nil]
  exact (hjudge.append ((State.worksOff_testFrozen hmode).ite _)).append
    (State.settled_calm (s.retiredBy_calm e o hc) e _).worksOff_reoffer

/-- An entry that has left the table does not retire again. -/
theorem State.worksOff_retire_again {s : State} {t : Nat} (h : s.entry t = none) (o : MoveOutcome) (k : Nat) :
    s.WorksOff (List.replicate k (.retire t o)) k s := by
  induction k with
  | zero => exact s.worksOff_nil
  | succ k ih =>
    refine State.WorksOff.cons (s1 := s) (new := []) ?_ ih
    simp only [State.runTask, State.retire, h]

end

/-! ### A publication that completes an entry (R24, R107) -/

/-- R117: a retirement, with its notice, is all that `retiredBy` does. -/
theorem State.retiredBy_retired (s : State) (e : Entry) (o : MoveOutcome) : s.Retired (s.retiredBy e o) e o := by
  obtain ⟨l, hl⟩ := s.retiredBy_eq e o
  have hinputs : (s.retiredBy e o).apps.map AppLive.inputs = s.apps.map AppLive.inputs := by
    rw [State.retiredBy_apps, List.map_map]
    refine List.map_congr_left fun r _ => ?_
    simp only [Function.comp]
    split <;> rfl
  have hrecord : ((s.retiredBy e o).app e.apparatus).map (fun r => (r.ticket, r.lastOutcome)) =
      (s.app e.apparatus).map (fun _ => (none, some (LastOutcome.movement o))) := by
    rw [State.retiredBy_app, Option.map_map]
    rfl
  exact {
    entries := s.retiredBy_entries e o
    ended := s.retiredBy_ended e o
    queues := s.retiredBy_queue e o
    coupled := s.retiredBy_coupled e o
    record := hrecord
    inputs := hinputs
    notice := fun ha hc => s.retiredBy_notice e o ha (Nat.lt_succ_of_lt hc)
    nodes := by rw [hl]; rfl
    programmes := s.retiredBy_programmes e o
    published := by rw [hl]; rfl
    force := by rw [hl]; rfl
    stored := by rw [hl]; rfl }

/-- A retirement does not depend on the markers, the counts, the pass and the evaluation in flight. -/
theorem State.Retired.of_published {s t : State} {e : Entry} {o : MoveOutcome} {A : List AppLive} {c : BitVec 32} {n : Nat}
    {w : Option Pass} {v : Option Evaluation}
    (h : State.Retired { s with apps := A, publicationCount := c, spoils := n, pass := w, evaluation := v } t e o)
    (hin : A.map AppLive.inputs = s.apps.map AppLive.inputs)
    (happ : (A.find? (fun r => r.number == e.apparatus)).isSome = (s.app e.apparatus).isSome) : s.Retired t e o where
  entries := h.entries
  ended := h.ended
  queues := h.queues
  coupled := h.coupled
  record := by
    have hconst : ∀ x y : Option AppLive, x.isSome = y.isSome →
        x.map (fun _ => ((none : Option Nat), some (LastOutcome.movement o))) = y.map (fun _ => (none, some (.movement o))) := by
      intro x y
      cases x <;> cases y <;> simp
    exact h.record.trans (hconst _ _ happ)
  inputs := h.inputs.trans hin
  notice := h.notice
  nodes := h.nodes
  programmes := h.programmes
  published := h.published
  force := h.force
  stored := h.stored

/-- The pass that starts after an event, and the mark of its re-offer, are no part of a retirement in it. -/
theorem State.Retired.before_pass {s t : State} {e : Entry} {o : MoveOutcome} (h : s.Retired t e o)
    (v : Option Evaluation) (w : Option Pass) : s.Retired { t with evaluation := v, pass := w } e o := by
  obtain ⟨entries, ended, queues, coupled, record, inputs, notice, nodes, programmes, published, force, stored⟩ := h
  exact ⟨entries, ended, queues, coupled, record, inputs, notice, nodes, programmes, published, force, stored⟩

theorem State.Inspected.before_pass {s t : State} {a : Nat} (h : s.Inspected t a) (v : Option Evaluation)
    (w : Option Pass) : s.Inspected { t with evaluation := v, pass := w } a :=
  h.congr rfl rfl rfl rfl rfl rfl

/-- The role of a port is no part of a retirement. -/
theorem State.retiredBy_role (s : State) (e : Entry) (o : MoveOutcome) (q : Nat) :
    ((s.retiredBy e o).port q).role = (s.port q).role := by
  obtain ⟨l, hl⟩ := (s.retiredBy_gains e o).2 q
  rw [hl, State.takeOut_port]
  unfold State.queueLeave
  rw [State.port_modPort]
  split <;> rfl

/-- The publication of `w`, and the retirement of `e` with it. -/
def State.completedBy (s : State) (w : Pass) (e : Entry) : State := (s.publish w).marked.retiredBy e .completed

section
variable {s : State} {w : Pass} {e : Entry} {r : AppLive}

theorem State.completedBy_app (hr : s.app e.apparatus = some r) : (s.completedBy w e).app e.apparatus =
    some { s.appPublished w r with ticket := none, lastOutcome := some (.movement .completed) } := by
  have hpub : (s.publish w).marked.app e.apparatus = some (s.appPublished w r) := by
    have h := s.publish_app w e.apparatus
    rwa [hr] at h
  rw [State.completedBy, State.retiredBy_app, hpub]
  rfl

/-- R45, R107: the publication that completes the one SETTLING entry. -/
theorem publication_completes (he : s.entry e.ticket = some e) (hs : e.state = .settling) (hp : e.programme = none)
    (hclear : s.clears w (.apparatus e.apparatus) = true) (hr : s.app e.apparatus = some r) (hmark : r.marker = true)
    (hc : s.calm) (hm : s.mode = .service ∨ s.mode = .frozen)
    (hset : ∀ x ∈ s.entries, x.state = .settling → x.ticket = e.ticket)
    (hone : ∀ x ∈ s.entries, x.apparatus = e.apparatus → x.ticket = e.ticket) :
    s.publishAndHandOn w = ((s.completedBy w e).settled e r.effective).marked := by
  have hgather : s.mode ≠ .gathering := by rcases hm with h | h <;> rw [h] <;> decide
  have hfreeze : s.mode ≠ .freezing := by rcases hm with h | h <;> rw [h] <;> decide
  have hmem : e.ticket ∈ s.completing w :=
    State.mem_completing.2 ⟨e, (State.entry_mem he).1, hs, hclear, ⟨r, hr, hmark⟩, rfl⟩
  have hall : ∀ t ∈ s.completing w, t = e.ticket := by
    intro t ht
    obtain ⟨x, hx, hxs, -, -, rfl⟩ := State.mem_completing.1 ht
    exact hset x hx hxs
  have hrep := List.eq_replicate_of_mem hall
  obtain ⟨k, hk⟩ := Nat.exists_eq_succ_of_ne_zero (List.length_pos_of_mem hmem).ne'
  rw [hk] at hrep
  have hrun : (s.publish w).marked.app e.apparatus = some (s.appPublished w r) := by
    have h := s.publish_app w e.apparatus
    rwa [hr] at h
  have heff : (s.appPublished w r).effective = r.effective :=
    s.appPublished_map w AppLive.effective (fun _ _ => rfl) r
  have hfirst := State.worksOff_retire_settling (s := (s.publish w).marked) he hs hp hrun hc hfreeze hone .completed
  rw [heff] at hfirst
  have hgone : ((s.completedBy w e).settled e r.effective).marked.entry e.ticket = none := by
    obtain ⟨P, A, R, W, h⟩ := (s.completedBy w e).settled_eq e r.effective
    rw [h]
    refine List.find?_eq_none.2 fun x hx => ?_
    have hx : x ∈ ((s.publish w).marked.retiredBy e .completed).entries := hx
    rw [State.retiredBy_entries, List.mem_filter, decide_eq_true_iff] at hx
    simpa using hx.2
  have hwork := ((State.publish_calm hc : (s.publish w).calm).worksOff_reoffer).append
    (hfirst.append (State.worksOff_retire_again hgone .completed k))
  unfold State.publishAndHandOn
  rw [State.handOn_of_not_gathering (by exact hgather), hrep, List.map_replicate, List.replicate_succ]
  refine State.WorksOff.run_entries hwork ?_
  simp only [List.length_cons, List.length_replicate]
  omega

/-- R95, R117: the entry has left the table, and stands among the ended tickets. -/
theorem completed_tables (y : Pos) :
    ((s.completedBy w e).settled e y).marked.startIfMarked.entries = s.entries.filter (fun x => x.ticket ≠ e.ticket) ∧
    ((s.completedBy w e).settled e y).marked.startIfMarked.ended =
      (s.ended ++ [Entry.endedItem e .completed]).drop (s.ended.length + 1 - 16) := by
  obtain ⟨P, A, R, W, h⟩ := (s.completedBy w e).settled_eq e y
  rw [State.startIfMarked_eq, h]
  exact ⟨State.retiredBy_entries (s.publish w).marked e .completed, State.retiredBy_ended (s.publish w).marked e .completed⟩

theorem State.completedBy_retired :
    State.Retired { s with published := w.result, nodes := (s.publish w).nodes } (s.completedBy w e) e .completed := by
  have h := (s.publish w).marked.retiredBy_retired e .completed
  refine State.Retired.of_published (A := (s.publish w).apps) (c := s.publicationCount + 1) (n := 0) (w := none)
    (v := (s.publish w).marked.evaluation) h ?_ ?_
  · rw [State.publish_apps, List.map_map]
    exact List.map_congr_left fun x _ => s.appPublished_map w AppLive.inputs (fun _ _ => rfl) x
  · exact (congrArg Option.isSome (s.publish_app w e.apparatus)).trans Option.isSome_map

/-- R107, R117: the whole of the retirement, the apparatus having reached its target. -/
theorem completed_at_target {y : Pos} (hy : y = e.target.pos) :
    State.Retired { s with published := w.result, nodes := ((s.completedBy w e).settled e y).marked.startIfMarked.nodes }
      ((s.completedBy w e).settled e y).marked.startIfMarked e .completed ∧
    ((s.completedBy w e).settled e y).marked.startIfMarked.restrictions = s.restrictions := by
  have hretired := State.completedBy_retired (s := s) (w := w) (e := e)
  have hrestrictions := State.retiredBy_restrictions (s.publish w).marked e .completed
  rw [← hretired.nodes] at hretired
  rw [State.startIfMarked_eq, State.settled, if_pos hy]
  exact ⟨hretired.before_pass _ _, hrestrictions⟩

theorem State.completedBy_appDesc (a : Nat) : (s.completedBy w e).appDesc a = s.appDesc a := by
  have h := ((s.publish w).marked.retiredBy_retired e .completed).force
  unfold State.appDesc State.completedBy
  rw [h]
  rfl

/-- R22, R24: the apparatus has left the target unbidden. -/
theorem completed_unbidden {d : AppDesc} (hd : s.appDesc e.apparatus = some d) (hr : s.app e.apparatus = some r) {y : Pos}
    (hne : y ≠ e.target.pos) (hu : Unbidden d.kind e.target.pos y) :
    s.Inspected ((s.completedBy w e).settled e y).marked.startIfMarked e.apparatus ∧
    s.Announced ((s.completedBy w e).settled e y).marked.startIfMarked 1 (.unbidden e.apparatus e.target.pos y) := by
  have hd' : (s.completedBy w e).appDesc e.apparatus = some d := (State.completedBy_appDesc _).trans hd
  rw [State.startIfMarked_eq, State.settled, if_neg hne, State.judgedAs_unbidden hd' hu]
  obtain ⟨l, hl⟩ := (s.completedBy w e).broadcast_ports (.unbidden e.apparatus e.target.pos y)
  have hplaced := State.placeInspect_inspected ((s.completedBy w e).broadcast (.unbidden e.apparatus e.target.pos y)) e.apparatus
  have hport := (State.placeInspect_onlyRestrictions ((s.completedBy w e).broadcast (.unbidden e.apparatus e.target.pos y))
    e.apparatus).port
  have hoverflow : ((s.completedBy w e).app e.apparatus).map AppLive.overflow = (s.app e.apparatus).map AppLive.overflow := by
    rw [State.completedBy_app hr, hr]
    exact congrArg some (s.appPublished_map w AppLive.overflow (fun _ _ => rfl) r)
  have hinspected : s.Inspected
      ((s.completedBy w e).broadcast (.unbidden e.apparatus e.target.pos y) |>.placeInspect e.apparatus).1 e.apparatus := by
    refine hplaced.congr ?_ ?_ ?_ rfl rfl rfl
    · rw [hl]
      exact (State.retiredBy_restrictions (s.publish w).marked e .completed).symm
    · rw [hl]
      exact (State.retiredBy_writes (s.publish w).marked e .completed).symm
    · rw [hl]
      exact hoverflow.symm
  generalize ((s.completedBy w e).broadcast (.unbidden e.apparatus e.target.pos y) |>.placeInspect e.apparatus).1 = u
    at hinspected hport
  refine ⟨hinspected.before_pass _ _, fun q hq hrole ha hc => ?_⟩
  have hcount := (s.publish w).marked.retiredBy_count e .completed q
  have hmem := (s.completedBy w e).broadcast_mem (.unbidden e.apparatus e.target.pos y) hq
    (((s.publish w).marked.retiredBy_role e .completed q).trans hrole)
    (((s.publish w).marked.retiredBy_state e .completed q).trans ha) 
    (Nat.lt_of_le_of_lt hcount (by exact hc))
  rw [← hport q] at hmem
  exact hmem

/-- R23, R24: the apparatus has tripped. -/
theorem completed_trip {d : AppDesc} (hd : s.appDesc e.apparatus = some d) (hr : s.app e.apparatus = some r) {y : Pos}
    (hne : y ≠ e.target.pos) (ht : Trip d.kind e.target.pos y) :
    (((s.completedBy w e).settled e y).marked.startIfMarked.app e.apparatus).map AppLive.lastOutcome =
      some (some .tripped) := by
  have hd' : (s.completedBy w e).appDesc e.apparatus = some d := (State.completedBy_appDesc _).trans hd
  have happ := State.app_modApp (s.completedBy w e) e.apparatus e.apparatus
    (fun r => { r with lastOutcome := some .tripped }) (fun _ => rfl)
  rw [State.completedBy_app hr, Option.map_some, if_pos rfl] at happ
  rw [State.startIfMarked_eq, State.settled, if_neg hne, State.judgedAs_trip hd' ht]
  exact congrArg (Option.map AppLive.lastOutcome) happ

end

/-! ### The end of gathering (R180) -/

theorem State.known_iff {s : State} {w : Pass} : s.known w = true ↔
    (∀ d ∈ s.force.apparatus, ∃ x ∈ w.readApps, x.number = d.number ∧ x.position ≠ .unknown) ∧
    ∀ d ∈ s.force.nodes, d.measured = true → ∃ x ∈ w.readNodes, x.number = d.number ∧ x.cls ≠ .unknown := by
  have himp : ∀ d : NodeDesc, ((!d.measured || w.readNodes.any (fun r => r.number == d.number && r.cls != .unknown)) = true) ↔
      (d.measured = true → ∃ x ∈ w.readNodes, x.number = d.number ∧ x.cls ≠ .unknown) := by
    intro d
    cases d.measured <;> simp
  simp only [State.known, Bool.and_eq_true, List.all_eq_true, himp, List.any_eq_true, beq_iff_eq, bne_iff_ne]

/-- R180: the mode in which gathering ends. -/
def State.gathered (s : State) : Mode := if s.freezeCarried then .frozen else .service

/-- R177, R180: gathering has ended, and its notice is sent. -/
theorem State.endGathering_ends (s : State) : s.endGathering.mode = s.gathered ∧ s.endGathering.gatheringTimer = none ∧
    s.endGathering.freezeCarried = false ∧ s.Announced s.endGathering 0 (.modeChanged s.mode s.gathered) := by
  have heq : s.endGathering = State.broadcast
      { s with gatheringTimer := none, freezeCarried := false, mode := s.gathered } (.modeChanged s.mode s.gathered) := rfl
  obtain ⟨l, hl⟩ := State.broadcast_ports
    { s with gatheringTimer := none, freezeCarried := false, mode := s.gathered } (.modeChanged s.mode s.gathered)
  refine ⟨?_, ?_, ?_, fun q hq hrole ha hc => ?_⟩
  · rw [heq, hl]
  · rw [heq, hl]
  · rw [heq, hl]
  · rw [heq]
    exact State.broadcast_mem _ _ hq hrole ha hc

section
variable {s : State} {w : Pass} (hm : s.mode = .gathering) (he : s.entries = []) (hwait : s.waitingOrder = [])
include hm he hwait

/-- R45, R180: with no entry and no programme, a publication in GATHERING is its re-offer and the end of gathering. -/
theorem publication_gathers : s.publishAndHandOn w =
    if s.known w then (s.publish w).marked.endGathering else (s.publish w).marked := by
  have hcalm : (s.publish w).calm := State.publish_calm ⟨fun x hx => by simp [he] at hx, hwait⟩
  have hnone : s.completing w = [] := by rw [State.completing, he]; rfl
  have hmode : (s.publish w).marked.mode = .gathering := hm
  simp only [State.publishAndHandOn, State.handOn, hnone, List.map_nil, hcalm.run_reoffer, hmode, true_and]

/-- R180: the yard is not known yet, and the gathering goes on. -/
theorem publication_gathers_on (hk : ¬ s.known w = true) :
    (s.publishAndHandOn w).startIfMarked.mode = .gathering ∧
    (s.publishAndHandOn w).startIfMarked.gatheringTimer = s.gatheringTimer ∧
    (s.publishAndHandOn w).startIfMarked.freezeCarried = s.freezeCarried := by
  rw [publication_gathers hm he hwait, if_neg hk, State.startIfMarked_eq]
  exact ⟨hm, rfl, rfl⟩

/-- R177, R180: the yard is known, and the gathering ends with its notice. -/
theorem publication_ends_gathering (hk : s.known w = true) :
    (s.publishAndHandOn w).startIfMarked.mode = s.gathered ∧
    (s.publishAndHandOn w).startIfMarked.gatheringTimer = none ∧
    (s.publishAndHandOn w).startIfMarked.freezeCarried = false ∧
    s.Announced (s.publishAndHandOn w).startIfMarked 0 (.modeChanged .gathering s.gathered) := by
  obtain ⟨hmode, htimer, hcarried, hsent⟩ := (s.publish w).marked.endGathering_ends
  rw [show (s.publish w).marked.mode = .gathering from hm] at hsent
  rw [publication_gathers hm he hwait, if_pos hk, State.startIfMarked_eq]
  generalize (s.publish w).marked.endGathering = u at hmode htimer hcarried hsent
  have hgathered : (s.publish w).marked.gathered = s.gathered := rfl
  rw [hgathered] at hmode hsent
  exact ⟨hmode, htimer, hcarried, fun q hq hrole ha hc => hsent q hq hrole ha hc⟩

end

/-! ### The markers after a publication (R44) -/

section
variable {s : State} {w : Pass}

/-- R44: the record of an apparatus, told but for what tasks may change of it. -/
theorem State.app_published {t : State} {a : Nat} (h : (t.app a).map AppLive.outer =
      (s.app a).map (fun r => (s.appPublished w r).outer)) :
    (t.app a).map AppLive.inputs = (s.app a).map AppLive.inputs ∧
    (s.clears w (.apparatus a) = true → ∀ x, t.app a = some x → x.marker = false) ∧
    (¬ s.clears w (.apparatus a) = true → (t.app a).map AppLive.marker = (s.app a).map AppLive.marker) := by
  cases hr : s.app a with
  | none =>
    rw [hr, Option.map_none, Option.map_eq_none_iff] at h
    simp [h]
  | some r =>
    obtain ⟨-, rfl⟩ := State.app_mem hr
    rw [hr, Option.map_some, Option.map_eq_some_iff] at h
    obtain ⟨y, hy, ho⟩ := h
    have hin : y.inputs = r.inputs := (congrArg AppLive.inputs ho).trans
      (s.appPublished_map w AppLive.inputs (fun _ _ => rfl) r)
    obtain ⟨-, -, -, -, -, -, -, hmark⟩ := AppLive.of_outer ho
    rw [hy]
    refine ⟨congrArg some hin, fun hc x hx => ?_, fun hc => ?_⟩
    · obtain rfl := Option.some.inj hx
      rw [hmark, s.appPublished_cleared w hc]
    · rw [s.appPublished_kept w hc] at hmark
      exact congrArg some hmark

/-- R44: the record of a node. -/
theorem State.node_published {t : State} {n : Nat} (h : t.node n = (s.node n).map (s.nodePublished w)) :
    (t.node n).map (fun x => { x with marker := false }) = (s.node n).map (fun x => { x with marker := false }) ∧
    (s.clears w (.node n) = true → ∀ x, t.node n = some x → x.marker = false) ∧
    (¬ s.clears w (.node n) = true → t.node n = s.node n) := by
  cases hr : s.node n with
  | none => simp [h, hr]
  | some r =>
    obtain ⟨-, rfl⟩ : r ∈ s.nodes ∧ r.number = n := ⟨List.mem_of_find?_eq_some hr, by simpa using List.find?_some hr⟩
    rw [hr, Option.map_some] at h
    rw [h]
    refine ⟨congrArg some (s.nodePublished_map w (fun x => { x with marker := false }) (fun _ _ => rfl) r),
      fun hc x hx => ?_, fun hc => ?_⟩
    · rw [← Option.some.inj hx, s.nodePublished_cleared w hc]
    · rw [s.nodePublished_kept w hc]

end

/-! ### The obligation -/

/-- Settles O45: each of its clauses is one of the lemmas above, the markers told by what `clears` decides. -/
theorem passPublishes : Obligations.PassPublishes := by
  unfold Obligations.PassPublishes
  intro s w hr hw hn colouring published reads readsNode unmarked
  have hclears : ∀ a, reads a ↔ s.clears w (.apparatus a) = true := fun a => (s.clears_apparatus w a).symm
  have hclearsNode : ∀ n, readsNode n ↔ s.clears w (.node n) = true := fun n => (s.clears_node w n).symm
  refine ⟨fun hh => ?_, fun hh hd => ?_, fun c hc => ⟨?_, ?_, ?_⟩⟩
  · obtain ⟨t, ht, hpub, hheld, hin, hnodes, hmarks⟩ := ordinary_publication hr hw hn hh
    refine ⟨t, ht, hpub, hheld, hin, ?_, fun r hr hc => ?_, fun r hr hm hc => ?_, fun r hr hread hheld => ?_,
      fun r hr hm hstale => ?_⟩
    · rw [hnodes, List.map_map]
      exact List.map_congr_left fun r _ => s.nodePublished_map w unmarked (fun _ _ => rfl) r
    · have hmark := hmarks r hr
      rwa [s.appPublished_cleared w ((hclears _).1 hc)] at hmark
    · have hmark := hmarks r hr
      rwa [s.appPublished_kept w (fun h => hc ((hclears _).2 h)), hm] at hmark
    · rw [hnodes, ← s.nodePublished_cleared w ((hclearsNode _).1 ⟨hread, hheld⟩)]
      exact List.mem_map_of_mem hr
    · have hkept : ¬ s.clears w (.node r.number) = true := by
        intro h
        obtain ⟨⟨x, hx, hnum, hfresh⟩, -⟩ := (hclearsNode _).2 h
        rw [hstale x hx hnum] at hfresh
        cases hfresh
      rw [hnodes, List.mem_map]
      exact ⟨r, hr, s.nodePublished_kept w hkept⟩
  · obtain ⟨t, ht, hpub, hheld, happlied, hnapplied, happs, hnodes⟩ := held_publication hr hw hn hh hd
    refine ⟨t, ht, hpub, hheld, happlied, hnapplied, fun a ha => ?_, fun n hn => ?_⟩
    · obtain ⟨houter, hsubst⟩ := happs a ha
      obtain ⟨hin, hcleared, hkept⟩ := State.app_published houter
      exact ⟨hin, hsubst, fun h => hcleared ((hclears a).1 h), fun h => hkept (fun hc => h ((hclears a).2 hc))⟩
    · obtain ⟨hnode, hsubst⟩ := hnodes n hn
      obtain ⟨hstill, hcleared, hkept⟩ := State.node_published hnode
      exact ⟨hstill, hsubst, fun h => hcleared ((hclearsNode n).1 h), fun h => hkept (fun hc => h ((hclearsNode n).2 hc))⟩
  · intro hd hm hwait hmute hset
    refine ⟨_, exec_publishes hr hw hn hc, ?_⟩
    rw [publication_reoffers hd hm hwait hmute (fun e he hs h => hset e he hs ((hclears _).2 h)), State.startIfMarked_eq]
    exact ⟨State.requeued_deferredTickets hd, rfl⟩
  · intro e r he hs hp hreads happ hmark hcalm hm hset hone
    refine ⟨_, exec_publishes hr hw hn hc, ?_⟩
    rw [publication_completes he hs hp ((hclears _).1 hreads) happ hmark hcalm hm hset hone]
    obtain ⟨hentries, hended⟩ := completed_tables (s := s) (w := w) (e := e) r.effective
    refine ⟨hentries, hended, fun ht => ?_, fun d hd hne => ⟨fun hu => ?_, fun ht => ?_⟩⟩
    · exact completed_at_target ht
    · exact completed_unbidden hd happ hne hu
    · exact completed_trip hd happ hne ht
  · intro hm he hwait known
    refine ⟨_, exec_publishes hr hw hn hc, fun hk => ?_, fun hk => ?_⟩
    · exact publication_gathers_on hm he hwait (fun h => hk (State.known_iff.1 h))
    · exact publication_ends_gathering hm he hwait (State.known_iff.2 hk)

end Sys2Proof.Machine
end

section
/-! What the steps of an evaluation do (R54 to R69, R81): what the evaluation in flight goes on to, and what retires its
entry. -/

namespace Sys2Proof.Machine

/-! ### A refused movement (R81, R117) -/

/-- R117: an entry without a reservation and outside a programme retires, and its re-offer event is all that follows. -/
theorem State.retire_free {s : State} {e : Entry} (he : s.entry e.ticket = some e) (hst : e.state = .evaluating)
    (hp : e.programme = none) (o : MoveOutcome) : s.retire e.ticket o = (s.retiredBy e o, [.reoffer]) := by
  simp only [State.retire, he, hst, hp, EntryState.held, State.dropCarry, State.settlingJudgement, State.retiredBy,
    reduceCtorEq, Bool.false_eq_true, Bool.false_and, if_false, List.nil_append]

/-- R81: entry `e` is under evaluation, and its refusal brings nothing else about. -/
structure State.Refusable (s : State) (e : Entry) : Prop where
  evaluating : e.state = .evaluating
  uncancelled : e.cancelPending = false
  alone : e.programme = none
  calm : s.calm

/-- R81: after `i` the evaluator is free, and entry `e` has retired REFUSED with a reason. -/
def State.Refuses (s : State) (i : Instr) (e : Entry) (why : Reason) : Prop :=
  ∃ t, exec i s = .next t ∧ t.evaluation = none ∧ s.Retired t e (.refused why) ∧ t.restrictions = s.restrictions

/-- R81: entry `e` has been refused, and the evaluator is free. -/
def State.refusedBy (s : State) (e : Entry) (why : Reason) : State :=
  State.retiredBy { s with evaluation := none } e (.refused why)

theorem State.refusedBy_refused (s : State) (e : Entry) (why : Reason) :
    (s.refusedBy e why).evaluation = none ∧ s.Retired (s.refusedBy e why) e (.refused why) ∧
    (s.refusedBy e why).restrictions = s.restrictions :=
  ⟨State.retiredBy_evaluation _ e _ rfl,
    State.Retired.of_published (State.retiredBy_retired { s with evaluation := none } e (.refused why)) rfl rfl,
    State.retiredBy_restrictions _ e _⟩

/-- R81, R110: a refusal ends the evaluation in flight, and its entry retires. -/
theorem State.endEvaluation_refuses {s : State} {v : Evaluation} {e : Entry} (hv : s.evaluation = some v)
    (he : s.entry v.ticket = some e) (hr : s.Refusable e) (why : Reason) :
    s.endEvaluation (.refuse why) = s.refusedBy e why := by
  obtain ⟨hst, hcancel, hp, hcalm⟩ := hr
  obtain ⟨-, hticket⟩ := State.entry_mem he
  have hskip : ¬ (why = .alreadyThere ∧ State.isSkipStep { s with evaluation := none } e = true) := by
    simp [State.isSkipStep, hp]
  have hfree := State.retire_free (s := { s with evaluation := none }) (hticket ▸ he) hst hp (.refused why)
  have hafter : (s.refusedBy e why).WorksOff [.reoffer] 1 (s.refusedBy e why) :=
    (State.retiredBy_calm { s with evaluation := none } e _ hcalm).worksOff_reoffer_free
      (s.refusedBy_refused e why).1
  have hwork : State.WorksOff { s with evaluation := none } [.retire e.ticket (.refused why)] 2 (s.refusedBy e why) :=
    State.WorksOff.cons hfree hafter
  simp only [State.endEvaluation, hv, he, hcancel, Bool.false_eq_true, if_false, State.endRefused, if_neg hskip]
  exact hwork.run (by decide)

/-! ### The evaluation in flight -/

/-- The engine runs with evaluation `v` of entry `e` of apparatus `d` in flight. -/
structure State.Evaluates (s : State) (v : Evaluation) (e : Entry) (d : AppDesc) : Prop where
  running : s.heldInReset = false
  evaluation : s.evaluation = some v
  entry : s.entry v.ticket = some e
  desc : s.appDesc e.apparatus = some d

/-- R70: after `i` the movement is permitted, its candidate reach the described nodes with a property. -/
def State.Permits (s : State) (i : Instr) (v : Evaluation) (within : Nat → Prop) : Prop :=
  ∃ reach, exec i s = .next { s with evaluation := some { v with stage := .permitted reach, candidateReach := reach } } ∧
    ∀ m, m ∈ reach ↔ (∃ y ∈ s.force.nodes, y.number = m) ∧ within m

theorem State.mem_nodesWith {s : State} {f : Nat → Bool} {m : Nat} :
    m ∈ s.nodesWith f ↔ (∃ y ∈ s.force.nodes, y.number = m) ∧ f m = true := by
  simp only [State.nodesWith, List.mem_filter, List.mem_map]

namespace State.Evaluates

variable {s : State} {v : Evaluation} {e : Entry} {d : AppDesc} (h : s.Evaluates v e d)
include h

theorem number : d.number = e.apparatus := State.appDesc_number h.desc

theorem inFlight : s.inFlight = some (v, e, d) := by
  simp only [State.inFlight, h.evaluation, h.entry, h.desc]

/-- R55: at check `n` the evaluation takes the result of that check. -/
theorem exec_check {n : Nat} (hs : v.stage = .check n) : exec .predicateCheck s =
    .next (s.takeResult v (s.makeCheck v.publication d e.target e.footprint n)) := by
  have hexec : exec .predicateCheck s = .next (s.whenRunning State.predicateCheck) := rfl
  rw [hexec, s.whenRunning_running _ h.running]
  simp only [State.predicateCheck, h.inFlight, hs]

/-- R65: in the bypass search the evaluation takes the result of a step of it. -/
theorem exec_bypass {found frontier : List Nat} (hs : v.stage = .bypass found frontier) : exec .bypassSearchStep s =
    .next { s with evaluation := some (v.atStage (s.bypassStep v.publication d found frontier)) } := by
  have hexec : exec .bypassSearchStep s = .next (s.whenRunning State.bypassSearch) := rfl
  rw [hexec, s.whenRunning_running _ h.running]
  simp only [State.bypassSearch, h.inFlight, hs, State.takeResult]

/-- R66: in the stub search the evaluation takes the result of a step of it. -/
theorem exec_stub {side : Bool} {found frontier : List Nat} (hs : v.stage = .stub side found frontier) :
    exec .stubSearchStep s = .next (s.takeResult v (s.stubStep v.publication d side found frontier)) := by
  have hexec : exec .stubSearchStep s = .next (s.whenRunning State.stubSearch) := rfl
  rw [hexec, s.whenRunning_running _ h.running]
  simp only [State.stubSearch, h.inFlight, hs]

/-- R81: a step that refuses retires the entry. -/
theorem refuses {i : Instr} {r : StepResult} (hi : exec i s = .next (s.takeResult v r)) {why : Reason}
    (hr : r = .refuse why) (hq : s.Refusable e) : s.Refuses i e why := by
  refine ⟨s.refusedBy e why, ?_, s.refusedBy_refused e why⟩
  rw [hi, hr, State.takeResult, State.endEvaluation_refuses h.evaluation h.entry hq]

/-- R55: a check that passes leads to its next stage. -/
theorem check_leads {n : Nat} (hs : v.stage = .check n) {st : Stage}
    (hm : s.makeCheck v.publication d e.target e.footprint n = .stage st) :
    exec .predicateCheck s = .next { s with evaluation := some (v.atStage st) } := by
  rw [h.exec_check hs, hm, State.takeResult]

theorem check_goes_on {n k : Nat} (hs : v.stage = .check n)
    (hm : s.makeCheck v.publication d e.target e.footprint n = .stage (.check k)) :
    exec .predicateCheck s = .next { s with evaluation := some { v with stage := .check k } } :=
  h.check_leads hs hm

/-- R55, R81: a check that fails retires the entry. -/
theorem check_refuses {n : Nat} (hs : v.stage = .check n) {why : Reason}
    (hm : s.makeCheck v.publication d e.target e.footprint n = .refuse why) (hq : s.Refusable e) :
    s.Refuses .predicateCheck e why :=
  h.refuses (h.exec_check hs) hm hq

end State.Evaluates

/-! ### Checks 1 to 4 (R55 to R58) -/

/-- R136: what each kind of restriction forbids. -/
theorem Restriction.forbids_iff (r : Restriction) (kind : AppKind) (a : Nat) (g : Target) (footprint : List Nat) :
    r.forbids kind a g footprint = true ↔
      ((r.kind = .locked ∨ r.kind = .inspect) ∧ r.target = a) ∨
      (r.kind = .holdOpen ∧ r.target = a ∧ g = .closed) ∨ (r.kind = .holdClosed ∧ r.target = a ∧ g = .opened) ∨
      (r.kind = .workZone ∧ r.target ∈ footprint ∧ ¬ (kind = .earthSwitch ∧ g = .closed)) := by
  cases hk : r.kind <;> simp [Restriction.forbids, hk, imp_iff_not_or]

/-- R57, R144: check 3 fails on the overflow mark, and on a restriction that forbids the movement. -/
theorem State.restricted_iff {s : State} {a : Nat} {d : AppDesc} (hd : s.appDesc a = some d) (g : Target)
    (footprint : List Nat) : s.restricted a g footprint = true ↔
      s.overflowMark a = true ∨ ∃ r ∈ s.restrictions, r.forbids d.kind a g footprint = true := by
  simp only [State.restricted, hd, Bool.or_eq_true, List.any_eq_true]

/-- R58: check 4 fails on a blocking flag, present or latched. -/
theorem State.blocked_iff {s : State} {a : Nat} : s.blocked a = true ↔
    ∃ r, s.app a = some r ∧ (r.present.any = true ∨ r.latched.any = true) := by
  unfold State.blocked
  cases s.app a <;> simp [AppLive.blocked]

section
variable (s : State) (c : Colouring) (d : AppDesc) (g : Target) (footprint : List Nat)

theorem State.makeCheck_one : s.makeCheck c d g footprint 1 =
    if c.position d.number = g.pos then .refuse .alreadyThere else .stage (.check 2) := rfl

theorem State.makeCheck_two : s.makeCheck c d g footprint 2 =
    if c.position d.number = .opened ∨ c.position d.number = .closed then .stage (.check 3)
    else .refuse .positionUncertain := rfl

theorem State.makeCheck_three : s.makeCheck c d g footprint 3 =
    if s.restricted d.number g footprint then .refuse .restricted else .stage (.check 4) := rfl

theorem State.makeCheck_four : s.makeCheck c d g footprint 4 =
    if s.blocked d.number then .refuse .blocked else .stage (.check 5) := rfl

end

/-! ### The topology check (R60 to R69) -/

/-- R53: PL is set on LIVE and on CONTESTED. -/
theorem Colour.pl_iff {x : Colour} : x.pl = true ↔ x = .live ∨ x = .contested := by
  cases x <;> simp [Colour.pl]

/-- R53: PE is set on CONTESTED, on EARTHED and on DOUBTFUL_EARTH. -/
theorem Colour.pe_iff {x : Colour} : x.pe = true ↔ x = .contested ∨ x = .earthed ∨ x = .doubtfulEarth := by
  cases x <;> simp [Colour.pe]

/-- R53: one possible component. -/
theorem Colouring.samePossible_iff {c : Colouring} {n m : Nat} :
    c.samePossible n m = true ↔ (c.node n).possible = (c.node m).possible := beq_iff_eq

/-- R53: one sure component. -/
theorem Colouring.sameSure_iff {c : Colouring} {n m : Nat} :
    c.sameSure n m = true ↔ (c.node n).sure = (c.node m).sure := beq_iff_eq

namespace State.Evaluates

variable {s : State} {v : Evaluation} {e : Entry} {d : AppDesc} (h : s.Evaluates v e d) (hs : v.stage = .check 5)
include h hs

/-- R60: check 5 does what the rule for the kind and the target finds. -/
theorem topology_permits {reach : List Nat} (hf : s.topology v.publication d e.target = .permit reach) :
    exec .predicateCheck s = .next { s with evaluation := some { v with stage := .permitted reach, candidateReach := reach } } :=
  h.check_leads (st := .permitted reach) hs (by simp only [State.makeCheck, hf])

theorem topology_permits_within {f : Nat → Bool} {within : Nat → Prop}
    (hf : s.topology v.publication d e.target = .permit (s.nodesWith f)) (hw : ∀ m, f m = true ↔ within m) :
    s.Permits .predicateCheck v within :=
  ⟨s.nodesWith f, h.topology_permits hs hf, fun m => by rw [State.mem_nodesWith, hw]⟩

theorem topology_refuses {why : Reason} (hf : s.topology v.publication d e.target = .refuse why) (hq : s.Refusable e) :
    s.Refuses .predicateCheck e why :=
  h.check_refuses hs (by simp only [State.makeCheck, hf]) hq

theorem topology_searches (hf : s.topology v.publication d e.target = .search) :
    exec .predicateCheck s = .next { s with evaluation := some { v with stage := .bypass [d.a] [d.a] } } :=
  h.check_leads (st := .bypass [d.a] [d.a]) hs (by simp only [State.makeCheck, hf])

end State.Evaluates

section
variable {s : State} {c : Colouring} {d : AppDesc} {g : Target}

/-- The rule for a breaker that closes, and likewise below for the other kinds and targets (R60). -/
theorem State.topology_breakerClose (hk : d.kind = .breaker) (hg : g = .closed) :
    s.topology c d g = s.breakerClose c d := by simp only [State.topology, hk, hg]

theorem State.topology_breakerOpen (hk : d.kind = .breaker) (hg : g = .opened) :
    s.topology c d g = .permit [] := by simp only [State.topology, hk, hg]

theorem State.topology_disconnectorClose (hk : d.kind = .disconnector) (hg : g = .closed) :
    s.topology c d g = s.disconnectorClose c d := by simp only [State.topology, hk, hg]

theorem State.topology_disconnectorOpen (hk : d.kind = .disconnector) (hg : g = .opened) :
    s.topology c d g = if (c.node d.a).colour.pl then .search else .permit (s.possibleComponent c d.a) := by
  simp only [State.topology, hk, hg, State.disconnectorOpen]

theorem State.topology_earthClose (hk : d.kind = .earthSwitch) (hg : g = .closed) :
    s.topology c d g = if (c.node d.a).colour.pl then .refuse .nodeNotDead else .permit (s.possibleComponent c d.a) := by
  simp only [State.topology, hk, hg, State.earthClose]

theorem State.topology_earthOpen (hk : d.kind = .earthSwitch) (hg : g = .opened) :
    s.topology c d g = .permit d.footprint := by simp only [State.topology, hk, hg]

end

/-- R61: a possible live side meets a possible earth. -/
def Against (x y : Colour) : Prop :=
  x = .contested ∨ y = .contested ∨
  ((x = .contested ∨ x = .earthed ∨ x = .doubtfulEarth) ∧ (y = .live ∨ y = .contested)) ∨
  ((y = .contested ∨ y = .earthed ∨ y = .doubtfulEarth) ∧ (x = .live ∨ x = .contested))

section
variable (s : State) {c : Colouring} {d : AppDesc}

theorem State.breakerClose_refuses (h : Against (c.node d.a).colour (c.node d.b).colour) :
    s.breakerClose c d = .refuse .liveAgainstEarth := by
  unfold State.breakerClose
  simp only [Colour.pl_iff, Colour.pe_iff]
  exact if_pos h

theorem State.breakerClose_permits (h : ¬ Against (c.node d.a).colour (c.node d.b).colour) :
    s.breakerClose c d = .permit (s.nodesWith (fun m => (!(c.node d.a).colour.pl && c.samePossible d.a m) ||
      (!(c.node d.b).colour.pl && c.samePossible d.b m))) := by
  unfold State.breakerClose
  simp only [Colour.pl_iff, Colour.pe_iff]
  exact if_neg h

/-- R62: within one sure component. -/
theorem State.disconnectorClose_sure (h : (c.node d.a).sure = (c.node d.b).sure) :
    s.disconnectorClose c d = .permit (s.sureComponent c d.a) :=
  if_pos (Colouring.sameSure_iff.2 h)

variable (hsure : ¬ (c.node d.a).sure = (c.node d.b).sure)
include hsure

/-- R62: beside a FLOATING side. -/
theorem State.disconnectorClose_floating (h : (c.node d.a).colour = .floating ∨ (c.node d.b).colour = .floating) :
    s.disconnectorClose c d = .permit (s.nodesWith (fun m =>
      ((c.node d.a).colour == .floating && c.samePossible d.a m) ||
      ((c.node d.b).colour == .floating && c.samePossible d.b m))) := by
  rw [State.disconnectorClose, if_neg (mt Colouring.sameSure_iff.1 hsure), if_pos h]

/-- R63: neither side FLOATING: the refusals in their order. -/
theorem State.disconnectorClose_refuses (ha : (c.node d.a).colour ≠ .floating) (hb : (c.node d.b).colour ≠ .floating) :
    s.disconnectorClose c d =
      if ((c.node d.a).colour = .live ∧ (c.node d.b).colour = .earthed) ∨
        ((c.node d.a).colour = .earthed ∧ (c.node d.b).colour = .live) then .refuse .liveAgainstEarth
      else if (c.node d.a).colour = .contested ∨ (c.node d.a).colour = .doubtfulEarth ∨
        (c.node d.b).colour = .contested ∨ (c.node d.b).colour = .doubtfulEarth then .refuse .uncertainEarth
      else .refuse .noEquipotential := by
  rw [State.disconnectorClose, if_neg (mt Colouring.sameSure_iff.1 hsure), if_neg (not_or.2 ⟨ha, hb⟩)]

end

/-! ### The checks in order -/

/-- Settles O47: each clause by the equation of its check, or of the topology rule for its kind and target. -/
theorem checksInOrder : Obligations.ChecksInOrder := by
  unfold Obligations.ChecksInOrder
  refine ⟨fun s v e d hr hv he hd => ?_, Restriction.forbids_iff⟩
  have h : s.Evaluates v e d := ⟨hr, hv, he, hd⟩
  have hrestricted := State.restricted_iff hd e.target e.footprint
  refine ⟨fun hs hp => ?_, fun hs hp => ?_, fun hs ho hn => ?_, fun hs hn => ?_, fun hs hk hg => ?_,
    fun hs hk hg hl => ?_, ?_⟩
  · exact h.check_goes_on hs (by rw [State.makeCheck_one, h.number, if_neg hp])
  · exact h.check_goes_on hs (by rw [State.makeCheck_two, h.number, if_pos hp])
  · refine h.check_goes_on hs ?_
    rw [State.makeCheck_three, h.number, if_neg]
    simpa [hrestricted, ho] using hn
  · refine h.check_goes_on hs ?_
    rw [State.makeCheck_four, h.number, if_neg]
    intro hb
    obtain ⟨r, happ, hany⟩ := State.blocked_iff.1 hb
    simp [hn r happ] at hany
  · exact h.topology_permits hs (State.topology_breakerOpen hk hg)
  · exact h.topology_searches hs ((State.topology_disconnectorOpen hk hg).trans (if_pos hl))
  · intro permits refuses a b live earthed possible sure against
    refine ⟨fun hs hk hg hn => ?_, fun hs hk hg => ⟨fun hsure => ?_, fun hsure hf => ?_⟩, fun hs hk hg hl => ?_,
      fun hs hk hg hl => ?_, fun hs hk hg => ?_, fun hst hc hp hcalm => ?_⟩
    · exact h.topology_permits_within hs ((State.topology_breakerClose hk hg).trans (s.breakerClose_permits hn))
        fun m => by simp [← Colour.pl_iff, Colouring.samePossible_iff, live, possible, a, b]
    · exact h.topology_permits_within hs ((State.topology_disconnectorClose hk hg).trans (s.disconnectorClose_sure hsure))
        fun m => Colouring.sameSure_iff
    · exact h.topology_permits_within hs
        ((State.topology_disconnectorClose hk hg).trans (s.disconnectorClose_floating hsure hf))
        fun m => by simp [Colouring.samePossible_iff, possible, a, b]
    · exact h.topology_permits_within hs
        ((State.topology_disconnectorOpen hk hg).trans (if_neg (mt Colour.pl_iff.1 hl)))
        fun m => Colouring.samePossible_iff
    · exact h.topology_permits_within hs ((State.topology_earthClose hk hg).trans (if_neg (mt Colour.pl_iff.1 hl)))
        fun m => Colouring.samePossible_iff
    · exact h.topology_permits hs (State.topology_earthOpen hk hg)
    · have hq : s.Refusable e := ⟨hst, hc, hp, hcalm⟩
      refine ⟨fun hs hp => ?_, fun hs ho hc => ?_, fun hs hn => ?_, fun hs hn => ?_, fun hs hk hg hn => ?_,
        fun hs hk hg hsure ha hb => ?_, fun hs hk hg hl => ?_⟩
      · exact h.check_refuses hs (by rw [State.makeCheck_one, h.number, if_pos hp]) hq
      · exact h.check_refuses hs (by rw [State.makeCheck_two, h.number, if_neg (not_or.2 ⟨ho, hc⟩)]) hq
      · exact h.check_refuses hs (by rw [State.makeCheck_three, h.number, if_pos (hrestricted.2 hn)]) hq
      · exact h.check_refuses hs (by rw [State.makeCheck_four, h.number, if_pos (State.blocked_iff.2 hn)]) hq
      · exact h.topology_refuses hs ((State.topology_breakerClose hk hg).trans (s.breakerClose_refuses hn)) hq
      · have hrule := (State.topology_disconnectorClose hk hg).trans (s.disconnectorClose_refuses hsure ha hb)
        intro crossed doubtful
        refine ⟨fun hx => ?_, fun hx hy => ?_, fun hx hy => ?_⟩
        · exact h.topology_refuses hs (hrule.trans (if_pos hx)) hq
        · exact h.topology_refuses hs (hrule.trans ((if_neg hx).trans (if_pos hy))) hq
        · exact h.topology_refuses hs (hrule.trans ((if_neg hx).trans (if_neg hy))) hq
      · exact h.topology_refuses hs ((State.topology_earthClose hk hg).trans (if_pos (Colour.pl_iff.2 hl))) hq

end Sys2Proof.Machine
end

section
/-! The two searches (R65 to R67): the nodes that a step adds, and what it decides. -/

namespace Sys2Proof.Machine

/-! ### The nodes that a step adds -/

/-- R65: the nodes that are new, and each once. -/
theorem mem_newNodes {found l : List Nat} {m : Nat} : m ∈ newNodes found l ↔ m ∉ found ∧ m ∈ l := by
  induction l generalizing found with
  | nil => simp [newNodes]
  | cons x xs ih =>
    unfold newNodes
    by_cases hx : x ∈ found
    · rw [if_pos (by simpa using hx), ih, List.mem_cons]
      exact ⟨fun ⟨hm, hxs⟩ => ⟨hm, .inr hxs⟩, fun ⟨hm, hl⟩ => ⟨hm, hl.resolve_left (fun he => hm (he ▸ hx))⟩⟩
    · rw [if_neg (by simpa using hx), List.mem_cons, ih, List.mem_cons, List.mem_cons]
      by_cases hm : m = x
      · simp [hm, hx]
      · simp [hm]

theorem newNodes_nodup (found l : List Nat) : (newNodes found l).Nodup := by
  induction l generalizing found with
  | nil => exact List.nodup_nil
  | cons x xs ih =>
    unfold newNodes
    split
    · exact ih found
    · exact List.nodup_cons.2 ⟨fun hx => (mem_newNodes.1 hx).1 List.mem_cons_self, ih (x :: found)⟩

/-- R33, R65, R66: the far ends of the other apparatus at a node whose position passes. -/
theorem State.mem_neighbours {s : State} {c : Colouring} (hi : c.initial = false) {closed : Pos → Bool} {a n m : Nat} :
    m ∈ s.neighbours c closed a n ↔ ∃ x ∈ s.force.apparatus, x.number ≠ a ∧ (x.a = n ∨ x.b = n) ∧
      closed (c.position x.number) = true ∧ x.otherEnd n = m := by
  simp only [State.neighbours, hi, Bool.false_eq_true, if_false, List.mem_map, List.mem_filter, AppDesc.atNode,
    Bool.and_eq_true, Bool.or_eq_true, bne_iff_ne, beq_iff_eq, and_assoc]

/-- R65, R66: the nodes that a search of the movement of apparatus `d` adds when it takes node `n`. -/
def State.fresh (s : State) (c : Colouring) (d : AppDesc) (closed : Pos → Bool) (found : List Nat) (n : Nat) : List Nat :=
  newNodes found (s.neighbours c closed d.number n)

section
variable {s : State} {c : Colouring} {d : AppDesc} {found : List Nat} {n : Nat} {closed : Pos → Bool} {Closed : Pos → Prop}

theorem State.mem_fresh (hi : c.initial = false) (hc : ∀ p, closed p = true ↔ Closed p) {m : Nat} :
    m ∈ s.fresh c d closed found n ↔ m ∉ found ∧ ∃ x ∈ s.force.apparatus, x.number ≠ d.number ∧ (x.a = n ∨ x.b = n) ∧
      Closed (c.position x.number) ∧ x.otherEnd n = m := by
  simp only [State.fresh, mem_newNodes, State.mem_neighbours hi, hc]

/-- A node all of whose edges lead to nodes found before adds nothing. -/
theorem State.fresh_nil (hi : c.initial = false) (hc : ∀ p, closed p = true ↔ Closed p)
    (h : ∀ x ∈ s.force.apparatus, x.number ≠ d.number → x.a = n ∨ x.b = n → Closed (c.position x.number) →
      x.otherEnd n ∈ found) : s.fresh c d closed found n = [] := by
  refine List.eq_nil_iff_forall_not_mem.2 fun m hm => ?_
  obtain ⟨hnew, x, hx, hne, hat, hcl, rfl⟩ := (State.mem_fresh hi hc).1 hm
  exact hnew (h x hx hne hat hcl)

end

theorem Pos.surelyClosed_iff (p : Pos) : p.surelyClosed = true ↔ p = .closed := beq_iff_eq

theorem Pos.possiblyClosed_iff (p : Pos) : p.possiblyClosed = true ↔ p ≠ .opened := bne_iff_ne

/-! ### The bypass search (R65) -/

section
variable {s : State} {c : Colouring} {d : AppDesc} {found rest : List Nat} {n : Nat}

theorem State.bypassStep_meets (hb : d.b ∈ s.fresh c d Pos.surelyClosed found n) :
    s.bypassStep c d found (n :: rest) = .permitted (s.sureComponent c d.a) :=
  if_pos (List.contains_iff_mem.2 hb)

theorem State.bypassStep_goes_on (hb : d.b ∉ s.fresh c d Pos.surelyClosed found n)
    (hr : rest ++ s.fresh c d Pos.surelyClosed found n ≠ []) : s.bypassStep c d found (n :: rest) =
      .bypass (found ++ s.fresh c d Pos.surelyClosed found n) (rest ++ s.fresh c d Pos.surelyClosed found n) :=
  (if_neg (mt List.contains_iff_mem.1 hb)).trans (if_neg (mt List.isEmpty_iff.1 hr))

theorem State.bypassStep_exhausted (hb : d.b ∉ s.fresh c d Pos.surelyClosed found n)
    (hr : rest ++ s.fresh c d Pos.surelyClosed found n = []) :
    s.bypassStep c d found (n :: rest) = .stub false [d.a] [d.a] :=
  (if_neg (mt List.contains_iff_mem.1 hb)).trans (if_pos (List.isEmpty_iff.2 hr))

end

/-! ### The stub search (R66, R67) -/

theorem State.isTerminal_iff {s : State} {n : Nat} :
    s.isTerminal n = true ↔ ∃ y, s.nodeDesc n = some y ∧ y.kind = .terminal := by
  unfold State.isTerminal
  cases s.nodeDesc n <;> simp

section
variable {s : State} {c : Colouring} {d : AppDesc} {side : Bool} {found fresh rest : List Nat} {n : Nat}
  (hf : s.fresh c d Pos.possiblyClosed found n = fresh)
include hf

theorem State.stubStep_terminal (ht : ∃ m ∈ found ++ fresh, s.isTerminal m = true) :
    s.stubStep c d side found (n :: rest) = stubFails d side := by
  subst hf
  obtain ⟨m, hm, ht⟩ := ht
  rcases List.mem_append.1 hm with hold | hnew
  · exact if_pos (List.any_eq_true.2 ⟨m, hold, ht⟩)
  · exact ite_eq_left_iff.2 fun _ => if_pos (List.any_eq_true.2 ⟨m, hnew, ht⟩)

/-- With no TERMINAL found, the search ends when its frontier is empty. -/
theorem State.stubStep_dead (ht : ¬ ∃ m ∈ found ++ fresh, s.isTerminal m = true) :
    s.stubStep c d side found (n :: rest) =
      if (rest ++ fresh).isEmpty then .stage (.permitted (s.nodesWith (found ++ fresh).contains))
      else .stage (.stub side (found ++ fresh) (rest ++ fresh)) := by
  subst hf
  rw [← List.any_eq_true, List.any_append, Bool.or_eq_true, not_or] at ht
  exact (if_neg ht.1).trans (if_neg ht.2)

end

namespace State.Evaluates

variable {s : State} {v : Evaluation} {e : Entry} {d : AppDesc} (h : s.Evaluates v e d)
  {side : Bool} {found fresh rest : List Nat} {n : Nat} (hs : v.stage = .stub side found (n :: rest))
  (hf : s.fresh v.publication d Pos.possiblyClosed found n = fresh)
include h hs hf

/-- R66: a step of the stub search that finds no TERMINAL, and has nodes left to take. -/
theorem stub_goes_on (ht : ¬ ∃ m ∈ found ++ fresh, s.isTerminal m = true) (hr : rest ++ fresh ≠ []) :
    exec .stubSearchStep s =
      .next { s with evaluation := some { v with stage := .stub side (found ++ fresh) (rest ++ fresh) } } := by
  rw [h.exec_stub hs, State.stubStep_dead hf ht, if_neg (mt List.isEmpty_iff.1 hr)]
  rfl

/-- R66: a step of the stub search that finds no TERMINAL, and has no node left to take. -/
theorem stub_permits (ht : ¬ ∃ m ∈ found ++ fresh, s.isTerminal m = true) (hr : rest ++ fresh = []) :
    s.Permits .stubSearchStep v (· ∈ found ++ fresh) := by
  refine ⟨_, ?_, fun m => State.mem_nodesWith.trans (and_congr_right fun _ => List.contains_iff_mem)⟩
  rw [h.exec_stub hs, State.stubStep_dead hf ht, if_pos (List.isEmpty_iff.2 hr)]
  rfl

/-- R67: a step of the stub search that finds a TERMINAL. -/
theorem stub_fails (ht : ∃ m ∈ found ++ fresh, s.isTerminal m = true) :
    exec .stubSearchStep s = .next (s.takeResult v (stubFails d side)) := by
  rw [h.exec_stub hs, State.stubStep_terminal hf ht]

end State.Evaluates

/-! ### The steps of the searches -/

/-- Settles O48: each clause by what the step does with the nodes it adds. -/
theorem searchStepsAct : Obligations.SearchStepsAct := by
  unfold Obligations.SearchStepsAct
  intro s v e d hr hv he hd hi other goes permitted adds
  have h : s.Evaluates v e d := ⟨hr, hv, he, hd⟩
  refine ⟨fun found n rest hs hb => ⟨fun ⟨x, hx, hne, hat, hcl, hmeet⟩ => ?_, fun hold hrest => ?_, fun hold hrest => ?_, ?_⟩,
    fun found n rest hs ⟨m, hm, ht⟩ => ?_, fun side found n hs ht hold => ?_, fun side found n rest hs => ?_,
    fun n => State.isTerminal_iff⟩
  · have hfresh := (State.mem_fresh hi Pos.surelyClosed_iff).2 ⟨hb, x, hx, hne, hat, hcl, hmeet⟩
    refine ⟨s.sureComponent v.publication d.a, ?_, fun m =>
      State.mem_nodesWith.trans (and_congr_right fun _ => Colouring.sameSure_iff)⟩
    rw [h.exec_bypass hs, State.bypassStep_meets hfresh]
    rfl
  · have hnil := State.fresh_nil hi Pos.surelyClosed_iff hold
    rw [h.exec_bypass hs, State.bypassStep_goes_on (by simp [hnil]) (by simpa [hnil] using hrest), hnil, List.append_nil,
      List.append_nil]
    rfl
  · have hnil := State.fresh_nil hi Pos.surelyClosed_iff hold
    rw [h.exec_bypass hs, State.bypassStep_exhausted (by simp [hnil]) (by simpa [hnil] using hrest)]
    rfl
  · refine ⟨s.fresh v.publication d Pos.surelyClosed found n,
      ⟨newNodes_nodup _ _, fun m => State.mem_fresh hi Pos.surelyClosed_iff⟩, fun hb hr => ?_, fun hb hr => ?_⟩
    · rw [h.exec_bypass hs, State.bypassStep_goes_on hb hr]
      rfl
    · rw [h.exec_bypass hs, State.bypassStep_exhausted hb hr]
      rfl
  · rw [h.stub_fails hs rfl ⟨m, List.mem_append_left _ hm, ht⟩]
    rfl
  · have hnil := State.fresh_nil hi Pos.possiblyClosed_iff hold
    have hdone := h.stub_permits hs hnil (by simpa using ht) rfl
    rwa [List.append_nil] at hdone
  · refine ⟨s.fresh v.publication d Pos.possiblyClosed found n,
      ⟨newNodes_nodup _ _, fun m => State.mem_fresh hi Pos.possiblyClosed_iff⟩, ?_⟩
    intro terminal
    refine ⟨fun ht hside => ?_, fun ht hside hst hc hp hcalm => ?_, fun ht hr => ?_, fun ht hr => ?_⟩
    · rw [h.stub_fails hs rfl ht, hside]
      rfl
    · obtain ⟨t, hexec, hfree, hretired, -⟩ :=
        h.refuses (h.stub_fails hs rfl ht) (why := .loadPath) (by rw [hside]; rfl) ⟨hst, hc, hp, hcalm⟩
      exact ⟨t, hexec, hfree, hretired⟩
    · exact h.stub_goes_on hs rfl ht hr
    · exact h.stub_permits hs rfl ht hr

end Sys2Proof.Machine
end

section
/-! The re-offer event (R86) and the grant of the evaluator (R76 to R78). -/

namespace Sys2Proof.Machine

/-- Settles O14: the DEFERRED entries return one by one, and their tickets are those of the DEFERRED entries alone. -/
theorem reofferReturnsDeferred : Obligations.ReofferReturnsDeferred := by
  unfold Obligations.ReofferReturnsDeferred
  intro s hd hm hw hmute
  rw [State.run_reoffer hd hm hw hmute, ← State.requeued_deferredTickets hd]
  rfl

/-! ### Eligible tickets (R76) -/

theorem State.eligible_iff {s : State} {e : Entry} : s.eligible e = true ↔
    e.state = .queued ∧ (s.port e.owner).priority ≠ 0 ∧
      ((s.mode ≠ .freezing ∧ s.mode ≠ .frozen) ∨ s.heldBack e = false) := by
  have hfreeze : s.mode.isFreeze = false ↔ s.mode ≠ .freezing ∧ s.mode ≠ .frozen := by
    cases s.mode <;> simp [Mode.isFreeze]
  simp only [State.eligible, State.muted, Bool.and_eq_true, Bool.not_eq_true', beq_iff_eq, Bool.and_eq_false_iff,
    hfreeze, beq_eq_false_iff_ne, ne_eq, and_assoc, and_comm (a := ¬ (s.port e.owner).priority = 0)]

theorem State.eligibleTicket_iff {s : State} {n : Nat} : s.eligibleTicket n = true ↔
    ∃ e, s.entry n = some e ∧ s.eligible e = true := by
  unfold State.eligibleTicket
  cases s.entry n <;> simp

/-! ### The port of the highest priority (R77) -/

/-- Of the numbers below `k` that pass `ok`, `b` is the lowest of those with the highest key, and none if there are none. -/
structure BestBelow (ok : Nat → Bool) (key : Nat → Nat) (k : Nat) (b : Option Nat) : Prop where
  empty : b = none → ∀ q, q < k → ok q = false
  best : ∀ p, b = some p → p < k ∧ ok p = true ∧
    ∀ q, q < k → ok q = true → key q < key p ∨ (key q = key p ∧ p ≤ q)

theorem BestBelow.skip {ok : Nat → Bool} {key : Nat → Nat} {k : Nat} {b : Option Nat} (h : BestBelow ok key k b)
    (hk : ok k = false) : BestBelow ok key (k + 1) b where
  empty := fun hb q hq => by
    rcases Nat.lt_succ_iff_lt_or_eq.1 hq with hq | rfl
    · exact h.empty hb q hq
    · exact hk
  best := fun p hp => by
    obtain ⟨hlt, hok, hbest⟩ := h.best p hp
    refine ⟨Nat.lt_succ_of_lt hlt, hok, fun q hq hqok => ?_⟩
    rcases Nat.lt_succ_iff_lt_or_eq.1 hq with hq | rfl
    · exact hbest q hq hqok
    · rw [hk] at hqok
      cases hqok

theorem BestBelow.first {ok : Nat → Bool} {key : Nat → Nat} {k : Nat} (h : BestBelow ok key k none)
    (hk : ok k = true) : BestBelow ok key (k + 1) (some k) where
  empty := fun hb => by cases hb
  best := fun p hp => by
    obtain rfl := Option.some.inj hp
    refine ⟨Nat.lt_succ_self k, hk, fun q hq hqok => ?_⟩
    rcases Nat.lt_succ_iff_lt_or_eq.1 hq with hq | rfl
    · rw [h.empty rfl q hq] at hqok
      cases hqok
    · exact .inr ⟨rfl, Nat.le_refl _⟩

/-- A later number takes the place of an earlier one by a higher key alone. -/
theorem BestBelow.challenge {ok : Nat → Bool} {key : Nat → Nat} {k p : Nat} (h : BestBelow ok key k (some p))
    (hk : ok k = true) : BestBelow ok key (k + 1) (if key k > key p then some k else some p) where
  empty := fun hb => by split at hb <;> cases hb
  best := fun x hx => by
    obtain ⟨hlt, hok, hbest⟩ := h.best p rfl
    by_cases hkey : key k > key p
    · rw [if_pos hkey] at hx
      obtain rfl := Option.some.inj hx
      refine ⟨Nat.lt_succ_self _, hk, fun q hq hqok => ?_⟩
      rcases Nat.lt_succ_iff_lt_or_eq.1 hq with hq | rfl
      · rcases hbest q hq hqok with h1 | ⟨h1, -⟩ <;> omega
      · exact .inr ⟨rfl, Nat.le_refl _⟩
    · rw [if_neg hkey] at hx
      obtain rfl := Option.some.inj hx
      refine ⟨Nat.lt_succ_of_lt hlt, hok, fun q hq hqok => ?_⟩
      rcases Nat.lt_succ_iff_lt_or_eq.1 hq with hq | rfl
      · exact hbest q hq hqok
      · omega

/-- The port's queue holds an eligible ticket. -/
def State.offersTicket (s : State) (p : Nat) : Bool := (s.port p).queue.any s.eligibleTicket

/-- R77: port `p` takes the place of the best port so far when it offers a ticket at a higher priority. -/
def State.betterPort (s : State) (best : Option Nat) (p : Nat) : Option Nat :=
  if s.offersTicket p then
    best.elim (some p) (fun q => if (s.port p).priority > (s.port q).priority then some p else some q)
  else best

theorem State.bestPort_eq (s : State) : s.bestPort = (List.range 24).foldl s.betterPort none := by
  unfold State.bestPort
  congr 1
  funext best p
  cases best <;> rfl

theorem State.bestPort_bestBelow (s : State) :
    BestBelow s.offersTicket (fun p => (s.port p).priority) 24 s.bestPort := by
  have key : ∀ k, BestBelow s.offersTicket (fun p => (s.port p).priority) k
      ((List.range k).foldl s.betterPort none) := by
    intro k
    induction k with
    | zero => exact ⟨fun _ q hq => absurd hq (Nat.not_lt_zero q), fun p hp => by cases hp⟩
    | succ k ih =>
      rw [List.range_succ, List.foldl_append, List.foldl_cons, List.foldl_nil]
      generalize (List.range k).foldl s.betterPort none = b at ih
      unfold State.betterPort
      cases hk : s.offersTicket k with
      | false => exact ih.skip hk
      | true =>
        cases b with
        | none => exact ih.first hk
        | some p => exact ih.challenge hk
  rw [State.bestPort_eq]
  exact key 24

/-! ### The candidate (R77) -/

section
variable {s : State}

theorem State.candidate_coupled {n : Nat} (h : s.coupled.find? s.eligibleTicket = some n) : s.candidate = some n := by
  simp only [State.candidate, h]

theorem State.candidate_uncoupled (h : ∀ n ∈ s.coupled, s.eligibleTicket n = false) :
    s.candidate = s.bestPort.bind (fun p => (s.port p).queue.find? s.eligibleTicket) := by
  have hnone : s.coupled.find? s.eligibleTicket = none := List.find?_eq_none.2 fun n hn => by simp [h n hn]
  simp only [State.candidate, hnone]
  cases s.bestPort <;> rfl

theorem State.candidate_eligible {n : Nat} (h : s.candidate = some n) : s.eligibleTicket n = true := by
  cases hc : s.coupled.find? s.eligibleTicket with
  | some m =>
    rw [State.candidate_coupled hc] at h
    obtain rfl := Option.some.inj h
    exact List.find?_some hc
  | none =>
    rw [State.candidate_uncoupled fun m hm => by simpa using List.find?_eq_none.1 hc m hm] at h
    obtain ⟨p, -, hp⟩ := Option.bind_eq_some_iff.1 h
    exact List.find?_some hp

theorem State.candidate_queued (hc : ∀ n ∈ s.coupled, s.eligibleTicket n = false) {n : Nat}
    (h : s.candidate = some n) : ∃ p before later, p < 24 ∧ (s.port p).queue = before ++ n :: later ∧
      s.eligibleTicket n = true ∧ (∀ m ∈ before, s.eligibleTicket m = false) ∧
      ∀ q m, q < 24 → m ∈ (s.port q).queue → s.eligibleTicket m = true →
        (s.port q).priority < (s.port p).priority ∨ ((s.port q).priority = (s.port p).priority ∧ p ≤ q) := by
  rw [State.candidate_uncoupled hc] at h
  obtain ⟨p, hp, hfind⟩ := Option.bind_eq_some_iff.1 h
  obtain ⟨hn, before, later, hqueue, hbefore⟩ := List.find?_eq_some_iff_append.1 hfind
  obtain ⟨hlt, -, hbest⟩ := s.bestPort_bestBelow.best p hp
  exact ⟨p, before, later, hlt, hqueue, hn, fun m hm => by simpa using hbefore m hm,
    fun q m hq hm he => hbest q hq (List.any_eq_true.2 ⟨m, hm, he⟩)⟩

theorem State.candidate_ne_none {p n : Nat} (hp : p < 24) (hn : n ∈ (s.port p).queue) (he : s.eligibleTicket n = true) :
    s.candidate ≠ none := by
  intro hnone
  by_cases hc : ∀ m ∈ s.coupled, s.eligibleTicket m = false
  · rw [State.candidate_uncoupled hc] at hnone
    cases hb : s.bestPort with
    | none =>
      have hoffers : s.offersTicket p = true := List.any_eq_true.2 ⟨n, hn, he⟩
      rw [s.bestPort_bestBelow.empty hb p hp] at hoffers
      cases hoffers
    | some q =>
      obtain ⟨m, hm, hme⟩ := List.any_eq_true.1 (s.bestPort_bestBelow.best q hb).2.1
      rw [hb, Option.bind_some, List.find?_eq_none] at hnone
      exact hnone m hm hme
  · simp only [not_forall, Bool.not_eq_false] at hc
    obtain ⟨m, hm, hme⟩ := hc
    cases hf : s.coupled.find? s.eligibleTicket with
    | none => exact List.find?_eq_none.1 hf m hm hme
    | some x => rw [State.candidate_coupled hf] at hnone; cases hnone

/-! ### The grant (R78) -/

theorem exec_grant (hr : s.heldInReset = false) : exec .grant s = .next s.grant :=
  congrArg _ (s.whenRunning_running State.grant hr)

theorem State.grant_no_candidate (hv : s.evaluation = none) (hc : s.candidate = none) : s.grant = s := by
  simp only [State.grant, hv, hc]

theorem State.grant_candidate {n : Nat} {e : Entry} (hv : s.evaluation = none) (hc : s.candidate = some n)
    (he : s.entry n = some e) : s.grant =
      { s.modEntry n (fun x => { x with state := .evaluating }) with evaluation := some (s.newEvaluation e) } := by
  simp only [State.grant, hv, hc, he]

/-- R79: an apparatus lies in a set when one of its terminals does. -/
theorem State.liesIn_apparatus {a : Nat} {l : List Nat} : s.liesIn (.apparatus a) l = true ↔
    ∃ d, s.appDesc a = some d ∧ (d.a ∈ l ∨ d.b ∈ l) := by
  cases h : s.appDesc a <;> simp [State.liesIn, h]

theorem State.liesIn_node {n : Nat} {l : List Nat} : s.liesIn (.node n) l = true ↔ n ∈ l := List.contains_iff_mem

section
variable (s : State) (e : Entry)

/-- R70: the candidate reach is the possible components of the footprint's nodes. -/
theorem State.newEvaluation_reach {m : Nat} : m ∈ (s.newEvaluation e).candidateReach ↔
    (∃ y ∈ s.force.nodes, y.number = m) ∧
      ∃ k ∈ e.footprint, (s.published.node k).possible = (s.published.node m).possible := by
  simp only [State.newEvaluation, State.possibleRegion, State.mem_nodesWith, List.any_eq_true,
    Colouring.samePossible_iff]

theorem State.newEvaluation_markedApps {a : Nat} : a ∈ (s.newEvaluation e).markedApps ↔
    (∃ r ∈ s.apps, r.number = a ∧ r.marker = true) ∧ ∃ d, s.appDesc a = some d ∧
      (d.a ∈ e.footprint ++ (s.newEvaluation e).candidateReach ∨
        d.b ∈ e.footprint ++ (s.newEvaluation e).candidateReach) := by
  rw [← State.liesIn_apparatus]
  simp only [State.newEvaluation, List.mem_map, List.mem_filter, Bool.and_eq_true]
  constructor
  · rintro ⟨r, ⟨hr, hm, hl⟩, rfl⟩
    exact ⟨⟨r, hr, rfl, hm⟩, hl⟩
  · rintro ⟨⟨r, hr, rfl, hm⟩, hl⟩
    exact ⟨r, ⟨hr, hm, hl⟩, rfl⟩

theorem State.newEvaluation_markedNodes {m : Nat} : m ∈ (s.newEvaluation e).markedNodes ↔
    (∃ r ∈ s.nodes, r.number = m ∧ r.marker = true) ∧ m ∈ e.footprint ++ (s.newEvaluation e).candidateReach := by
  simp only [State.newEvaluation, List.mem_map, List.mem_filter, Bool.and_eq_true, State.liesIn_node]
  constructor
  · rintro ⟨r, ⟨hr, hm, hl⟩, rfl⟩
    exact ⟨⟨r, hr, rfl, hm⟩, hl⟩
  · rintro ⟨⟨r, hr, rfl, hm⟩, hl⟩
    exact ⟨r, ⟨hr, hm, hl⟩, rfl⟩

end

end

/-- Settles O46: the candidate is the first eligible ticket of its list, the port is the best of the fold over all ports,
and a grant starts the evaluation of the candidate's entry. -/
theorem grantChooses : Obligations.GrantChooses := by
  unfold Obligations.GrantChooses
  intro s hr hv
  refine ⟨fun n hc => ?_, fun e _ => State.eligible_iff, fun n before later hl hn hbefore => ?_,
    fun hc n h => State.candidate_queued hc h, fun ⟨p, n, hp, hn, he⟩ => State.candidate_ne_none hp hn he,
    fun hc => ?_⟩
  · obtain ⟨e, he, heligible⟩ := State.eligibleTicket_iff.1 (State.candidate_eligible hc)
    refine ⟨e, s.newEvaluation e, he, heligible, ?_, (State.entry_mem he).2, rfl, rfl, rfl, rfl,
      fun _ => s.newEvaluation_reach e, fun _ => s.newEvaluation_markedApps e, fun _ => s.newEvaluation_markedNodes e⟩
    rw [exec_grant hr, State.grant_candidate hv hc he]
    rfl
  · exact State.candidate_coupled (List.find?_eq_some_iff_append.2
      ⟨hn, before, later, hl, fun m hm => by simpa using hbefore m hm⟩)
  · rw [exec_grant hr, State.grant_no_candidate hv hc]

end Sys2Proof.Machine
end

section
/-! The reservation test (R83) and the closing event (R82, R84, R85, R99, R110). -/

namespace Sys2Proof.Machine

/-! ### The retirement of an entry outside a programme (R117) -/

section
variable {s : State} {e : Entry}

theorem State.dropCarry_alone (hp : e.programme = none) : s.dropCarry e = (s, false) := by
  simp only [State.dropCarry, hp]

/-- R117: outside a programme and SETTLING, a retirement may test FROZEN, and is a re-offer event. -/
theorem State.retire_alone (he : s.entry e.ticket = some e) (hs : e.state ≠ .settling) (hp : e.programme = none)
    (o : MoveOutcome) : s.retire e.ticket o =
      (s.retiredBy e o, (if e.state.held && s.heldBack e then [.testFrozen] else []) ++ [.reoffer]) := by
  simp only [State.retire, he, State.dropCarry_alone hp, ite_self, State.settlingJudgement, hs, hp, if_false,
    List.nil_append, List.append_nil, Bool.false_eq_true]
  rfl

/-- With the only DEFERRED entry retired, a re-offer event finds nothing to return. -/
theorem State.retiredBy_calm_of_calmBut (h : s.calmBut e.ticket) (o : MoveOutcome) : (s.retiredBy e o).calm := by
  refine ⟨fun x hx hst => ?_, (s.retiredBy_waitingOrder e o).trans h.2⟩
  rw [State.retiredBy_entries, List.mem_filter, decide_eq_true_iff] at hx
  exact hx.2 (h.1 x hx.1 hst)

/-- R117: nothing follows from a retirement that leaves a calm state, and tests FROZEN outside FREEZING alone. -/
theorem State.worksOff_retire_alone (he : s.entry e.ticket = some e) (hs : e.state ≠ .settling)
    (hp : e.programme = none) (hc : s.calmBut e.ticket) (hm : e.state.held = true → s.mode ≠ .freezing)
    (o : MoveOutcome) : s.WorksOff [.retire e.ticket o] 3 (s.retiredBy e o).marked := by
  have htest : (s.retiredBy e o).WorksOff (if e.state.held && s.heldBack e then [.testFrozen] else []) 1
      (s.retiredBy e o) := by
    cases hh : e.state.held with
    | false => exact (State.worksOff_nil _).mono (Nat.zero_le 1)
    | true => exact (State.worksOff_testFrozen (by rw [State.retiredBy_mode]; exact hm hh)).ite _
  refine State.WorksOff.cons (s.retire_alone he hs hp o) ?_
  rw [List.append_nil]
  exact htest.append (State.retiredBy_calm_of_calmBut hc o).worksOff_reoffer

/-- The mark of the re-offer event is no part of a retirement. -/
theorem State.retiredBy_marked_retired (s : State) (e : Entry) (o : MoveOutcome) :
    s.Retired (s.retiredBy e o).marked e o :=
  (s.retiredBy_retired e o).before_pass _ _

end

/-! ### The reservation test (R83, R88) -/

theorem meet_iff {x y : List Nat} : meet x y = true ↔ ∃ n ∈ x, n ∈ y := by
  simp [meet, List.any_eq_true]

/-- R83: two reservations are in conflict unless only their reaches meet. -/
theorem Reservation.conflicts_iff {x y : Reservation} : x.conflicts y = true ↔
    ∃ n, (n ∈ x.footprint ∧ n ∈ y.footprint) ∨ (n ∈ x.footprint ∧ n ∈ y.reach) ∨ (n ∈ x.reach ∧ n ∈ y.footprint) := by
  simp only [Reservation.conflicts, Bool.or_eq_true, meet_iff, exists_or, or_assoc]

theorem EntryState.held_iff (x : EntryState) : x.held = true ↔
    x = .released ∨ x = .revoking ∨ x = .travelling ∨ x = .settling := by
  cases x <;> decide

theorem State.mem_entryReservations {s : State} {y : Reservation} : y ∈ s.entryReservations ↔ ∃ x ∈ s.entries,
    (x.state = .released ∨ x.state = .revoking ∨ x.state = .travelling ∨ x.state = .settling) ∧
    y = { footprint := x.footprint, reach := x.reach.getD [] } := by
  simp only [State.entryReservations, List.mem_map, List.mem_filter, EntryState.held_iff, and_assoc, eq_comm (b := y)]

/-- R90: the carry of a movement's own programme is not tested. -/
theorem State.mem_carryReservations {s : State} {own : Option (Nat × Nat)} {y : Reservation} :
    y ∈ s.carryReservations (own.map Prod.fst) ↔
      ∃ g ∈ s.programmes, g.carry = some y ∧ ∀ t k, own = some (t, k) → g.ticket ≠ t := by
  simp only [State.carryReservations, List.mem_filterMap, List.mem_filter, bne_iff_ne, ne_eq]
  refine exists_congr fun g => ?_
  rcases own with - | ⟨t, k⟩
  · simp
  · simp [and_assoc, and_comm (a := g.carry = some y)]

theorem State.conflict_iff {s : State} {e : Entry} {reach : List Nat} : s.conflict e reach = true ↔
    ∃ y : Reservation,
      ((∃ x ∈ s.entries,
          (x.state = .released ∨ x.state = .revoking ∨ x.state = .travelling ∨ x.state = .settling) ∧
          y = { footprint := x.footprint, reach := x.reach.getD [] }) ∨
        (∃ g ∈ s.programmes, g.carry = some y ∧ ∀ t k, e.programme = some (t, k) → g.ticket ≠ t)) ∧
      ∃ n, (n ∈ e.footprint ∧ n ∈ y.footprint) ∨ (n ∈ e.footprint ∧ n ∈ y.reach) ∨ (n ∈ reach ∧ n ∈ y.footprint) := by
  simp only [State.conflict, List.any_eq_true, List.mem_append, State.mem_entryReservations,
    State.mem_carryReservations, Reservation.conflicts_iff]

/-! ### What the closing event tests (R57, R58, R79, R82) -/

/-- R82: no grant mark lies in the region. -/
theorem State.settledAtGrant_iff {s : State} {v : Evaluation} {region : List Nat} :
    s.settledAtGrant v region = true ↔
      (∀ a ∈ v.markedApps, ∀ d, s.appDesc a = some d → d.a ∉ region ∧ d.b ∉ region) ∧
      ∀ n ∈ v.markedNodes, n ∉ region := by
  have happ : ∀ a, s.liesIn (.apparatus a) region = false ↔
      ∀ d, s.appDesc a = some d → d.a ∉ region ∧ d.b ∉ region := by
    intro a
    rw [Bool.eq_false_iff, ne_eq, State.liesIn_apparatus]
    simp only [not_exists, not_and, not_or]
  have hnode : ∀ n, s.liesIn (.node n) region = false ↔ n ∉ region := by
    intro n
    rw [Bool.eq_false_iff, ne_eq, State.liesIn_node]
  simp only [State.settledAtGrant, Bool.and_eq_true, List.all_eq_true, Bool.not_eq_true', happ, hnode]

theorem Flags4.any_iff (x : Flags4) : x.any = true ↔ ∃ c, x.get c = true := by
  constructor
  · intro h
    simp only [Flags4.any, Bool.or_eq_true] at h
    rcases h with ((h | h) | h) | h
    · exact ⟨.driveLockout, h⟩
    · exact ⟨.localControl, h⟩
    · exact ⟨.driveSupply, h⟩
    · exact ⟨.gasPressure, h⟩
  · rintro ⟨c, h⟩
    cases c <;> simp only [Flags4.get] at h <;> simp [Flags4.any, h]

/-- R58: the flag that blocks, by its condition. -/
theorem State.blocked_iff_flag {s : State} {a : Nat} : s.blocked a = true ↔
    ∃ r c, s.app a = some r ∧ (r.present.get c = true ∨ r.latched.get c = true) := by
  simp only [State.blocked_iff, Flags4.any_iff, ← exists_or, exists_and_left]

theorem State.overflowMark_iff {s : State} {a : Nat} : s.overflowMark a = true ↔
    ∃ r, s.app a = some r ∧ r.overflow = true := by
  unfold State.overflowMark
  cases s.app a <;> simp

/-- R57: check 3 as the table and the mark stand, of any apparatus. -/
theorem State.restricted_iff_described {s : State} {a : Nat} {g : Target} {footprint : List Nat} :
    s.restricted a g footprint = true ↔ s.overflowMark a = true ∨
      ∃ d, s.appDesc a = some d ∧ ∃ r ∈ s.restrictions, r.forbids d.kind a g footprint = true := by
  cases hd : s.appDesc a with
  | none => simp [State.restricted, hd]
  | some d => simp [State.restricted_iff hd]

/-- 08: what a freeze lets pass. -/
theorem State.heldBack_false {s : State} {e : Entry} {d : AppDesc} (hd : s.appDesc e.apparatus = some d)
    (h : d.kind = .breaker ∧ e.target = .opened) : s.heldBack e = false := by
  simp [State.heldBack, State.isBreakerOpening, hd, h.1, h.2]

/-! ### The ends of an evaluation (R110) -/

/-- R117: entry `e` has retired, and the evaluator is free. -/
def State.closedBy (s : State) (e : Entry) (o : MoveOutcome) : State :=
  State.retiredBy { s with evaluation := none } e o

theorem State.closedBy_retired (s : State) (e : Entry) (o : MoveOutcome) :
    (s.closedBy e o).evaluation = none ∧ s.Retired (s.closedBy e o) e o ∧
    (s.closedBy e o).restrictions = s.restrictions :=
  ⟨State.retiredBy_evaluation _ e o rfl,
    State.Retired.of_published (State.retiredBy_retired { s with evaluation := none } e o) rfl rfl,
    State.retiredBy_restrictions _ e o⟩

theorem State.run_retire_closed {s : State} {e : Entry} (he : s.entry e.ticket = some e) (hs : e.state = .evaluating)
    (hp : e.programme = none) (hc : s.calm) (o : MoveOutcome) :
    State.run { s with evaluation := none } [.retire e.ticket o] = s.closedBy e o := by
  have hwork := State.worksOff_retire_alone (s := { s with evaluation := none }) he (by rw [hs]; decide) hp
    ⟨fun x hx hst => absurd hst (hc.1 x hx), hc.2⟩ (fun hh => by rw [hs] at hh; cases hh) o
  rw [State.marked_of_free (State.retiredBy_evaluation _ e o rfl)] at hwork
  exact hwork.run (by decide)

/-- R85, R86, R152: the fields that a deferral writes, by what holds the entry back and by the re-offer mark. -/
def Entry.deferred (c : DeferralCause) (limit : Time) (held reoffer : Bool) (y : Entry) : Entry :=
  { y with
    state := if held then .suspended else if reoffer then .queued else .deferred
    cause := some c, deadline := some (y.deadline.getD limit) }

/-- R85, R86, R152: a deferral, where a clock runs or is loaded, and the owner is not muted. -/
theorem State.defer_clocked {s : State} {e : Entry} (he : s.entry e.ticket = some e) (hm : s.muted e.owner = false)
    (hd : e.deadline ≠ none ∨ s.force.settings.deferralLimit ≠ 0) (c : DeferralCause) (reoffer : Bool) :
    s.defer e c reoffer = s.modEntry e.ticket
      (Entry.deferred c s.force.settings.deferralLimit (s.mode.isFreeze && s.heldBack e) reoffer) := by
  have hlimit : ¬ (e.deadline = none ∧ s.force.settings.deferralLimit = 0) := fun h => hd.elim (· h.1) (· h.2)
  simp only [State.defer, if_neg hlimit]
  cases hheld : s.mode.isFreeze && s.heldBack e with
  | true => simp only [if_true, Bool.not_true, Bool.and_false, Bool.false_eq_true, if_false]; rfl
  | false =>
    cases reoffer with
    | false => simp only [Bool.false_and, Bool.false_eq_true, if_false]; rfl
    | true =>
      have hentry := s.entry_modEntry e.ticket e.ticket (Entry.deferred c s.force.settings.deferralLimit false false)
        (fun _ => rfl)
      rw [he, Option.map_some, if_pos rfl] at hentry
      have hqueued := (State.worksOff_enqueue (s := s.modEntry e.ticket
        (Entry.deferred c s.force.settings.deferralLimit false false)) hentry hm hheld).run (by decide)
      rw [State.modEntry_modEntry _ _ _ _ (by exact fun _ => rfl)] at hqueued
      exact hqueued

/-! ### The release (R90, R99, R130) -/

/-- R99: the entry is released, and its ticket has left its queue and been sent to the reporting port. -/
def State.givenRelease (s : State) (e : Entry) (d : AppDesc) (reach : List Nat) : State :=
  ((s.modEntry e.ticket (fun x => x.released reach s.now d.startWindow)).queueLeave e.owner e.ticket).notify d.port
    (.release e.ticket e.apparatus e.target d.startWindow)

section
variable (s : State) (e : Entry) (d : AppDesc) (reach : List Nat)

theorem State.givenRelease_eq : ∃ l, s.givenRelease e d reach =
    { s.modEntry e.ticket (fun x => x.released reach s.now d.startWindow) with ports := l } :=
  State.notify_ports _ _ _

@[simp] theorem State.givenRelease_entries : (s.givenRelease e d reach).entries =
    s.entries.map (fun x => if x.ticket = e.ticket then x.released reach s.now d.startWindow else x) := by
  obtain ⟨l, h⟩ := s.givenRelease_eq e d reach; rw [h]; rfl
@[simp] theorem State.givenRelease_evaluation : (s.givenRelease e d reach).evaluation = s.evaluation := by
  obtain ⟨l, h⟩ := s.givenRelease_eq e d reach; rw [h]; rfl
@[simp] theorem State.givenRelease_programmes : (s.givenRelease e d reach).programmes = s.programmes := by
  obtain ⟨l, h⟩ := s.givenRelease_eq e d reach; rw [h]; rfl
@[simp] theorem State.givenRelease_waitingOrder : (s.givenRelease e d reach).waitingOrder = s.waitingOrder := by
  obtain ⟨l, h⟩ := s.givenRelease_eq e d reach; rw [h]; rfl

theorem State.givenRelease_frame :
    { s.givenRelease e d reach with entries := s.entries, ports := s.ports } = s := by
  obtain ⟨l, h⟩ := s.givenRelease_eq e d reach; rw [h]; rfl

/-- A released entry is not DEFERRED. -/
theorem State.givenRelease_calm (h : s.calm) : (s.givenRelease e d reach).calm := by
  refine ⟨fun x hx hst => ?_, (s.givenRelease_waitingOrder e d reach).trans h.2⟩
  rw [State.givenRelease_entries] at hx
  obtain ⟨y, hy, rfl⟩ := List.mem_map.1 hx
  split at hst
  · cases hst
  · exact h.1 y hy hst

theorem State.givenRelease_queue : ((s.givenRelease e d reach).port e.owner).queue =
    (s.port e.owner).queue.filter (· ≠ e.ticket) := by
  rw [State.givenRelease, (State.notify_gains _ _ _).queue, State.queueLeave_queue, if_pos rfl]
  rfl

theorem State.givenRelease_notice (ha : (s.port d.port).state = .active)
    (hc : noticeCount (s.port d.port).transmit < 32) :
    Outgoing.notice (.release e.ticket e.apparatus e.target d.startWindow) ∈
      ((s.givenRelease e d reach).port d.port).transmit := by
  refine State.notify_mem _ _ _ ?_ ?_
  · rw [State.queueLeave_state]
    exact ha
  · rw [State.queueLeave_transmit]
    exact hc

variable {s d} in
/-- R99, R125, R130: with no programme waiting, a release brings no more about than the re-offer of a dropped carry. -/
theorem State.release_eq (hd : s.appDesc e.apparatus = some d) {u : State} {dropped : Bool}
    (hu : s.dropCarry e = (u, dropped)) (hnow : u.now = s.now) (huw : u.waitingOrder = []) :
    s.release e reach = (u.givenRelease e d reach).run (if dropped then [.reoffer] else []) := by
  have hwait : (u.givenRelease e d reach).waitingOf e.owner = [] := by
    rw [State.waitingOf, State.givenRelease_waitingOrder, huw]
    rfl
  unfold State.givenRelease at hwait ⊢
  rw [hnow] at hwait ⊢
  simp only [State.release, hd, hu, hwait, List.map_nil, ite_self, List.append_nil]

end

/-! ### The closing event (R82) -/

section
variable {s : State} {v : Evaluation} {e : Entry} {reach : List Nat}

theorem State.closingVerdict_unsettled (h : s.settledAtGrant v (e.footprint ++ reach) = false) :
    s.closingVerdict v e reach = .defer .unsettled := by
  simp only [State.closingVerdict, h, Bool.not_false, if_true]

variable (h : s.settledAtGrant v (e.footprint ++ reach) = true)
include h

theorem State.closingVerdict_reserved (hc : s.conflict e reach = true) :
    s.closingVerdict v e reach = .defer .reserved := by
  simp only [State.closingVerdict, h, hc, Bool.not_true, Bool.false_eq_true, if_false, if_true]

variable (hc : s.conflict e reach = false)
include hc

theorem State.closingVerdict_restricted (hr : s.restricted e.apparatus e.target e.footprint = true) :
    s.closingVerdict v e reach = .refuse .restricted := by
  simp only [State.closingVerdict, h, hc, hr, Bool.not_true, Bool.false_eq_true, if_false, if_true]

variable (hr : s.restricted e.apparatus e.target e.footprint = false)
include hr

theorem State.closingVerdict_blocked (hb : s.blocked e.apparatus = true) :
    s.closingVerdict v e reach = .refuse .blocked := by
  simp only [State.closingVerdict, h, hc, hr, hb, Bool.not_true, Bool.false_eq_true, if_false, if_true]

theorem State.closingVerdict_permit (hb : s.blocked e.apparatus = false) :
    s.closingVerdict v e reach = .permit reach := by
  simp only [State.closingVerdict, h, hc, hr, hb, Bool.not_true, Bool.false_eq_true, if_false]

end

/-- R110: after the closing event the evaluator is free, and entry `e` has retired with an outcome. -/
def State.ClosesWith (s : State) (e : Entry) (o : MoveOutcome) : Prop :=
  ∃ t, exec .closingEvent s = .next t ∧ t.evaluation = none ∧ s.Retired t e o ∧ t.restrictions = s.restrictions

namespace State.Evaluates

variable {s : State} {v : Evaluation} {e : Entry} {d : AppDesc} {reach : List Nat} (h : s.Evaluates v e d)
  (hs : v.stage = .permitted reach)
include h

theorem ticket : e.ticket = v.ticket := (State.entry_mem h.entry).2

theorem entry_own : s.entry e.ticket = some e := by rw [h.ticket]; exact h.entry

theorem closing_cancelled (hcancel : e.cancelPending = true) : s.endEvaluation (s.closingVerdict v e reach) =
    State.run { s with evaluation := none } [.retire e.ticket .cancelled] := by
  simp only [State.endEvaluation, h.evaluation, h.entry, hcancel, if_true]

/-- R57, R58, R81: a restriction and a blocking flag refuse the movement. -/
theorem closing_refused {why : Reason} (hcancel : e.cancelPending = false)
    (hv : s.closingVerdict v e reach = .refuse why) (hwhy : why ≠ .alreadyThere) :
    s.endEvaluation (s.closingVerdict v e reach) =
      State.run { s with evaluation := none } [.retire e.ticket (.refused why)] := by
  simp only [hv, State.endEvaluation, h.evaluation, h.entry, hcancel, Bool.false_eq_true, if_false, State.endRefused,
    hwhy, false_and]

theorem closing_deferred {c : DeferralCause} (hcancel : e.cancelPending = false)
    (hv : s.closingVerdict v e reach = .defer c) : s.endEvaluation (s.closingVerdict v e reach) =
      State.endDeferred { s with evaluation := none } e v c := by
  simp only [hv, State.endEvaluation, h.evaluation, h.entry, hcancel, Bool.false_eq_true, if_false]

theorem closing_permitted (hcancel : e.cancelPending = false)
    (hv : s.closingVerdict v e reach = .permit reach) : s.endEvaluation (s.closingVerdict v e reach) =
      State.endPermitted { s with evaluation := none } e v reach := by
  simp only [hv, State.endEvaluation, h.evaluation, h.entry, hcancel, Bool.false_eq_true, if_false]

section
variable {c : DeferralCause} (hcancel : e.cancelPending = false) (hv : s.closingVerdict v e reach = .defer c)
include hcancel hv

/-- R75, R84: a deferral on a muted port. -/
theorem closing_muted (hm : s.muted e.owner = true) : s.endEvaluation (s.closingVerdict v e reach) =
    State.run { s with evaluation := none } [.retire e.ticket (.refused .portMuted)] := by
  have hm' : State.muted { s with evaluation := none } e.owner = true := hm
  rw [h.closing_deferred hcancel hv, State.endDeferred, if_pos hm']

/-- R84, R87: a deferral whose clock has expired during the evaluation. -/
theorem closing_expired (hm : s.muted e.owner = false) (hx : v.expired = true) :
    s.endEvaluation (s.closingVerdict v e reach) =
      State.run { s with evaluation := none } [.retire e.ticket (.refused c.reason)] := by
  have hm' : State.muted { s with evaluation := none } e.owner = false := hm
  rw [h.closing_deferred hcancel hv, State.endDeferred, hm', if_neg Bool.false_ne_true, if_pos hx]

/-- R84, R85: a deferral with a deferral limit of 0. -/
theorem closing_unclocked (hm : s.muted e.owner = false) (hx : v.expired = false) (hd : e.deadline = none)
    (hl : s.force.settings.deferralLimit = 0) : s.endEvaluation (s.closingVerdict v e reach) =
      State.run { s with evaluation := none } [.retire e.ticket (.refused c.reason)] := by
  have hm' : State.muted { s with evaluation := none } e.owner = false := hm
  rw [h.closing_deferred hcancel hv, State.endDeferred, hm', hx, if_neg Bool.false_ne_true,
    if_neg Bool.false_ne_true, State.defer, if_pos ⟨hd, hl⟩]

end

include hs

/-- R82: the closing event ends the evaluation in flight with its verdict. -/
theorem exec_closing : exec .closingEvent s = .next (s.endEvaluation (s.closingVerdict v e reach)) := by
  have hexec : exec .closingEvent s = .next (s.whenRunning State.closing) := rfl
  rw [hexec, s.whenRunning_running _ h.running]
  simp only [State.closing, h.inFlight, hs]

/-- R110: an end of the evaluation that only retires the entry. -/
theorem closes_with {o : MoveOutcome} (hend : s.endEvaluation (s.closingVerdict v e reach) =
    State.run { s with evaluation := none } [.retire e.ticket o])
    (hst : e.state = .evaluating) (hp : e.programme = none) (hc : s.calm) : s.ClosesWith e o := by
  refine ⟨s.closedBy e o, ?_, s.closedBy_retired e o⟩
  rw [h.exec_closing hs, hend, State.run_retire_closed h.entry_own hst hp hc o]

/-- R84, R85, R86, R152: a deferral that ends nothing writes its fields. -/
theorem closing_defers {c : DeferralCause} (hcancel : e.cancelPending = false)
    (hv : s.closingVerdict v e reach = .defer c) (hm : s.muted e.owner = false) (hx : v.expired = false)
    (hd : e.deadline ≠ none ∨ s.force.settings.deferralLimit ≠ 0) :
    exec .closingEvent s = .next (State.modEntry { s with evaluation := none } v.ticket
      (Entry.deferred c s.force.settings.deferralLimit (s.mode.isFreeze && s.heldBack e) v.reoffer)) := by
  have hm' : State.muted { s with evaluation := none } e.owner = false := hm
  rw [h.exec_closing hs, h.closing_deferred hcancel hv]
  simp only [State.endDeferred, hm', hx, Bool.false_eq_true, if_false]
  rw [State.defer_clocked (s := { s with evaluation := none }) h.entry_own hm hd, h.ticket]
  rfl

/-- R84, R99: a permission that nothing holds back. -/
theorem exec_release (hcancel : e.cancelPending = false) (hv : s.closingVerdict v e reach = .permit reach)
    (hf : (s.mode.isFreeze && s.heldBack e) = false) :
    exec .closingEvent s = .next (State.release { s with evaluation := none } e reach) := by
  have hf' : (s.mode.isFreeze && State.heldBack { s with evaluation := none } e) = false := hf
  rw [h.exec_closing hs, h.closing_permitted hcancel hv]
  simp only [State.endPermitted, hf', Bool.false_eq_true, if_false]

/-- R99: outside a programme the release is all that happens. -/
theorem exec_release_alone (hcancel : e.cancelPending = false) (hv : s.closingVerdict v e reach = .permit reach)
    (hf : (s.mode.isFreeze && s.heldBack e) = false) (hw : s.waitingOrder = []) (hp : e.programme = none) :
    exec .closingEvent s = .next (State.givenRelease { s with evaluation := none } e d reach) := by
  rw [h.exec_release hs hcancel hv hf,
    State.release_eq (s := { s with evaluation := none }) e reach h.desc (State.dropCarry_alone hp) rfl hw]
  exact congrArg _ (State.run_nil _)

/-- R90, R99, R130: the release of the coupled movement of a programme, and the carry that it drops. -/
theorem exec_release_coupled {g : Programme} {k : Nat} (hcancel : e.cancelPending = false)
    (hv : s.closingVerdict v e reach = .permit reach) (hf : (s.mode.isFreeze && s.heldBack e) = false) (hc : s.calm)
    (hp : e.programme = some (g.ticket, k)) (hg : s.programme g.ticket = some g) (hcoupled : e.coupled = true)
    (hm : g.movement = some e.ticket) :
    (g.carry = none → exec .closingEvent s = .next (State.givenRelease { s with evaluation := none } e d reach)) ∧
    (g.carry.isSome = true → exec .closingEvent s = .next
      (State.givenRelease (State.modProgramme { s with evaluation := none } g.ticket (fun q => { q with carry := none }))
        e d reach)) := by
  have hg' : State.programme { s with evaluation := none } g.ticket = some g := hg
  refine ⟨fun hcarry => ?_, fun hcarry => ?_⟩
  · have hdrop : State.dropCarry { s with evaluation := none } e = ({ s with evaluation := none }, false) := by
      simp only [State.dropCarry, hp, hg', hcarry, Option.isSome_none, Bool.false_eq_true, and_false, if_false]
    rw [h.exec_release hs hcancel hv hf,
      State.release_eq (s := { s with evaluation := none }) e reach h.desc hdrop rfl hc.2]
    exact congrArg _ (State.run_nil _)
  · have hdrop : State.dropCarry { s with evaluation := none } e =
        (State.modProgramme { s with evaluation := none } g.ticket (fun q => { q with carry := none }), true) := by
      simp only [State.dropCarry, hp, hg', hcoupled, hm, hcarry, and_self, if_true]
    rw [h.exec_release hs hcancel hv hf,
      State.release_eq (s := { s with evaluation := none }) e reach h.desc hdrop rfl hc.2]
    have hcalm := State.givenRelease_calm
      (State.modProgramme { s with evaluation := none } g.ticket (fun q => { q with carry := none })) e d reach hc
    exact congrArg _ (hcalm.run_reoffer.trans (State.marked_of_free (State.givenRelease_evaluation _ e d reach)))

/-- R87, R99, R152: a permission that a freeze holds back suspends the entry, or ends it where the clock has expired. -/
theorem closing_held_back (hcancel : e.cancelPending = false) (hv : s.closingVerdict v e reach = .permit reach)
    (hf : (s.mode.isFreeze && s.heldBack e) = true) :
    (v.expired = false → exec .closingEvent s = .next
      (State.modEntry { s with evaluation := none } v.ticket (fun y => { y with state := .suspended }))) ∧
    (v.expired = true → s.endEvaluation (s.closingVerdict v e reach) =
      State.run { s with evaluation := none } [.retire e.ticket (.refused e.causeReason)]) := by
  have hf' : (s.mode.isFreeze && State.heldBack { s with evaluation := none } e) = true := hf
  refine ⟨fun hx => ?_, fun hx => ?_⟩
  · rw [h.exec_closing hs, h.closing_permitted hcancel hv, ← h.ticket]
    simp only [State.endPermitted, hf', hx, if_true, Bool.false_eq_true, if_false]
  · rw [h.closing_permitted hcancel hv]
    simp only [State.endPermitted, hf', hx, if_true]

end State.Evaluates

/-- R87: the reason with which a cause ends an entry. -/
theorem DeferralCause.reason_eq (c : DeferralCause) :
    c.reason = if c = .reserved then .zoneEngaged else .unsettled := by
  cases c <;> rfl

/-- Settles O49: a reservation is held by an entry or as a carry, and a conflict defers a settled permission. -/
theorem reservationTest : Obligations.ReservationTest := by
  unfold Obligations.ReservationTest
  intro s
  refine ⟨fun e reach => State.conflict_iff, fun v e d reach hr hv he hd hs hcancel hm hx hreoffer hfree hclock hsettled
    hconflict => ?_⟩
  have hfree : (s.mode.isFreeze && s.heldBack e) = false := by rwa [Bool.and_eq_false_iff]
  rw [State.Evaluates.closing_defers ⟨hr, hv, he, hd⟩ hs hcancel (State.closingVerdict_reserved hsettled hconflict) hm hx
    hclock, hfree, hreoffer]
  rfl

/-- Settles O50: the verdict decides between a release, a retirement and the fields that a deferral writes. -/
theorem closingReleases : Obligations.ClosingReleases := by
  unfold Obligations.ClosingReleases
  refine ⟨?_, ?_, fun s v region => State.settledAtGrant_iff,
    fun s a g footprint => ⟨State.restricted_iff_described, State.overflowMark_iff, State.blocked_iff_flag⟩⟩
  · intro s v e d reach hr hv he hd hs hcancel hw hfree hsettled hconflict hrestricted hblocked released
    have h : s.Evaluates v e d := ⟨hr, hv, he, hd⟩
    have hverdict := State.closingVerdict_permit hsettled hconflict hrestricted hblocked
    have hf : (s.mode.isFreeze && s.heldBack e) = false :=
      Bool.and_eq_false_iff.2 (hfree.imp_right (State.heldBack_false hd))
    have hreleased : s.entries.map (fun x => if x.ticket = e.ticket then x.released reach s.now d.startWindow else x) =
        released := by
      rw [h.ticket]
      rfl
    refine ⟨fun hp => ?_, fun g k hp hg hcoupled hm hc => ?_⟩
    · exact ⟨_, h.exec_release_alone hs hcancel hverdict hf hw hp, State.givenRelease_evaluation _ e d reach,
        (State.givenRelease_entries _ e d reach).trans hreleased, State.givenRelease_queue _ e d reach,
        State.givenRelease_notice { s with evaluation := none } e d reach,
        congrArg (fun u : State => { u with evaluation := s.evaluation })
          (State.givenRelease_frame { s with evaluation := none } e d reach)⟩
    · obtain ⟨hkept, hdropped⟩ := h.exec_release_coupled hs hcancel hverdict hf hc hp hg hcoupled hm
      cases hcarry : g.carry with
      | none =>
        exact ⟨_, hkept hcarry, State.givenRelease_evaluation _ e d reach,
          (State.givenRelease_entries _ e d reach).trans hreleased, (nomatch ·),
          fun _ => State.givenRelease_programmes _ e d reach⟩
      | some c =>
        exact ⟨_, hdropped (by rw [hcarry]; rfl), State.givenRelease_evaluation _ e d reach,
          (State.givenRelease_entries _ e d reach).trans hreleased,
          fun _ => State.givenRelease_programmes _ e d reach, (nomatch ·)⟩
  · intro s v e d reach hr hv he hd hs settled conflict heldBack ends becomes
    have h : s.Evaluates v e d := ⟨hr, hv, he, hd⟩
    refine ⟨fun hcancel => h.closes_with hs (h.closing_cancelled hcancel),
      fun hcancel => ⟨fun c hcause => ?_, fun hsettled hconflict => ⟨fun hx => ?_, fun hx hb => ?_,
        fun hx hb hheld => ?_⟩⟩⟩
    · have hverdict : s.closingVerdict v e reach = .defer c := by
        rcases hcause with ⟨hsettled, rfl⟩ | ⟨hsettled, hconflict, rfl⟩
        · exact State.closingVerdict_unsettled hsettled
        · exact State.closingVerdict_reserved hsettled hconflict
      rw [← DeferralCause.reason_eq]
      exact ⟨fun hm => h.closes_with hs (h.closing_muted hcancel hverdict hm),
        fun hm hx => h.closes_with hs (h.closing_expired hcancel hverdict hm hx),
        fun hm hx hnone hlimit => h.closes_with hs (h.closing_unclocked hcancel hverdict hm hx hnone hlimit),
        h.closing_defers hs hcancel hverdict⟩
    · exact h.closes_with hs (h.closing_refused hcancel
        (State.closingVerdict_restricted hsettled hconflict hx) (by decide))
    · exact h.closes_with hs (h.closing_refused hcancel
        (State.closingVerdict_blocked hsettled hconflict hx hb) (by decide))
    · obtain ⟨hsuspends, hends⟩ := h.closing_held_back hs hcancel
        (State.closingVerdict_permit hsettled hconflict hx hb) hheld
      refine ⟨hsuspends, fun hexpired c hcause => ?_⟩
      have hreason : e.causeReason = c.reason := by rw [Entry.causeReason, hcause]
      rw [← DeferralCause.reason_eq, ← hreason]
      exact h.closes_with hs (hends hexpired)

end Sys2Proof.Machine
end

section
/-! The expiries of an entry's timer (R87, R100, R103, R154). -/

namespace Sys2Proof.Machine

/-! ### What an expiry comes to, by the state of the entry -/

section
variable {s : State} {n : Nat} {e : Entry} (hr : s.heldInReset = false) (he : s.entry n = some e)
  (hd : e.deadline = some 0)
include hr he hd

/-- R87: the clock of an entry that waits ends it by its cause. -/
theorem exec_deferralClockExpiry_waiting (hst : e.state = .queued ∨ e.state = .deferred) :
    exec (.deferralClockExpiry n) s = .next (s.run [.retire n (.refused e.causeReason)]) := by
  have hexec : exec (.deferralClockExpiry n) s = .next (s.whenRunning (fun s0 => s0.deferralExpiry n)) := rfl
  have hdue : e.due = true := by rw [Entry.due, hd]; rfl
  rw [hexec, s.whenRunning_running _ hr]
  rcases hst with hst | hst <;> simp only [State.deferralExpiry, he, hdue, if_true, hst]

theorem exec_deferralClockExpiry_evaluating (hst : e.state = .evaluating) : exec (.deferralClockExpiry n) s = .next
    { s with evaluation := s.evaluation.map (fun v => { v with expired := true }) } := by
  have hexec : exec (.deferralClockExpiry n) s = .next (s.whenRunning (fun s0 => s0.deferralExpiry n)) := rfl
  have hdue : e.due = true := by rw [Entry.due, hd]; rfl
  rw [hexec, s.whenRunning_running _ hr]
  simp only [State.deferralExpiry, he, hdue, if_true, hst]

/-- R100, R154: the start window by the state and the flavour of the entry. -/
theorem exec_startWindowExpiry :
    (e.state = .released → exec (.startWindowExpiry n) s = .next ((s.sendRevoke e).run [.retire n .lapsed])) ∧
    (e.state = .revoking → e.flavour ≠ some .freeze →
      exec (.startWindowExpiry n) s = .next (s.run [.retire n .cancelled])) ∧
    (e.state = .revoking → e.flavour = some .freeze → exec (.startWindowExpiry n) s = .next (s.freezeReturn e)) := by
  have hexec : exec (.startWindowExpiry n) s = .next (s.whenRunning (fun s0 => s0.startWindowExpiry n)) := rfl
  have hdue : e.due = true := by rw [Entry.due, hd]; rfl
  rw [hexec, s.whenRunning_running _ hr]
  refine ⟨fun hst => ?_, fun hst hf => ?_, fun hst hf => ?_⟩
  · simp only [State.startWindowExpiry, he, hdue, if_true, hst]
  · simp only [State.startWindowExpiry, he, hdue, if_true, hst, if_neg hf]
  · simp only [State.startWindowExpiry, he, hdue, if_true, hst, if_pos hf]

theorem exec_travelDeadlineExpiry (hst : e.state = .travelling) :
    exec (.travelDeadlineExpiry n) s = .next (s.run [.retire n .timedOut, .inspect e.apparatus]) := by
  have hexec : exec (.travelDeadlineExpiry n) s = .next (s.whenRunning (fun s0 => s0.travelExpiry n)) := rfl
  have hdue : e.due = true := by rw [Entry.due, hd]; rfl
  rw [hexec, s.whenRunning_running _ hr]
  simp only [State.travelExpiry, he, hdue, hst, and_self, if_true]

end

/-! ### A retirement after a REVOKE (R100, R117) -/

section
variable {s : State} {e : Entry}

/-- R117: a retirement that follows an update of the transmit lists which takes at most one notice place. -/
theorem State.retired_after_notice {u : State} (hu : s.OnlyPorts u) (hg : s.Gains u)
    (hn : ∀ q, noticeCount (u.port q).transmit ≤ noticeCount (s.port q).transmit + 1) (o : MoveOutcome) :
    s.Retired (u.retiredBy e o).marked e o := by
  have hplain := State.retiredBy_marked_retired u e o
  have hnotice : (s.port e.owner).state = .active → noticeCount (s.port e.owner).transmit < 31 →
      Outgoing.notice (.movementEnded e.ticket o e.operatingTime) ∈ ((u.retiredBy e o).port e.owner).transmit :=
    fun ha hc => u.retiredBy_notice e o ((hg.state e.owner).trans ha)
      (Nat.lt_of_le_of_lt (hn e.owner) (Nat.succ_lt_succ hc))
  have hqueue := hg.queue
  rw [hu.eq] at hplain hnotice hqueue ⊢
  exact {
    entries := hplain.entries, ended := hplain.ended, coupled := hplain.coupled, record := hplain.record
    inputs := hplain.inputs, nodes := hplain.nodes, programmes := hplain.programmes, published := hplain.published
    force := hplain.force, stored := hplain.stored, notice := hnotice
    queues := fun p => by rw [hplain.queues p, hqueue p] }

theorem State.sendRevoke_eq {q : Nat} (hq : s.reportingPort e.apparatus = some q) :
    s.sendRevoke e = s.notify q (.revoke e.ticket e.apparatus) := by
  simp only [State.sendRevoke, hq]

theorem State.sendRevoke_count (s : State) (e : Entry) (q : Nat) :
    noticeCount ((s.sendRevoke e).port q).transmit ≤ noticeCount (s.port q).transmit + 1 := by
  cases hq : s.reportingPort e.apparatus with
  | none => simp only [State.sendRevoke, hq]; exact Nat.le_succ _
  | some p => rw [State.sendRevoke_eq hq]; exact s.notify_count _ _ _

/-- A retirement keeps the frames that stand in the transmit lists. -/
theorem State.retiredBy_keeps (s : State) (e : Entry) (o : MoveOutcome) {q : Nat} {x : Outgoing}
    (hx : x ∈ (s.port q).transmit) : x ∈ ((s.retiredBy e o).port q).transmit := by
  refine (s.retiredBy_gains e o).mem ?_
  rw [State.takeOut_port, State.queueLeave_transmit]
  exact hx

/-- R100, R113, R167: a RELEASED entry outside a programme is revoked and retires. -/
theorem State.run_revoked (he : s.entry e.ticket = some e) (hst : e.state = .released) (hp : e.programme = none)
    (hc : s.calmBut e.ticket) (hm : s.mode ≠ .freezing) (o : MoveOutcome) :
    s.Retired ((s.sendRevoke e).run [.retire e.ticket o]) e o ∧
    ((s.sendRevoke e).run [.retire e.ticket o]).restrictions = s.restrictions ∧
    ∀ q, s.reportingPort e.apparatus = some q → (s.port q).state = .active →
      noticeCount (s.port q).transmit < 32 →
      Outgoing.notice (.revoke e.ticket e.apparatus) ∈
        (((s.sendRevoke e).run [.retire e.ticket o]).port q).transmit := by
  have honly := s.sendRevoke_onlyPorts e
  have hretired := State.retired_after_notice (e := e) honly (s.sendRevoke_gains e) (s.sendRevoke_count e) o
  have hrun : (s.sendRevoke e).run [.retire e.ticket o] = ((s.sendRevoke e).retiredBy e o).marked := by
    rw [honly.eq]
    exact (State.worksOff_retire_alone (s := { s with ports := (s.sendRevoke e).ports }) he (by rw [hst]; decide) hp hc
      (fun _ => hm) o).run (by decide)
  rw [hrun]
  refine ⟨hretired, ?_, fun q hq ha hn => ?_⟩
  · refine (State.retiredBy_restrictions (s.sendRevoke e) e o).trans ?_
    rw [honly.eq]
  · refine State.retiredBy_keeps (s.sendRevoke e) e o ?_
    rw [State.sendRevoke_eq hq]
    exact s.notify_mem q _ ha hn

/-! ### The return of an entry that a freeze has revoked (R154) -/

/-- R86, R151: an entry of a port that is not muted becomes SUSPENDED where a freeze holds it back, and QUEUED otherwise. -/
theorem State.worksOff_enqueue_unmuted {t : Nat} (he : s.entry t = some e) (hm : s.muted e.owner = false) :
    s.WorksOff [.enqueue t] 1 (s.modEntry t (fun x =>
      { x with state := if s.mode.isFreeze && s.heldBack e then .suspended else .queued })) := by
  refine State.WorksOff.cons (new := []) ?_ (State.worksOff_nil _)
  cases hf : s.mode.isFreeze && s.heldBack e <;>
    simp only [State.runTask, State.enqueue, he, hm, hf, Bool.false_eq_true, if_false, if_true]

/-- R154: the fields of an entry that returns, by what holds it back. -/
def Entry.returnedTo (held : Bool) (x : Entry) : Entry :=
  { x with
    state := if held then .suspended else .queued
    reach := none, deadline := none, releaseTime := none, flavour := none, voidCount := 0, cause := none }

/-- R154: the entry has returned to the head of its queue. -/
def State.returnedBy (s : State) (e : Entry) : State :=
  (s.modEntry e.ticket (Entry.returnedTo (s.mode.isFreeze && s.heldBack e))).queueHead e.owner e.ticket

theorem State.returnedBy_calm (hc : s.calmBut e.ticket) : (s.returnedBy e).calm := by
  refine ⟨fun x hx hst => ?_, hc.2⟩
  obtain ⟨y, hy, rfl⟩ := List.mem_map.1 hx
  by_cases ht : y.ticket = e.ticket
  · rw [if_pos ht] at hst
    simp only [Entry.returnedTo] at hst
    split at hst <;> cases hst
  · rw [if_neg ht] at hst
    exact ht (hc.1 y hy hst)

/-- R154: outside FREEZING, with room in its queue, a freeze-flavoured REVOKING entry returns, and no more follows than the
re-offer event of its freeing. -/
theorem State.freezeReturn_returns (he : s.entry e.ticket = some e) (hcoupled : e.coupled = false)
    (hq : (s.port e.owner).queue.length < 4) (hm : s.muted e.owner = false) (hc : s.calmBut e.ticket)
    (hmode : s.mode ≠ .freezing) : s.freezeReturn e = (s.returnedBy e).marked := by
  have hroom : s.queueFull e.owner = false := decide_eq_false (Nat.not_le.2 hq)
  have hentry := s.entry_modEntry e.ticket e.ticket Entry.returned (fun _ => rfl)
  rw [he, Option.map_some, if_pos rfl] at hentry
  have hmuted : ((s.modEntry e.ticket Entry.returned).queueHead e.owner e.ticket).muted e.owner = false := by
    unfold State.muted State.queueHead
    rw [State.port_modPort]
    split <;> exact hm
  have hfirst := State.worksOff_enqueue_unmuted
    (s := (s.modEntry e.ticket Entry.returned).queueHead e.owner e.ticket) hentry hmuted
  have hreturned : ((s.modEntry e.ticket Entry.returned).queueHead e.owner e.ticket).modEntry e.ticket
      (fun x => { x with state := if s.mode.isFreeze && s.heldBack e then .suspended else .queued }) =
      s.returnedBy e := by
    have hfields := s.modEntry_modEntry e.ticket Entry.returned
      (fun x => { x with state := if s.mode.isFreeze && s.heldBack e then .suspended else .queued }) (fun _ => rfl)
    exact congrArg (fun u : State => u.queueHead e.owner e.ticket) hfields
  have hfirst : ((s.modEntry e.ticket Entry.returned).queueHead e.owner e.ticket).WorksOff [.enqueue e.ticket] 1
      (s.returnedBy e) := by
    rw [← hreturned]
    exact hfirst
  simp only [State.freezeReturn, hcoupled, hroom, Bool.false_eq_true, if_false]
  exact (hfirst.append (((State.worksOff_testFrozen (s := s.returnedBy e) hmode).ite _).append
    (State.returnedBy_calm hc).worksOff_reoffer)).run (by decide)

theorem State.returnedBy_queue (hm : s.muted e.owner = false) : ((s.returnedBy e).port e.owner).queue =
    e.ticket :: (s.port e.owner).queue.filter (· ≠ e.ticket) := by
  have hlisted : e.owner < s.ports.length := State.listed_of_not_muted hm
  unfold State.returnedBy State.queueHead
  rw [State.port_modPort, if_pos ⟨rfl, hlisted⟩]
  rfl

/-! ### The travel deadline (R103, R142) -/

/-- The marks of overflow are no part of a retirement. -/
theorem State.retiredBy_app_overflow (s : State) (e : Entry) (o : MoveOutcome) :
    ((s.retiredBy e o).app e.apparatus).map AppLive.overflow = (s.app e.apparatus).map AppLive.overflow := by
  rw [State.retiredBy_app, Option.map_map]
  rfl

/-- R117: an automatic placing leaves a retirement before it as it was. -/
theorem State.Retired.then_restrictions {u t : State} {o : MoveOutcome} (h : s.Retired u e o)
    (hr : u.OnlyRestrictions t) : s.Retired t e o := by
  have hinputs : t.apps.map AppLive.inputs = u.apps.map AppLive.inputs := by
    have e := congrArg (List.map AppLive.inputs) hr.2
    rwa [List.map_map, List.map_map] at e
  have hrecord := hr.app_map e.apparatus (fun r => (r.ticket, r.lastOutcome)) (fun _ => rfl)
  obtain ⟨⟨A, R, W, rfl⟩, -⟩ := hr
  exact { h with record := hrecord.trans h.record, inputs := hinputs.trans h.inputs }

/-- R103, R117, R142: a TRAVELLING entry retires, and its apparatus is inspected. -/
theorem State.run_retire_inspect (he : s.entry e.ticket = some e) (hs : e.state ≠ .settling) (hp : e.programme = none)
    (hc : s.calmBut e.ticket) (hm : s.mode ≠ .freezing)
    (hone : ∀ x ∈ s.entries, x.apparatus = e.apparatus → x.ticket = e.ticket) (o : MoveOutcome) :
    s.Retired (s.run [.retire e.ticket o, .inspect e.apparatus]) e o ∧
    s.Inspected (s.run [.retire e.ticket o, .inspect e.apparatus]) e.apparatus := by
  have hinspect : (s.retiredBy e o).marked.WorksOff [.inspect e.apparatus] 1
      ((s.retiredBy e o).marked.placeInspect e.apparatus).1 := by
    refine State.worksOff_inspect fun x hx ha => ?_
    have hx : x ∈ (s.retiredBy e o).entries := hx
    rw [State.retiredBy_entries, List.mem_filter, decide_eq_true_iff] at hx
    exact absurd (hone x hx.1 ha) hx.2
  have hrun : s.run [.retire e.ticket o, .inspect e.apparatus] =
      ((s.retiredBy e o).marked.placeInspect e.apparatus).1 :=
    ((State.worksOff_retire_alone he hs hp hc (fun _ => hm) o).append hinspect).run (by decide)
  rw [hrun]
  exact ⟨(State.retiredBy_marked_retired s e o).then_restrictions (State.placeInspect_onlyRestrictions _ _),
    (State.placeInspect_inspected (s.retiredBy e o).marked e.apparatus).congr (s.retiredBy_restrictions e o).symm (s.retiredBy_writes e o).symm
      (s.retiredBy_app_overflow e o).symm rfl rfl rfl⟩

end

/-- Settles O24: an expiry retires the entry, returns it, or is recorded against its evaluation. -/
theorem entryTimersExpire : Obligations.EntryTimersExpire := by
  unfold Obligations.EntryTimersExpire
  intro s n e hr he hd hp hc hm
  obtain rfl : e.ticket = n := (State.entry_mem he).2
  obtain ⟨hlapse, hcancel, hfreeze⟩ := exec_startWindowExpiry hr he hd
  have hretires : ∀ o, e.state ≠ .settling → s.run [.retire e.ticket o] = (s.retiredBy e o).marked :=
    fun o hs => (State.worksOff_retire_alone he hs hp hc (fun _ => hm) o).run (by decide)
  have hplain : ∀ o, s.Retired (s.retiredBy e o).marked e o ∧ (s.retiredBy e o).marked.restrictions = s.restrictions :=
    fun o => ⟨s.retiredBy_marked_retired e o, s.retiredBy_restrictions e o⟩
  refine ⟨fun hst c hcause => ?_, exec_deferralClockExpiry_evaluating hr he hd, fun hst => ?_, fun hst hf => ?_,
    fun hst hf hcoupled hq hmute => ?_, fun hst hone => ?_⟩
  · have hs : e.state ≠ .settling := by rcases hst with h | h <;> rw [h] <;> decide
    have hreason : e.causeReason = c.reason := by rw [Entry.causeReason, hcause]
    rw [exec_deferralClockExpiry_waiting hr he hd hst, hretires _ hs, hreason, ← DeferralCause.reason_eq]
    exact ⟨_, rfl, hplain _⟩
  · exact ⟨_, hlapse hst, State.run_revoked he hst hp hc hm .lapsed⟩
  · rw [hcancel hst (by rw [hf]; decide), hretires _ (by rw [hst]; decide)]
    exact ⟨_, rfl, hplain _⟩
  · rw [hfreeze hst hf, State.freezeReturn_returns he hcoupled hq hmute hc hm]
    exact ⟨_, rfl, rfl, rfl, State.returnedBy_queue hmute⟩
  · exact ⟨_, exec_travelDeadlineExpiry hr he hd hst,
      State.run_retire_inspect he (by rw [hst]; decide) hp hc hm hone .timedOut⟩

end Sys2Proof.Machine
end

section
/-! SET PORT PRIORITY and the muting of a port (R74, R75, R133): every re-offer event that a retirement makes retires the
DEFERRED entries of the muted port that still stand. -/

namespace Sys2Proof.Machine

/-! ### The programmes that stop (R133) -/

theorem State.programme_of_nodup {s : State} (h : (s.programmes.map Programme.ticket).Nodup) {g : Programme}
    (hg : g ∈ s.programmes) : s.programme g.ticket = some g := by
  cases hf : s.programme g.ticket with
  | none => exact absurd (beq_self_eq_true _) (List.find?_eq_none.1 hf g hg)
  | some x =>
    obtain ⟨hx, hxt⟩ := State.programme_mem hf
    rw [List.inj_on_of_nodup_map h hx hg hxt]

/-- R128: a programme has left the table and the waiting order. -/
def State.withoutProgramme (s : State) (g : Programme) : State :=
  { s with
    programmes := s.programmes.filter (fun q => q.ticket ≠ g.ticket)
    waitingOrder := s.waitingOrder.filter (· ≠ g.ticket) }

theorem State.programmeEnded_gains (s : State) (g : Programme) (r : StopReason) : s.Gains (s.programmeEnded g r) :=
  (s.withoutProgramme g).notify_gains _ _

theorem State.programmeEnded_count (s : State) (g : Programme) (r : StopReason) (q : Nat) :
    noticeCount ((s.programmeEnded g r).port q).transmit ≤ noticeCount (s.port q).transmit + 1 :=
  (s.withoutProgramme g).notify_count _ _ q

/-- R128: programmes have ended one after the other. -/
def State.stoppedBy (s : State) (r : StopReason) : List Programme → State
  | [] => s
  | g :: l => (s.programmeEnded g r).stoppedBy r l

section
variable (r : StopReason)

theorem State.stoppedBy_eq (l : List Programme) (s : State) : ∃ P, s.stoppedBy r l = { s with
    programmes := s.programmes.filter (fun q => q.ticket ∉ l.map Programme.ticket)
    waitingOrder := s.waitingOrder.filter (· ∉ l.map Programme.ticket)
    ports := P } := by
  induction l generalizing s with
  | nil => exact ⟨s.ports, by simp [State.stoppedBy]⟩
  | cons g l ih =>
    obtain ⟨Q, hQ⟩ := s.programmeEnded_eq g r
    obtain ⟨P, hP⟩ := ih (s.programmeEnded g r)
    refine ⟨P, hP.trans ?_⟩
    rw [hQ]
    simp only [List.filter_filter, List.map_cons, List.mem_cons, not_or, Bool.decide_and, Bool.and_comm, ne_eq]

theorem State.stoppedBy_gains (l : List Programme) (s : State) : s.Gains (s.stoppedBy r l) := by
  induction l generalizing s with
  | nil => exact State.Gains.refl s
  | cons g l ih => exact (s.programmeEnded_gains g r).trans (ih _)

/-- R128, R166: each programme's notice goes out where there are places for all of them. -/
theorem State.stoppedBy_notice {l : List Programme} {s : State} {g : Programme} (hg : g ∈ l)
    (ha : (s.port g.owner).state = .active) (hc : noticeCount (s.port g.owner).transmit + l.length ≤ 32) :
    Outgoing.notice (.programmeEnded g.ticket g.current (some r)) ∈
      ((s.stoppedBy r l).port g.owner).transmit := by
  induction l generalizing s with
  | nil => cases hg
  | cons x l ih =>
    rw [List.length_cons] at hc
    rcases List.mem_cons.1 hg with rfl | hg
    · exact (State.stoppedBy_gains r l _).mem (State.programmeEnded_notice s g r ha (by omega))
    · have hcount := s.programmeEnded_count x r g.owner
      exact ih hg (((s.programmeEnded_gains x r).state _).trans ha) (by omega)

/-- R125, R128: programmes without a carry stop, and nothing follows. -/
theorem State.worksOff_stop {l : List Programme} {s : State} (hn : (s.programmes.map Programme.ticket).Nodup)
    (hl : (l.map Programme.ticket).Nodup) (hs : ∀ g ∈ l, g ∈ s.programmes) (hc : ∀ g ∈ l, g.carry = none) :
    s.WorksOff (l.map (fun g => .stop g.ticket r)) l.length (s.stoppedBy r l) := by
  induction l generalizing s with
  | nil => exact s.worksOff_nil
  | cons g l ih =>
    obtain ⟨hnew, hl⟩ := List.nodup_cons.1 hl
    have hg := State.programme_of_nodup hn (hs g List.mem_cons_self)
    have hfirst : s.runTask (.stop g.ticket r) = (s.programmeEnded g r, []) := by
      simp only [State.runTask, State.stopProgramme, hg]
      refine Prod.ext rfl ?_
      simp only [State.endProgramme, hc g List.mem_cons_self, Option.isSome_none, Bool.false_eq_true, if_false]
    obtain ⟨P, hP⟩ := s.programmeEnded_eq g r
    refine State.WorksOff.cons hfirst (ih ?_ hl (fun x hx => ?_) (fun x hx => hc x (List.mem_cons_of_mem _ hx)))
    · rw [hP]
      exact hn.sublist (List.filter_sublist.map _)
    · rw [hP]
      have hne : x.ticket ≠ g.ticket := fun he => hnew (he ▸ List.mem_map_of_mem hx)
      exact List.mem_filter.2 ⟨hs x (List.mem_cons_of_mem _ hx), decide_eq_true hne⟩

end

/-! ### The entries that end (R75) -/

/-- R75, R95, R117: between `s` and `t` the entries of `l` have retired REFUSED(PORT_MUTED), in this order. -/
structure State.MutedOut (s t : State) (l : List Entry) : Prop where
  listed : ∀ e ∈ l, e ∈ s.entries
  nodup : (l.map Entry.ticket).Nodup
  entries : t.entries = s.entries.filter (fun x => x.ticket ∉ l.map Entry.ticket)
  ended : ∀ z, z <:+ s.ended → z.length + l.length ≤ 16 →
    z ++ l.map (Entry.endedItem · (.refused .portMuted)) <:+ t.ended
  queues : ∀ q, ∀ n ∈ (t.port q).queue, n ∈ (s.port q).queue ∧ ∀ e ∈ l, e.owner = q → e.ticket ≠ n
  programmes : t.programmes = s.programmes
  waitingOrder : t.waitingOrder = s.waitingOrder
  within : s.Within t

theorem State.MutedOut.refl (s : State) : s.MutedOut s [] where
  listed := fun _ h => by cases h
  nodup := List.nodup_nil
  entries := by simp
  ended := fun z hz _ => by rw [List.map_nil, List.append_nil]; exact hz
  queues := fun _ _ hn => ⟨hn, fun _ h => by cases h⟩
  programmes := rfl
  waitingOrder := rfl
  within := State.Within.refl s

theorem State.MutedOut.marked (s : State) : s.MutedOut s.marked [] :=
  { State.MutedOut.refl s with within := State.within_of_eq rfl rfl rfl rfl }

theorem State.retiredBy_within (s : State) (e : Entry) (o : MoveOutcome) : s.Within (s.retiredBy e o) :=
  (s.takeOut_within e o).trans (State.notify_within _ _ _)

theorem State.MutedOut.retire {s : State} {e : Entry} (he : e ∈ s.entries) :
    s.MutedOut (s.retiredBy e (.refused .portMuted)) [e] where
  listed := fun x hx => List.mem_singleton.1 hx ▸ he
  nodup := List.nodup_singleton _
  entries := by rw [State.retiredBy_entries]; simp
  ended := fun z hz hlen => by
    rw [State.retiredBy_ended, List.map_singleton]
    refine List.suffix_of_suffix_length_le (List.suffix_append_inj_of_length_eq rfl |>.2 ⟨hz, rfl⟩)
      (List.drop_suffix _ _) ?_
    have hle := hz.length_le
    simp only [List.length_append, List.length_drop, List.length_singleton] at hlen ⊢
    omega
  queues := fun q n hn => by
    rw [State.retiredBy_queue] at hn
    by_cases hq : q = e.owner
    · rw [if_pos hq, List.mem_filter, decide_eq_true_iff] at hn
      exact ⟨hn.1, fun x hx _ => by rw [List.mem_singleton.1 hx]; exact Ne.symm hn.2⟩
    · rw [if_neg hq] at hn
      exact ⟨hn, fun x hx ho => absurd (List.mem_singleton.1 hx ▸ ho).symm hq⟩
  programmes := s.retiredBy_programmes e _
  waitingOrder := s.retiredBy_waitingOrder e _
  within := s.retiredBy_within e _

theorem State.MutedOut.trans {s t u : State} {l m : List Entry} (h1 : s.MutedOut t l) (h2 : t.MutedOut u m) :
    s.MutedOut u (l ++ m) := by
  have hlater : ∀ e ∈ m, e ∈ s.entries ∧ e.ticket ∉ l.map Entry.ticket := by
    intro e he
    have hmem := h2.listed e he
    rw [h1.entries, List.mem_filter, decide_eq_true_iff] at hmem
    exact hmem
  refine ⟨fun e he => ?_, ?_, ?_, fun z hz hlen => ?_, fun q n hn => ?_, h2.programmes.trans h1.programmes,
    h2.waitingOrder.trans h1.waitingOrder, h1.within.trans h2.within⟩
  · exact (List.mem_append.1 he).elim (h1.listed e) (fun hm => (hlater e hm).1)
  · rw [List.map_append]
    refine List.Nodup.append h1.nodup h2.nodup fun n hn hm => ?_
    obtain ⟨e, he, rfl⟩ := List.mem_map.1 hm
    exact (hlater e he).2 hn
  · rw [h2.entries, h1.entries, List.filter_filter]
    simp only [List.map_append, List.mem_append, not_or, Bool.decide_and, Bool.and_comm]
  · rw [List.length_append] at hlen
    have hfirst := h1.ended z hz (by omega)
    rw [List.map_append, ← List.append_assoc]
    refine h2.ended _ hfirst ?_
    rw [List.length_append, List.length_map]
    omega
  · obtain ⟨hn, hm⟩ := h2.queues q n hn
    obtain ⟨hn, hl⟩ := h1.queues q n hn
    exact ⟨hn, fun e he => (List.mem_append.1 he).elim (hl e) (hm e)⟩

theorem State.Within.muted {s t : State} (h : s.Within t) (q : Nat) : t.muted q = s.muted q := by
  have e := congrArg Port.priority (h.port q)
  exact congrArg (· == 0) e

/-- R75: the DEFERRED entries of `s` are those of muted ports, outside programmes, so that a re-offer event ends them. -/
structure State.Muting (s : State) : Prop where
  distinct : s.distinct
  waitingOrder : s.waitingOrder = []
  deferred : ∀ e ∈ s.entries, e.state = .deferred → s.muted e.owner = true ∧ e.programme = none

theorem State.Muting.of_mutedOut {s t : State} {l : List Entry} (h : s.Muting) (hl : s.MutedOut t l) : t.Muting where
  distinct := by
    unfold State.distinct
    rw [hl.entries]
    exact h.distinct.sublist (List.filter_sublist.map _)
  waitingOrder := hl.waitingOrder.trans h.waitingOrder
  deferred := fun e he hst => by
    rw [hl.entries] at he
    rw [hl.within.muted]
    exact h.deferred e (List.mem_of_mem_filter he) hst

theorem State.MutedOut.entry_none {s t : State} {l : List Entry} (h : s.MutedOut t l) {n : Nat}
    (hn : n ∈ l.map Entry.ticket ∨ s.entry n = none) : t.entry n = none := by
  refine List.find?_eq_none.2 fun x hx hxn => ?_
  rw [h.entries, List.mem_filter, decide_eq_true_iff] at hx
  rw [beq_iff_eq] at hxn
  rcases hn with hn | hn
  · exact hx.2 (hxn ▸ hn)
  · exact List.find?_eq_none.1 hn x hx.1 (beq_iff_eq.2 hxn)

/-- An entry that has left the table is not offered again. -/
theorem State.worksOff_requeue_gone {s : State} {l : List Nat} (h : ∀ n ∈ l, s.entry n = none) :
    s.WorksOff (l.map .requeue) l.length s := by
  induction l with
  | nil => exact s.worksOff_nil
  | cons n l ih =>
    refine State.WorksOff.cons (new := []) ?_ (ih fun m hm => h m (List.mem_cons_of_mem _ hm))
    simp only [State.runTask, State.requeue, h n List.mem_cons_self]

/-- The DEFERRED entries of the table. -/
def State.deferredEntries (s : State) : List Entry := s.entries.filter (fun e => e.state == .deferred)

theorem State.deferredTickets_eq (s : State) : s.deferredTickets = s.deferredEntries.map Entry.ticket := rfl

/-- The first of the DEFERRED entries retires, and the others still stand. -/
theorem State.deferredEntries_retiredBy {s : State} {e : Entry} {l : List Entry} (h : s.distinct)
    (hl : s.deferredEntries = e :: l) (o : MoveOutcome) : (s.retiredBy e o).deferredEntries = l := by
  have hnodup : ((e :: l).map Entry.ticket).Nodup := by
    rw [← hl]
    exact List.Nodup.sublist (List.filter_sublist.map _) h
  have hfilter : (s.retiredBy e o).deferredEntries = s.deferredEntries.filter (fun x => x.ticket ≠ e.ticket) := by
    simp only [State.deferredEntries, State.retiredBy_entries, List.filter_filter, Bool.and_comm]
  rw [hfilter, hl, List.filter_cons_of_neg (by simp), List.filter_eq_self]
  intro x hx
  exact decide_eq_true fun he => (List.nodup_cons.1 hnodup).1 (he ▸ List.mem_map_of_mem hx)

/-- The most tasks that a re-offer event of `d` DEFERRED entries of muted ports brings about. -/
def reofferBound (d : Nat) : Nat := (d + 1) * (d + 2)

theorem reofferBound_succ (d : Nat) : reofferBound d + d + 3 ≤ reofferBound (d + 1) := by
  unfold reofferBound
  nlinarith

/-- R75, R86: a re-offer event ends the DEFERRED entries of muted ports, each of which makes another re-offer event. -/
theorem State.Muting.worksOff_reoffer {l : List Entry} {s : State} (h : s.Muting) (hl : s.deferredEntries = l) :
    ∃ u, s.WorksOff [.reoffer] (reofferBound l.length) u ∧ s.MutedOut u l := by
  induction l generalizing s with
  | nil =>
    have hcalm : s.calm := by
      refine ⟨fun e he hst => ?_, h.waitingOrder⟩
      have hmem : e ∈ s.deferredEntries := List.mem_filter.2 ⟨he, beq_iff_eq.2 hst⟩
      rw [hl] at hmem
      cases hmem
    exact ⟨s.marked, hcalm.worksOff_reoffer.mono (by decide), State.MutedOut.marked s⟩
  | cons e l ih =>
    obtain ⟨he, hst⟩ : e ∈ s.entries ∧ e.state = .deferred := by
      have hmem : e ∈ s.deferredEntries := by rw [hl]; exact List.mem_cons_self
      simpa [State.deferredEntries] using hmem
    obtain ⟨hmute, hp⟩ := h.deferred e he hst
    have hentry : s.marked.entry e.ticket = some e := h.distinct.entry he
    have hfirst : s.runTask .reoffer = (s.marked, .requeue e.ticket :: (l.map Entry.ticket).map .requeue) := by
      simp only [State.runTask, State.reoffer, h.waitingOrder, State.deferredTickets_eq, hl, List.map_cons, List.map_nil,
        List.append_nil, State.marked]
    have hrequeue : s.marked.runTask (.requeue e.ticket) = (s.marked, [.retire e.ticket (.refused .portMuted)]) := by
      have hmute' : s.marked.muted e.owner = true := hmute
      simp only [State.runTask, State.requeue, State.enqueue, hentry, hst, hmute', if_true]
    have hretire : s.marked.runTask (.retire e.ticket (.refused .portMuted)) =
        (s.marked.retiredBy e (.refused .portMuted), [.reoffer]) := by
      refine (State.retire_alone hentry (by rw [hst]; decide) hp _).trans ?_
      simp only [hst, EntryState.held, Bool.false_and, Bool.false_eq_true, if_false, List.nil_append]
    have hout : s.MutedOut (s.marked.retiredBy e (.refused .portMuted)) [e] :=
      (State.MutedOut.marked s).trans (State.MutedOut.retire (s := s.marked) he)
    obtain ⟨u, hwork, hmuted⟩ := ih (h.of_mutedOut hout)
      (State.deferredEntries_retiredBy (s := s.marked) h.distinct hl _)
    refine ⟨u, ?_, hout.trans hmuted⟩
    have hone : s.marked.WorksOff [.requeue e.ticket] (reofferBound l.length + 2) u :=
      State.WorksOff.cons hrequeue (State.WorksOff.cons hretire hwork)
    have hgone : u.WorksOff ((l.map Entry.ticket).map .requeue) (l.map Entry.ticket).length u :=
      State.worksOff_requeue_gone fun n hn => hmuted.entry_none (.inl hn)
    refine (State.WorksOff.cons hfirst ?_).mono (reofferBound_succ l.length)
    rw [List.append_nil]
    exact (hone.append hgone).mono (by rw [List.length_map]; omega)

/-! ### The retirements of a muting (R75) -/

/-- A retirement whose ticket is gone does nothing. -/
theorem State.runTask_retire_gone {s : State} {n : Nat} (h : s.entry n = none) (o : MoveOutcome) :
    s.runTask (.retire n o) = (s, []) := by
  simp only [State.runTask, State.retire, h]

theorem State.MutedOut.deferredEntries_le {s t : State} {l : List Entry} (h : s.MutedOut t l) :
    t.deferredEntries.length ≤ s.deferredEntries.length := by
  rw [State.deferredEntries, h.entries]
  exact (List.filter_sublist.filter _).length_le

theorem reofferBound_mono {c d : Nat} (h : c ≤ d) : reofferBound c ≤ reofferBound d :=
  Nat.mul_le_mul (Nat.succ_le_succ h) (Nat.succ_le_succ (Nat.succ_le_succ h))

/-- R75: one entry that waits retires, and with it, by the re-offer event, the DEFERRED entries. -/
theorem State.Muting.worksOff_retire_one {s : State} {e : Entry} (h : s.Muting) (he : e ∈ s.entries)
    (hp : e.programme = none) (hst : e.state = .queued ∨ e.state = .deferred) :
    ∃ u l, s.WorksOff [.retire e.ticket (.refused .portMuted)] (reofferBound s.deferredEntries.length + 1) u ∧
      s.MutedOut u (e :: l) ∧ ∀ x ∈ l, x.state = .deferred := by
  have hretire : s.runTask (.retire e.ticket (.refused .portMuted)) =
      (s.retiredBy e (.refused .portMuted), [.reoffer]) := by
    refine (State.retire_alone (h.distinct.entry he) (by rcases hst with h | h <;> rw [h] <;> decide) hp _).trans ?_
    rcases hst with h | h <;>
      simp only [h, EntryState.held, Bool.false_and, Bool.false_eq_true, if_false, List.nil_append]
  have hfirst := State.MutedOut.retire he
  obtain ⟨u, hreoffer, hothers⟩ := (h.of_mutedOut hfirst).worksOff_reoffer rfl
  refine ⟨u, _, State.WorksOff.cons hretire (hreoffer.mono (reofferBound_mono hfirst.deferredEntries_le)),
    hfirst.trans hothers, fun x hx => ?_⟩
  simpa using (List.mem_filter.1 hx).2

/-- R75: entries that wait retire; those whose turn comes after a re-offer event has ended them are gone. -/
theorem State.Muting.worksOff_retire {m : List Entry} {s : State} {d : Nat} (h : s.Muting)
    (hd : s.deferredEntries.length ≤ d) (hm : ∀ e ∈ m, e.programme = none ∧ (e.state = .queued ∨ e.state = .deferred))
    (hs : ∀ e ∈ m, e ∈ s.entries ∨ s.entry e.ticket = none) :
    ∃ u l, s.WorksOff (m.map (fun e => .retire e.ticket (.refused .portMuted))) (m.length * (reofferBound d + 1)) u ∧
      s.MutedOut u l ∧ (∀ e ∈ l, e ∈ m ∨ e.state = .deferred) ∧ ∀ e ∈ m, e ∈ s.entries → e ∈ l := by
  induction m generalizing s with
  | nil =>
    exact ⟨s, [], by simpa using s.worksOff_nil, State.MutedOut.refl s, by simp, by simp⟩
  | cons e m ih =>
    have hm' : ∀ x ∈ m, x.programme = none ∧ (x.state = .queued ∨ x.state = .deferred) :=
      fun x hx => hm x (List.mem_cons_of_mem _ hx)
    obtain ⟨t, k, hwork, hout, hk, hek⟩ : ∃ t k,
        s.WorksOff [.retire e.ticket (.refused .portMuted)] (reofferBound d + 1) t ∧ s.MutedOut t k ∧
        (∀ x ∈ k, x = e ∨ x.state = .deferred) ∧ (e ∈ s.entries → e ∈ k) := by
      rcases hs e List.mem_cons_self with he | hnone
      · obtain ⟨hp, hst⟩ := hm e List.mem_cons_self
        obtain ⟨t, k, hwork, hout, hk⟩ := h.worksOff_retire_one he hp hst
        exact ⟨t, e :: k, hwork.mono (Nat.succ_le_succ (reofferBound_mono hd)), hout,
          fun x hx => (List.mem_cons.1 hx).imp_right (hk x), fun _ => List.mem_cons_self⟩
      · exact ⟨s, [], (State.WorksOff.cons (State.runTask_retire_gone hnone _) s.worksOff_nil).mono (Nat.succ_le_succ (Nat.zero_le _)),
          State.MutedOut.refl s, fun _ h => (by cases h),
          fun he => absurd (beq_self_eq_true _) (List.find?_eq_none.1 hnone e he)⟩
    have hstands : ∀ x ∈ m, x ∈ t.entries ∨ t.entry x.ticket = none := by
      intro x hx
      rcases hs x (List.mem_cons_of_mem _ hx) with hxs | hnone
      · by_cases hgone : x.ticket ∈ k.map Entry.ticket
        · exact .inr (hout.entry_none (.inl hgone))
        · exact .inl (hout.entries ▸ List.mem_filter.2 ⟨hxs, decide_eq_true hgone⟩)
      · exact .inr (hout.entry_none (.inr hnone))
    obtain ⟨u, l, hrest, hlater, hl, hml⟩ := ih (h.of_mutedOut hout) (hout.deferredEntries_le.trans hd) hm' hstands
    refine ⟨u, k ++ l, ?_, hout.trans hlater, fun x hx => ?_, fun x hx hxs => ?_⟩
    · refine (hwork.append hrest).mono ?_
      rw [List.length_cons, Nat.succ_mul, Nat.add_comm]
    · rcases List.mem_append.1 hx with hx | hx
      · exact (hk x hx).imp_left (fun hxe : x = e => by rw [hxe]; exact List.mem_cons_self)
      · exact (hl x hx).imp_left (List.mem_cons_of_mem _)
    · refine List.mem_append.2 ?_
      by_cases hgone : x.ticket ∈ k.map Entry.ticket
      · obtain ⟨y, hy, hyx⟩ := List.mem_map.1 hgone
        exact .inl (List.inj_on_of_nodup_map h.distinct (hout.listed y hy) hxs hyx ▸ hy)
      · rcases List.mem_cons.1 hx with rfl | hx
        · exact .inl (hek hxs)
        · exact .inr (hml x hx (hout.entries ▸ List.mem_filter.2 ⟨hxs, decide_eq_true hgone⟩))

/-! ### The muting of a port (R75, R133) -/

/-- A run of tasks that are worked off within its bound, whatever the bound is. -/
theorem State.WorksOff.run_bounded {s u : State} {ts : List Task} {k : Nat} (h : s.WorksOff ts k u)
    (hk : k ≤ taskBound s ts) : s.run ts = u := by
  obtain ⟨j, hj, h⟩ := h
  obtain ⟨n, hn⟩ := Nat.exists_eq_add_of_le' (hj.trans hk)
  have := h n []
  rw [List.append_nil, ← hn, runTasks_nil] at this
  exact this

theorem taskBound_ge_square (s : State) (ts : List Task) :
    32 * (s.entries.length + ts.length + 1) * (s.entries.length + ts.length + 1) ≤ taskBound s ts := by
  have hle : s.entries.length + ts.length + 1 ≤
      s.entries.length + (s.programmes.map (fun p => p.steps.length + 1)).sum + ts.length + 1 := by omega
  exact Nat.mul_le_mul (Nat.mul_le_mul_left 32 hle) hle

/-- A muting of at most 16 entries keeps within its bound. -/
theorem muting_bounded {g m : Nat} (hm : m ≤ 16) :
    g + m * (reofferBound m + 1) ≤ 32 * (m + (g + m) + 1) * (m + (g + m) + 1) := by
  have hcube : m * (m * m) ≤ 16 * (m * m) := Nat.mul_le_mul_right _ hm
  unfold reofferBound
  nlinarith

/-- R75: the entry waits at port `n`. -/
def Entry.waitsAt (n : Nat) (e : Entry) : Bool := e.owner == n && (e.state == .queued || e.state == .deferred)

theorem Entry.waitsAt_iff {n : Nat} {e : Entry} :
    e.waitsAt n = true ↔ e.owner = n ∧ (e.state = .queued ∨ e.state = .deferred) := by
  simp [Entry.waitsAt]

/-- R133: the programme waits at port `n`. -/
def Programme.waitsAt (n : Nat) (g : Programme) : Bool := g.owner == n && g.state == .waiting

theorem Programme.waitsAt_iff {n : Nat} {g : Programme} : g.waitsAt n = true ↔ g.owner = n ∧ g.state = .waiting := by
  simp [Programme.waitsAt]

/-- R75, R133: what the muting of port `n` finds: every programme that waits and every DEFERRED entry is the port's, and none
of them brings about more than its own end. -/
structure State.Mutable (s : State) (n : Nat) : Prop where
  muted : s.muted n = true
  distinct : s.distinct
  programmes : (s.programmes.map Programme.ticket).Nodup
  carry : ∀ g ∈ s.programmes, g.owner = n → g.state = .waiting → g.carry = none
  waiting : ∀ x ∈ s.waitingOrder, ∃ g ∈ s.programmes, g.ticket = x ∧ g.owner = n ∧ g.state = .waiting
  alone : ∀ e ∈ s.entries, e.owner = n → e.state = .queued ∨ e.state = .deferred → e.programme = none
  deferred : ∀ e ∈ s.entries, e.state = .deferred → e.owner = n
  few : (s.entries.filter (Entry.waitsAt n)).length ≤ 16

/-- R75, R133: the programmes that waited at port `n` have stopped. -/
def State.silenced (s : State) (n : Nat) : State :=
  s.stoppedBy (.outcome (.refused .portMuted)) (s.programmes.filter (Programme.waitsAt n))

section
variable {s : State} {n : Nat} (h : s.Mutable n)
include h

theorem State.Mutable.silenced_eq : ∃ P, s.silenced n = { s with
    programmes := s.programmes.filter (fun g => !g.waitsAt n), waitingOrder := [], ports := P } := by
  obtain ⟨P, hP⟩ := s.stoppedBy_eq (.outcome (.refused .portMuted)) (s.programmes.filter (Programme.waitsAt n))
  have hstop : s.programmes.filter
      (fun q => q.ticket ∉ (s.programmes.filter (Programme.waitsAt n)).map Programme.ticket) =
      s.programmes.filter (fun g => !g.waitsAt n) := by
    refine List.filter_congr fun g hg => ?_
    have hiff : g.ticket ∈ (s.programmes.filter (Programme.waitsAt n)).map Programme.ticket ↔ g.waitsAt n = true := by
      refine ⟨fun hmem => ?_, fun hw => List.mem_map_of_mem (List.mem_filter.2 ⟨hg, hw⟩)⟩
      obtain ⟨x, hx, hxg⟩ := List.mem_map.1 hmem
      obtain ⟨hx, hw⟩ := List.mem_filter.1 hx
      rwa [List.inj_on_of_nodup_map h.programmes hx hg hxg] at hw
    simp [hiff]
  have hwait : s.waitingOrder.filter
      (· ∉ (s.programmes.filter (Programme.waitsAt n)).map Programme.ticket) = [] := by
    refine List.filter_eq_nil_iff.2 fun x hx => ?_
    obtain ⟨g, hg, rfl, hw⟩ := h.waiting x hx
    simp only [decide_eq_true_eq, not_not]
    exact List.mem_map_of_mem (List.mem_filter.2 ⟨hg, Programme.waitsAt_iff.2 hw⟩)
  rw [hstop, hwait] at hP
  exact ⟨P, hP⟩

theorem State.Mutable.silenced_muting : (s.silenced n).Muting := by
  have hmuted : (s.silenced n).muted n = true := by
    obtain ⟨l, hl⟩ := (State.stoppedBy_gains (.outcome (.refused .portMuted))
      (s.programmes.filter (Programme.waitsAt n)) s).2 n
    rw [← h.muted, State.muted, State.muted, State.silenced, hl]
  obtain ⟨P, hP⟩ := h.silenced_eq
  rw [hP] at hmuted ⊢
  refine ⟨h.distinct, rfl, fun e he hst => ?_⟩
  obtain rfl := h.deferred e he hst
  exact ⟨hmuted, h.alone e he rfl (.inr hst)⟩

/-- R75, R133: the muting of a port stops its WAITING programmes and retires exactly its entries that wait. -/
theorem State.Mutable.mute_eq : ∃ l, (s.silenced n).MutedOut (s.mute n) l ∧
    (∀ e, e ∈ l ↔ e ∈ s.entries ∧ e.waitsAt n = true) ∧ l.length ≤ 16 := by
  have hstops := State.worksOff_stop (.outcome (.refused .portMuted)) (s := s) (l := s.programmes.filter (Programme.waitsAt n))
    h.programmes (h.programmes.sublist (List.filter_sublist.map _)) (fun g hg => List.mem_of_mem_filter hg)
    (fun g hg => by
      obtain ⟨hg, hw⟩ := List.mem_filter.1 hg
      obtain ⟨ho, hst⟩ := Programme.waitsAt_iff.1 hw
      exact h.carry g hg ho hst)
  have hentries : (s.silenced n).entries = s.entries := by
    obtain ⟨P, hP⟩ := h.silenced_eq
    rw [hP]
  have hwaits : ∀ e ∈ s.entries.filter (Entry.waitsAt n),
      e.programme = none ∧ (e.state = .queued ∨ e.state = .deferred) := by
    intro e he
    obtain ⟨he, hw⟩ := List.mem_filter.1 he
    obtain ⟨ho, hst⟩ := Entry.waitsAt_iff.1 hw
    exact ⟨h.alone e he ho hst, hst⟩
  have hfew : (s.silenced n).deferredEntries.length ≤ (s.entries.filter (Entry.waitsAt n)).length := by
    have hsub : (s.silenced n).deferredEntries = (s.entries.filter (Entry.waitsAt n)).filter (fun e => e.state == .deferred) := by
      rw [State.deferredEntries, hentries, List.filter_filter]
      refine List.filter_congr fun e he => ?_
      cases hst : e.state == .deferred with
      | false => rfl
      | true =>
        have hst := beq_iff_eq.1 hst
        exact (Entry.waitsAt_iff.2 ⟨h.deferred e he hst, .inr hst⟩).symm
    rw [hsub]
    exact List.length_filter_le _ _
  obtain ⟨u, l, hretires, hout, hsub, hall⟩ := h.silenced_muting.worksOff_retire hfew hwaits
    (fun e he => .inl (hentries ▸ List.mem_of_mem_filter he))
  have hl : ∀ e, e ∈ l ↔ e ∈ s.entries ∧ e.waitsAt n = true := by
    intro e
    refine ⟨fun he => ?_, fun ⟨he, hw⟩ => hall e (List.mem_filter.2 ⟨he, hw⟩) (hentries ▸ he)⟩
    have hes : e ∈ s.entries := hentries ▸ hout.listed e he
    refine ⟨hes, (hsub e he).elim (fun hm => (List.mem_filter.1 hm).2) (fun hst => ?_)⟩
    exact Entry.waitsAt_iff.2 ⟨h.deferred e hes hst, .inr hst⟩
  have hrun : s.mute n = u := by
    have hmute : s.mute n = s.run
        ((s.programmes.filter (Programme.waitsAt n)).map (fun g => .stop g.ticket (.outcome (.refused .portMuted))) ++
          (s.entries.filter (Entry.waitsAt n)).map (fun e => .retire e.ticket (.refused .portMuted))) := by
      simp only [State.mute, State.waitingProgrammes, State.mutedEntries, List.map_map]
      rfl
    rw [hmute]
    refine (hstops.append hretires).run_bounded (Nat.le_trans ?_ (taskBound_ge_square _ _))
    simp only [List.length_append, List.length_map]
    have hle := List.length_filter_le (Entry.waitsAt n) s.entries
    refine Nat.le_trans (muting_bounded h.few) (Nat.mul_le_mul (Nat.mul_le_mul_left 32 ?_) ?_) <;> omega
  refine ⟨l, hrun ▸ hout, hl, Nat.le_trans (List.Subperm.length_le ?_) h.few⟩
  exact List.subperm_of_subset hout.nodup.of_map fun e he => List.mem_filter.2 ((hl e).1 he)

end

/-! ### The request (R74) -/

/-- R74: the request of port `p` is in progress, and port `n` has its new priority. -/
def State.prioritized (s : State) (p : Nat) (f : Frame) (n v : Nat) : State :=
  (s.taking p f).modPort n (fun q => { q with priority := min v 15 })

section
variable (s : State) (p : Nat) (f : Frame) (n v : Nat)

@[simp] theorem State.prioritized_queue (q : Nat) : ((s.prioritized p f n v).port q).queue = (s.port q).queue := by
  unfold State.prioritized; rw [State.port_modPort]; split <;> exact s.taking_queue p f q
@[simp] theorem State.prioritized_state (q : Nat) : ((s.prioritized p f n v).port q).state = (s.port q).state := by
  unfold State.prioritized; rw [State.port_modPort]; split <;> exact s.taking_state p f q
@[simp] theorem State.prioritized_transmit (q : Nat) :
    ((s.prioritized p f n v).port q).transmit = (s.port q).transmit := by
  unfold State.prioritized; rw [State.port_modPort]; split <;> exact s.taking_transmit p f q

theorem State.prioritized_length : (s.prioritized p f n v).ports.length = s.ports.length :=
  (State.modPort_length _ _ _).trans (s.taking_length p f)

theorem State.prioritized_priority (hn : n < s.ports.length) :
    ((s.prioritized p f n v).port n).priority = min v 15 := by
  unfold State.prioritized
  rw [State.port_modPort, if_pos ⟨rfl, by rw [State.taking_length]; exact hn⟩]

/-- R74: a new priority that mutes nothing, and the answer. -/
theorem State.replied_prioritized (c : AnswerCode) :
    s.replied p f (s.prioritized p f n v, .now c []) =
      (s.modPort n (fun q => { q with priority := min v 15 })).answered p f c [] := by
  rw [State.replied_end _ _ _ _ _ _ (s.prioritized_transmit p f n v p)]
  unfold State.prioritized State.taking State.answered State.modPort
  congr 1
  apply List.ext_getElem?
  intro i
  simp only [List.getElem?_modify]
  cases s.ports[i]? <;> by_cases hp : p = i <;> by_cases hn : n = i <;> simp [hp, hn]

end

section
variable {s : State} {p n v : Nat} {f : Frame} (h : s.Takes p .setPortPriority f)
  (hd : decodePriority f.body = some (n, v))
include h hd

theorem exec_setPortPriority_taken :
    exec (.setPortPriority p) s = .next (s.replied p f ((s.taking p f).setPriority n v)) :=
  next_of_request (handle := fun (x : Nat × Nat) _ s1 => s1.setPriority x.1 x.2) h hd

theorem exec_setPortPriority_out (hn : 24 ≤ n) :
    exec (.setPortPriority p) s = .next (s.answered p f .outOfRange []) := by
  have hout : n ≥ Config.nPorts := hn
  rw [exec_setPortPriority_taken h hd]
  simp only [State.setPriority, if_pos hout, Reply.code, State.replied_unchanged]

variable (hn : n < 24)
include hn

theorem exec_setPortPriority_unused (hr : (s.port n).role = .unused) :
    exec (.setPortPriority p) s = .next (s.answered p f .notApplicable []) := by
  have hin : ¬ n ≥ Config.nPorts := Nat.not_le.2 hn
  rw [exec_setPortPriority_taken h hd]
  simp only [State.setPriority, if_neg hin, State.taking_role, hr, if_true, Reply.code, State.replied_unchanged]

variable (hr : (s.port n).role ≠ .unused)
include hr

theorem exec_setPortPriority_set (hv : 0 < v) : exec (.setPortPriority p) s = .next
    ((s.modPort n (fun q => { q with priority := min v 15 })).answered p f (if 15 < v then .clamped else .done) []) := by
  have hin : ¬ n ≥ Config.nPorts := Nat.not_le.2 hn
  rw [exec_setPortPriority_taken h hd, ← State.replied_prioritized]
  simp only [State.setPriority, if_neg hin, State.taking_role, hr, if_false, Nat.ne_of_gt hv]
  rfl

/-- R75: priority 0 mutes the port. -/
theorem exec_setPortPriority_mutes (hv : v = 0) : exec (.setPortPriority p) s = .next
    (s.replied p f ((s.prioritized p f n 0).mute n, .now .done [])) := by
  have hin : ¬ n ≥ Config.nPorts := Nat.not_le.2 hn
  subst hv
  rw [exec_setPortPriority_taken h hd]
  simp only [State.setPriority, if_neg hin, State.taking_role, hr, if_false]
  rfl

end

/-! ### What the muting leaves, answered (R75, R133) -/

section
variable {s u : State} {p n : Nat} {f : Frame} (hu : (s.prioritized p f n 0).Within u)
include hu

/-- R74, R166: the port is muted, and the request is answered. -/
theorem State.muted_answered (hn : n < s.ports.length) (hp : p < s.ports.length) :
    ((s.replied p f (u, .now .done [])).port n).priority = 0 ∧
    s.answers (s.replied p f (u, .now .done [])) p f .done [] := by
  have hlength : u.ports.length = s.ports.length := by
    have e := congrArg List.length hu.ports
    rw [List.length_map, List.length_map, State.prioritized_length] at e
    exact e
  have hpriority : (u.port n).priority = 0 := by
    have e := congrArg Port.priority (hu.port n)
    exact e.trans (s.prioritized_priority p f n 0 hn)
  refine ⟨?_, State.replied_answers s u p f .done [] (hlength.symm ▸ hp) ?_⟩
  · rw [State.replied_now, State.placeAnswer, State.port_modPort]
    split <;> exact hpriority
  · have e := hu.transmit p
    rwa [State.prioritized_transmit] at e

omit hu in
/-- R117: the request and its answer are no part of the retirement. -/
theorem State.Retired.of_prioritized {e : Entry} {o : MoveOutcome} (h : (s.prioritized p f n 0).Retired u e o)
    (k : Nat) (x : Outgoing) : s.Retired (u.placeAnswer p k x) e o where
  entries := h.entries
  ended := h.ended
  queues := fun q => by
    rw [State.placeAnswer_queue, h.queues q, State.prioritized_queue]
  coupled := h.coupled
  record := h.record
  inputs := h.inputs
  notice := fun ha hc => by
    exact State.placeAnswer_mem p k x (h.notice (by rw [State.prioritized_state, ha])
      (by rw [State.prioritized_transmit]; exact hc))
  nodes := h.nodes
  programmes := h.programmes
  published := h.published
  force := h.force
  stored := h.stored

end

theorem State.mute_nothing {s : State} {n : Nat} (he : s.entries.filter (Entry.waitsAt n) = [])
    (hg : s.programmes.filter (Programme.waitsAt n) = []) : s.mute n = s := by
  have hentries : s.mutedEntries n = [] := congrArg (List.map Entry.ticket) he
  have hprogrammes : s.waitingProgrammes n = [] := congrArg (List.map Programme.ticket) hg
  rw [State.mute, hentries, hprogrammes]
  exact s.run_nil

/-- R75: the muting of a port where one entry waits, and no programme. -/
theorem State.mute_one {s : State} {n : Nat} {e : Entry} (hl : s.entries.filter (Entry.waitsAt n) = [e])
    (hg : s.programmes.filter (Programme.waitsAt n) = []) (hp : e.programme = none) (he : s.entry e.ticket = some e)
    (hc : s.calmBut e.ticket) : s.mute n = (s.retiredBy e (.refused .portMuted)).marked := by
  have hentries : s.mutedEntries n = [e.ticket] := congrArg (List.map Entry.ticket) hl
  have hprogrammes : s.waitingProgrammes n = [] := congrArg (List.map Programme.ticket) hg
  have hst : e.state = .queued ∨ e.state = .deferred := by
    have hmem : e ∈ s.entries.filter (Entry.waitsAt n) := by rw [hl]; exact List.mem_singleton_self e
    exact (Entry.waitsAt_iff.1 (List.mem_filter.1 hmem).2).2
  rw [State.mute, hentries, hprogrammes]
  refine (State.worksOff_retire_alone he ?_ hp hc (fun hh => ?_) _).run (by decide)
  · rcases hst with h | h <;> rw [h] <;> decide
  · rcases hst with h | h <;> rw [h] at hh <;> cases hh

/-- R75, R133: what the muting of a port with several that wait leaves, answered. -/
theorem State.Mutable.answered {s : State} {p n : Nat} {f : Frame} (h : (s.prioritized p f n 0).Mutable n) :
    let t := s.replied p f ((s.prioritized p f n 0).mute n, .now .done [])
    t.entries = s.entries.filter (fun x => !x.waitsAt n) ∧
    (∀ e ∈ s.entries, e.waitsAt n = true →
      Entry.endedItem e (.refused .portMuted) ∈ t.ended ∧ e.ticket ∉ (t.port n).queue) ∧
    t.programmes = s.programmes.filter (fun g => !g.waitsAt n) ∧ t.waitingOrder = [] ∧
    ∀ g ∈ s.programmes, g.waitsAt n = true → (s.port n).state = .active →
      noticeCount (s.port n).transmit + s.programmes.length ≤ 32 →
      Outgoing.notice (.programmeEnded g.ticket g.current (some (.outcome (.refused .portMuted)))) ∈
        (t.port n).transmit := by
  intro t
  obtain ⟨l, hout, hl, hfew⟩ := h.mute_eq
  obtain ⟨P, hP⟩ := h.silenced_eq
  have hentries : ((s.prioritized p f n 0).silenced n).entries = s.entries := by rw [hP]; rfl
  refine ⟨?_, fun e he hw => ⟨?_, fun hq => ?_⟩, ?_, ?_, fun g hg hw ha hc => ?_⟩
  · refine hout.entries.trans ?_
    rw [hentries]
    refine List.filter_congr fun x hx => ?_
    have hiff : x.ticket ∈ l.map Entry.ticket ↔ x.waitsAt n = true := by
      refine ⟨fun hmem => ?_, fun hw => List.mem_map_of_mem ((hl x).2 ⟨hx, hw⟩)⟩
      obtain ⟨y, hy, hyx⟩ := List.mem_map.1 hmem
      obtain ⟨hys, hw⟩ := (hl y).1 hy
      rwa [List.inj_on_of_nodup_map h.distinct hys hx hyx] at hw
    simp [hiff]
  · have hsuffix := hout.ended [] (List.nil_suffix) (by rw [List.length_nil]; omega)
    exact hsuffix.subset (List.mem_map_of_mem ((hl e).2 ⟨he, hw⟩))
  · have hqueue := State.placeAnswer_queue ((s.prioritized p f n 0).mute n) p (s.port p).transmit.length
      (Frame.answer f .done []) n
    exact (hout.queues n e.ticket (hqueue ▸ hq)).2 e ((hl e).2 ⟨he, hw⟩) (Entry.waitsAt_iff.1 hw).1 rfl
  · exact hout.programmes.trans (by rw [hP]; rfl)
  · exact hout.waitingOrder.trans (by rw [hP])
  · obtain ⟨rfl, -⟩ := Programme.waitsAt_iff.1 hw
    have hlength := List.length_filter_le (Programme.waitsAt g.owner) s.programmes
    refine State.placeAnswer_mem _ _ _ ((hout.within.transmit _).subset ?_)
    refine State.stoppedBy_notice _ (List.mem_filter.2 ⟨hg, hw⟩) (by rw [State.prioritized_state, ha]) ?_
    rw [State.prioritized_transmit]
    exact Nat.le_trans (Nat.add_le_add_left hlength _) hc

/-- Settles O32: the checks in their order, and the muting of nothing, of one entry, and of all that wait. -/
theorem portPrioritySet : Obligations.PortPrioritySet := by
  unfold Obligations.PortPrioritySet
  intro s p f n v h hd hports
  have hwithin : (s.prioritized p f n 0).Within ((s.prioritized p f n 0).mute n) := State.run_within _ _
  refine ⟨exec_setPortPriority_out h hd, exec_setPortPriority_unused h hd, exec_setPortPriority_set h hd,
    fun hn hr hv e hl hp he hc hg => ?_, fun hn hr hv he hg => ?_,
    fun hn hr hv hdistinct hnodup _ hcarry hwait halone hdeferred hfew => ?_⟩
  · obtain ⟨hpriority, hanswer⟩ := State.muted_answered hwithin (hports ▸ hn) h.listed
    refine ⟨_, exec_setPortPriority_mutes h hd hn hr hv, hpriority, ?_, hanswer⟩
    have hnone : s.programmes.filter (Programme.waitsAt n) = [] :=
      List.filter_eq_nil_iff.2 fun g hgs hw => hg g hgs (Programme.waitsAt_iff.1 hw).2
    rw [State.mute_one (s := s.prioritized p f n 0) hl hnone hp he hc]
    exact State.Retired.of_prioritized (State.retiredBy_marked_retired _ e _) _ _
  · have hentries : s.entries.filter (Entry.waitsAt n) = [] := by
      refine List.filter_eq_nil_iff.2 fun e hes hw => ?_
      obtain ⟨ho, hst⟩ := Entry.waitsAt_iff.1 hw
      exact hst.elim (he e hes ho).1 (he e hes ho).2
    have hprogrammes : s.programmes.filter (Programme.waitsAt n) = [] := by
      refine List.filter_eq_nil_iff.2 fun g hgs hw => ?_
      obtain ⟨ho, hst⟩ := Programme.waitsAt_iff.1 hw
      exact hg g hgs ho hst
    rw [exec_setPortPriority_mutes h hd hn hr hv,
      State.mute_nothing (s := s.prioritized p f n 0) hentries hprogrammes, State.replied_prioritized]
    rfl
  · obtain ⟨hpriority, hanswer⟩ := State.muted_answered hwithin (hports ▸ hn) h.listed
    have hmuted : (s.prioritized p f n 0).muted n = true := by
      rw [State.muted, State.prioritized_priority s p f n 0 (hports ▸ hn)]
      rfl
    obtain ⟨hentries, hended, hprogrammes, hwaiting, hnotice⟩ := State.Mutable.answered
      (s := s) (p := p) (f := f) (n := n) ⟨hmuted, hdistinct, hnodup, hcarry, hwait, halone, hdeferred, hfew⟩
    exact ⟨_, exec_setPortPriority_mutes h hd hn hr hv, hpriority, hanswer, hentries,
      fun e he ho hst => hended e he (Entry.waitsAt_iff.2 ⟨ho, hst⟩), hprogrammes, hwaiting,
      fun g hg ho hst ha hc => hnotice g hg (Programme.waitsAt_iff.2 ⟨ho, hst⟩) ha (by omega)⟩

end Sys2Proof.Machine
end

section
/-! MOVE REQUEST: its checks in their order, and the entry it makes (R52, R94, R96, R97). -/

namespace Sys2Proof.Machine

/-! ### The checks (R96) -/

theorem State.isBreakerOpening_iff {s : State} {a : Nat} {g : Target} :
    s.isBreakerOpening a g = true ↔ ∃ d, s.appDesc a = some d ∧ d.kind = .breaker ∧ g = .opened := by
  unfold State.isBreakerOpening
  cases s.appDesc a <;> simp

theorem State.reportingPort_iff {s : State} {a p : Nat} :
    s.reportingPort a = some p ↔ ∃ d, s.appDesc a = some d ∧ d.port = p := by
  simp [State.reportingPort]

theorem State.notOwn_iff {s : State} {p a : Nat} :
    s.notOwn p a = true ↔ (s.port p).role = .bay ∧ ¬ ∃ d, s.appDesc a = some d ∧ d.port = p := by
  simp only [State.notOwn, Bool.and_eq_true, beq_iff_eq, bne_iff_ne, ne_eq, State.reportingPort_iff]

theorem State.substitutionOn_iff {s : State} {a : Nat} : s.substitutionOn a = true ↔
    (∃ y ∈ s.substs, y.target = .apparatus a) ∨
      ∃ rep g q, s.heldFor (.apparatus a) = some { target := .apparatus a, copy := .apparatus rep (some g) q } := by
  have htable : (s.subst (.apparatus a)).isSome = true ↔ ∃ y ∈ s.substs, y.target = .apparatus a := by
    simp [State.subst]
  rw [State.substitutionOn, Bool.or_eq_true, htable]
  refine or_congr_right ?_
  cases hf : s.heldFor (.apparatus a) with
  | none => simp
  | some h =>
    have ht : h.target = .apparatus a := beq_iff_eq.1 (List.find?_some hf :)
    obtain ⟨target, copy⟩ := h
    subst ht
    cases copy with
    | node cls x q => simp
    | apparatus rep x q => cases x <;> simp

theorem State.engaged_iff {s : State} {a : Nat} :
    s.engaged a = true ↔ ∃ r t, s.app a = some r ∧ r.ticket = some t := by
  unfold State.engaged
  cases s.app a <;> simp [Option.isSome_iff_exists]

section
variable {s : State} {p : Nat} {f : Frame} {a : Nat} {g : Target}

/-- The checks do not look at the request in progress. -/
@[simp] theorem State.taking_moveCheck : (s.taking p f).moveCheck p a g = s.moveCheck p a g := by
  simp only [State.moveCheck, State.notOwn, State.queueFull, State.taking_role, State.taking_muted, State.taking_queue]
  rfl

theorem exec_moveRequest_taken (h : s.Takes p .moveRequest f) (hd : decodeNumberTarget f.body = some (a, g)) :
    exec (.moveRequest p) s = .next (s.replied p f ((s.taking p f).moveRequest p (a, g))) :=
  next_of_request (handle := fun x _ s1 => s1.moveRequest p x) h hd

/-- R96: the request is refused with the check that fails, and no entry is made. -/
theorem exec_moveRequest_refused {c : AnswerCode} (h : s.Takes p .moveRequest f)
    (hd : decodeNumberTarget f.body = some (a, g)) (hc : s.moveCheck p a g = some c) :
    exec (.moveRequest p) s = .next (s.answered p f c []) := by
  rw [exec_moveRequest_taken h hd]
  simp only [State.moveRequest, State.taking_moveCheck, hc, Reply.code, State.replied_unchanged]

/-- R165: every role in use may send a MOVE REQUEST, and the working modes take it. -/
theorem State.Offers.takes_moveRequest (h : s.Offers p f) (hk : f.isKind .moveRequest = true)
    (hm : s.mode.working = true) : s.Takes p .moveRequest f where
  toOffers := h
  kind := hk
  role := by
    have hused := h.used
    cases hr : (s.port p).role <;> simp_all [Role.maySend]
  mode := hm

/-- R164, R165: a mode that is not a working one does not take a MOVE REQUEST. -/
theorem exec_moveRequest_mode (h : s.Offers p f) (hk : f.isKind .moveRequest = true)
    (hd : decodeNumberTarget f.body = some (a, g)) (hm : s.mode.working = false) :
    exec (.moveRequest p) s = .next (s.answered p f .mode []) := by
  have hexec : exec (.moveRequest p) s = .next (s.whenRunning (fun s0 =>
    s0.request p .moveRequest decodeNumberTarget (fun x _ s1 => s1.moveRequest p x))) := rfl
  have hrole : (s.port p).role.maySend .moveRequest = true := by
    have hused := h.used
    cases hr : (s.port p).role <;> simp_all [Role.maySend]
  rw [hexec, s.whenRunning_running _ h.running, State.request_mode s p _ _ _ f h hk _ hd hrole hm]

end

/-- Settles O17: the modes of R164 first, and then the checks one after the other, each with those before it passed. -/
theorem moveRequestRefused : Obligations.MoveRequestRefused := by
  unfold Obligations.MoveRequestRefused
  intro s p f a g h hk hd frozenOut foreign
  by_cases hw : s.mode.working = true
  case neg =>
    have hm : s.mode.working = false := Bool.eq_false_iff.2 hw
    have hout : frozenOut := by
      cases hmode : s.mode <;> simp_all [Mode.working, frozenOut]
    exact ⟨fun _ => exec_moveRequest_mode h hk hd hm, fun hn => absurd hout hn, fun hn => absurd hout hn⟩
  have refused := fun {c : AnswerCode} => exec_moveRequest_refused (c := c) (h.takes_moveRequest hk hw) hd
  have hfreeze : frozenOut ↔ (s.mode.isFreeze && !s.isBreakerOpening a g) = true := by
    rw [Bool.and_eq_true, Bool.not_eq_true', ← Bool.not_eq_true, State.isBreakerOpening_iff]
    cases hmode : s.mode <;> simp_all [Mode.working, Mode.isFreeze, frozenOut]
  have hforeign : foreign ↔ s.notOwn p a = true := State.notOwn_iff.symm
  rw [hfreeze, hforeign]
  simp only [Bool.not_eq_true]
  refine ⟨fun h1 => refused ?_, fun h1 h2 => refused ?_, fun h1 h2 => ⟨fun h3 => refused ?_, fun h3 h4 => refused ?_,
    fun h3 h4 => ⟨fun h5 => refused ?_, fun h5 h6 => refused ?_, fun h5 h6 h7 => refused ?_,
      fun h5 h6 h7 h8 => refused ?_⟩⟩⟩
  case' refine_5 | refine_6 | refine_7 | refine_8 => have hdescribed := Option.ne_none_iff_isSome.2 h4
  all_goals simp [State.moveCheck, State.muted, State.queueFull, State.tableFull, Config.maxQueue, Config.maxEntries, *]

/-! ### The entry (R97) -/

section
variable {s : State} {p : Nat} {f : Frame} {a : Nat} {g : Target}

/-- R96: a request that passes every check. -/
theorem State.moveCheck_passes {d : AppDesc} {r : AppLive}
    (hmode : s.mode = .service ∨ (d.kind = .breaker ∧ g = .opened))
    (hrole : (s.port p).role = .supervisory ∨ d.port = p) (hmute : (s.port p).priority ≠ 0) (hd : s.appDesc a = some d)
    (hr : s.app a = some r) (hsub : s.substitutionOn a = false) (hticket : r.ticket = none)
    (hqueue : (s.port p).queue.length < 4) (htable : s.entries.length < 16) : s.moveCheck p a g = none := by
  have hfreeze : (s.mode.isFreeze && !s.isBreakerOpening a g) = false := by
    rcases hmode with hm | hb
    · rw [hm]; rfl
    · rw [State.isBreakerOpening_iff.2 ⟨d, hd, hb⟩, Bool.not_true, Bool.and_false]
  have hown : s.notOwn p a = false := by
    rw [Bool.eq_false_iff]
    intro h
    obtain ⟨hbay, hno⟩ := State.notOwn_iff.1 h
    rcases hrole with hs | hp
    · rw [hs] at hbay; cases hbay
    · exact hno ⟨d, hd, hp⟩
  have hfree : s.engaged a = false := by simp only [State.engaged, hr, hticket, Option.isSome_none]
  have hplace : s.queueFull p = false := decide_eq_false (Nat.not_le.2 hqueue)
  have hroom : s.tableFull = false := decide_eq_false (Nat.not_le.2 htable)
  simp [State.moveCheck, State.muted, hfreeze, hown, hmute, hd, hsub, hfree, hplace, hroom]

theorem State.footprintOf_eq {d : AppDesc} (hd : s.appDesc a = some d) :
    s.footprintOf a = [d.a, d.b].filter (· ≠ 0) := by
  simp only [State.footprintOf, hd]
  rfl

end

/-- R97: what the making of an entry that needs a queue place writes. -/
theorem State.makeEntry_queued (s : State) (p a : Nat) (g : Target) (q : Option (Nat × Nat)) :
    s.makeEntry p a g q false =
      { s.modPort p (fun x => { x with queue := x.queue ++ [s.freeTicket] }) with
        ticketCounter := nextTicket s.freeTicket
        apps := s.apps.map (fun x => if x.number = a then { x with ticket := some s.freeTicket } else x)
        entries := insertBy Entry.ticket (newEntry s.freeTicket p a g q false (s.footprintOf a)) s.entries } := by
  unfold State.makeEntry
  generalize s.freeTicket = t
  rfl

/-- Settles O16: the request passes, and what it leaves is the entry, its ticket in record and queue, and the answer. -/
theorem moveRequestAccepted : Obligations.MoveRequestAccepted := by
  unfold Obligations.MoveRequestAccepted
  refine ⟨?_, fun s a => ⟨State.substitutionOn_iff, State.engaged_iff⟩⟩
  intro s p f a g d r h hbody hmode hrole hmute hd hr hsub hticket hqueue htable
  have hcheck := State.moveCheck_passes hmode hrole hmute hd hr hsub hticket hqueue htable
  have hticket : (s.taking p f).freeTicket = s.freeTicket := State.freeTicket_congr rfl rfl rfl rfl
  have hfoot : (s.taking p f).footprintOf a = [d.a, d.b].filter (· ≠ 0) := State.footprintOf_eq hd
  have htransmit : (((s.taking p f).makeEntry p a g none false).port p).transmit = (s.port p).transmit := by
    rw [State.makeEntry_queued]
    show (((s.taking p f).modPort p _).port p).transmit = _
    rw [State.port_modPort]
    split <;> exact s.taking_transmit p f p
  rw [exec_moveRequest_taken h hbody]
  simp only [State.moveRequest, State.taking_moveCheck, hcheck]
  rw [State.replied_end _ _ _ _ _ _ htransmit, State.makeEntry_queued, hfoot, hticket]
  have hports := congrArg State.ports (((s.taking p f).modPort_modPort p
    (fun q => { q with queue := q.queue ++ [s.freeTicket] })
    (fun q => { q with transmit := q.transmit ++ [Frame.answer f .accepted (put16 s.freeTicket)] })).trans
    (s.modPort_modPort p _ _))
  exact congrArg (fun l => Host.Outcome.next { s with
    ticketCounter := nextTicket s.freeTicket
    apps := s.apps.map (fun x : AppLive => if x.number = a then { x with ticket := some s.freeTicket } else x)
    entries := insertBy Entry.ticket (newEntry s.freeTicket p a g none false ([d.a, d.b].filter (· ≠ 0))) s.entries
    ports := l }) hports

end Sys2Proof.Machine
end

section
/-! The requests that name a ticket: CANCEL, AMEND, EXTEND and REVOKE ANSWER (5.2, R106, R108 to R112, R154, R155). -/

namespace Sys2Proof.Machine

/-! ### What a ticket names (5.2) -/

section
variable {s : State} {n : Nat}

theorem State.named_entry {e : Entry} (he : s.entry n = some e) : s.named n = .entry e := by
  simp only [State.named, he]

theorem State.named_programme (he : s.entry n = none) {g : Programme} (hg : s.programme n = some g) :
    s.named n = .programme g := by simp only [State.named, he, hg]

theorem State.named_ended (he : s.entry n = none) (hg : s.programme n = none) {x : Ended}
    (hx : s.endedItem n = some x) : s.named n = .ended x := by simp only [State.named, he, hg, hx]

theorem State.named_nothing (he : s.entry n = none) (hg : s.programme n = none) (hx : s.endedItem n = none) :
    s.named n = .nothing := by simp only [State.named, he, hg, hx]

theorem State.ownerOrSupervisory_iff {p owner : Nat} :
    s.ownerOrSupervisory p owner = true ↔ owner = p ∨ (s.port p).role = .supervisory := by
  simp [State.ownerOrSupervisory]

theorem State.no_authority {p owner : Nat} (ho : owner ≠ p) (hr : (s.port p).role ≠ .supervisory) :
    s.ownerOrSupervisory p owner = false :=
  Bool.eq_false_iff.2 fun h => (State.ownerOrSupervisory_iff.1 h).elim ho hr

end

/-! ### The handler of each request -/

section
variable {s : State} {p : Nat} {f : Frame} {n : Nat}

@[simp] theorem State.taking_named (s : State) (p : Nat) (f : Frame) (n : Nat) : (s.taking p f).named n = s.named n := rfl

@[simp] theorem State.taking_ownerOrSupervisory (s : State) (p : Nat) (f : Frame) (q owner : Nat) :
    (s.taking p f).ownerOrSupervisory q owner = s.ownerOrSupervisory q owner := by
  simp only [State.ownerOrSupervisory, State.taking_role]

theorem exec_cancel_taken (h : s.Takes p .cancel f) (hd : decodeNumber16 f.body = some n) :
    exec (.cancel p) s = .next (s.replied p f ((s.taking p f).cancel p n)) :=
  next_of_request (handle := fun x _ s1 => s1.cancel p x) h hd

theorem exec_amend_taken {g : Target} (h : s.Takes p .amend f) (hd : decodeNumberTarget f.body = some (n, g)) :
    exec (.amend p) s = .next (s.replied p f ((s.taking p f).amend p (n, g))) :=
  next_of_request (handle := fun x _ s1 => s1.amend p x) h hd

theorem exec_extend_taken {m : Nat} (h : s.Takes p .extend f) (hd : decodeExtend f.body = some (n, m)) :
    exec (.extend p) s = .next (s.replied p f ((s.taking p f).extend p (n, m))) :=
  next_of_request (handle := fun x _ s1 => s1.extend p x) h hd

theorem exec_revokeAnswer_taken {a : RevokeReply} (h : s.Takes p .revokeAnswer f)
    (hd : decodeRevokeAnswer f.body = some (n, a)) :
    exec (.revokeAnswer p) s = .next (s.replied p f ((s.taking p f).revokeAnswer p (n, a))) :=
  next_of_request (handle := fun x _ s1 => s1.revokeAnswer p x) h hd

/-- An update of one entry, answered. -/
theorem State.replied_modEntry (s : State) (p : Nat) (f : Frame) (n : Nat) (g : Entry → Entry) (c : AnswerCode)
    (x : List Byte) :
    s.replied p f ((s.taking p f).modEntry n g, .now c x) = (s.modEntry n g).answered p f c x :=
  State.replied_updated s (s.modEntry n g) p f c x rfl

/-- A request that ran within what tasks can do is answered after what stood in the list before it. -/
theorem State.Within.answers {u : State} (h : (s.taking p f).Within u) (hp : p < s.ports.length) (c : AnswerCode)
    (x : List Byte) : s.answers (s.replied p f (u, .now c x)) p f c x := by
  have hlength : u.ports.length = s.ports.length := by
    have e := congrArg List.length h.ports
    rwa [List.length_map, List.length_map, State.taking_length] at e
  refine State.replied_answers s u p f c x (hlength.symm ▸ hp) ?_
  have e := h.transmit p
  rwa [State.taking_transmit] at e

/-- R117: the request in progress and its answer are no part of a retirement. -/
theorem State.Retired.of_taking {u : State} {e : Entry} {o : MoveOutcome} (h : (s.taking p f).Retired u e o) (k : Nat)
    (x : Outgoing) : s.Retired (u.placeAnswer p k x) e o where
  entries := h.entries
  ended := h.ended
  queues := fun q => by rw [State.placeAnswer_queue, h.queues q, State.taking_queue]
  coupled := h.coupled
  record := h.record
  inputs := h.inputs
  notice := fun ha hc => State.placeAnswer_mem p k x
    (h.notice (by rw [State.taking_state, ha]) (by rw [State.taking_transmit]; exact hc))
  nodes := h.nodes
  programmes := h.programmes
  published := h.published
  force := h.force
  stored := h.stored

end

/-! ### CANCEL (R110) -/

section
variable {s : State} {p : Nat} {f : Frame} {n : Nat} {e : Entry}

theorem State.cancel_entry (he : s.entry n = some e) (ha : s.ownerOrSupervisory p e.owner = true) : s.cancel p n =
    if e.state = .travelling ∨ e.state = .settling then (s, .code .tooLate)
    else (s.cancelEntry e, .now .done ((s.cancelEntry e).entryStateField n)) := by
  simp only [State.cancel, State.named_entry he, ha, if_true]

theorem State.entryStateField_some (he : s.entry n = some e) : s.entryStateField n = putOpt8 (some e.state.code) := by
  simp only [State.entryStateField, he, Option.map_some]

/-- R110: the state field after an update of the entry. -/
theorem State.entryStateField_modEntry (he : s.entry n = some e) (g : Entry → Entry) (hg : ∀ x, (g x).ticket = x.ticket) :
    (s.modEntry n g).entryStateField n = putOpt8 (some (g e).state.code) := by
  refine State.entryStateField_some ?_
  rw [State.entry_modEntry s n n g hg, he, Option.map_some, if_pos rfl]

/-- R117: an entry that has retired is no longer found. -/
theorem State.Retired.entry_none {s t : State} {o : MoveOutcome} (h : s.Retired t e o) : t.entry e.ticket = none := by
  refine List.find?_eq_none.2 fun x hx hxe => ?_
  rw [h.entries, List.mem_filter, decide_eq_true_iff] at hx
  exact hx.2 (beq_iff_eq.1 hxe)

variable (h : s.Takes p .cancel f) (hd : decodeNumber16 f.body = some n)
include h hd

/-- R110: an entry that waits, outside a programme, retires CANCELLED. -/
theorem exec_cancel_waiting (he : s.entry n = some e) (ha : s.ownerOrSupervisory p e.owner = true)
    (hst : e.state = .queued ∨ e.state = .deferred ∨ e.state = .suspended) (hp : e.programme = none) (hc : s.calmBut n) :
    ∃ t, exec (.cancel p) s = .next t ∧ s.Retired t e .cancelled ∧ s.answers t p f .done [0#8, 0#8] := by
  obtain rfl : e.ticket = n := (State.entry_mem he).2
  have hs : e.state ≠ .settling := by rcases hst with h | h | h <;> rw [h] <;> decide
  have hheld : e.state.held = true → (s.taking p f).mode ≠ .freezing := by
    rcases hst with h | h | h <;> rw [h] <;> intro hh <;> cases hh
  have hcancel : (s.taking p f).cancelEntry e = (s.taking p f).run [.retire e.ticket .cancelled] := by
    rcases hst with h | h | h <;> simp only [State.cancelEntry, h]
  have hrun : (s.taking p f).cancelEntry e = ((s.taking p f).retiredBy e .cancelled).marked :=
    hcancel.trans ((State.worksOff_retire_alone (s := s.taking p f) he hs hp hc hheld .cancelled).run (by decide))
  have hretired := State.retiredBy_marked_retired (s.taking p f) e .cancelled
  have hgoing : ¬ (e.state = .travelling ∨ e.state = .settling) := by
    rcases hst with h | h | h <;> rw [h] <;> decide
  have hwithin : (s.taking p f).Within ((s.taking p f).cancelEntry e) := hcancel ▸ State.run_within _ _
  have hfield : ((s.taking p f).cancelEntry e).entryStateField e.ticket = [0#8, 0#8] := by
    rw [hrun, State.entryStateField, hretired.entry_none]
    rfl
  rw [exec_cancel_taken h hd, State.cancel_entry (s := s.taking p f) he (by simpa using ha), if_neg hgoing, hfield]
  refine ⟨_, rfl, ?_, hwithin.answers h.listed _ _⟩
  rw [hrun]
  exact hretired.of_taking _ _

/-- R110: an entry that a CANCEL updates, and no more. -/
theorem exec_cancel_updates (he : s.entry n = some e) (ha : s.ownerOrSupervisory p e.owner = true)
    (hst : ¬ (e.state = .travelling ∨ e.state = .settling)) (g : Entry → Entry) (hg : ∀ x, (g x).ticket = x.ticket)
    (hcancel : (s.taking p f).cancelEntry e = (s.taking p f).modEntry n g) :
    exec (.cancel p) s = .next ((s.modEntry n g).answered p f .done (putOpt8 (some (g e).state.code))) := by
  have hfield := State.entryStateField_modEntry (s := s.taking p f) he g hg
  rw [exec_cancel_taken h hd, State.cancel_entry (s := s.taking p f) he (by simpa using ha), if_neg hst, hcancel, hfield,
    State.replied_modEntry]

/-- R110, R167: a RELEASED entry becomes REVOKING, and its reporting port has the REVOKE. -/
theorem exec_cancel_released (he : s.entry n = some e) (ha : s.ownerOrSupervisory p e.owner = true)
    (hst : e.state = .released) : ∃ t, exec (.cancel p) s = .next t ∧
      t.entries = s.entries.map (fun x =>
        if x.ticket = n then { x with state := .revoking, flavour := some .cancel } else x) ∧
      s.answers t p f .done [1#8, 5#8] ∧
      (∀ q, s.reportingPort e.apparatus = some q → (s.port q).state = .active →
        noticeCount (s.port q).transmit < 32 → Outgoing.notice (.revoke n e.apparatus) ∈ (t.port q).transmit) ∧
      { t with entries := s.entries, ports := s.ports } = s := by
  obtain rfl : e.ticket = n := (State.entry_mem he).2
  have hcancel : (s.taking p f).cancelEntry e = ((s.taking p f).sendRevoke e).modEntry e.ticket
      (fun x => { x with state := .revoking, flavour := some .cancel }) := by simp only [State.cancelEntry, hst]
  have honly := (s.taking p f).sendRevoke_onlyPorts e
  have hentry : ((s.taking p f).sendRevoke e).entry e.ticket = some e := by rw [honly.eq]; exact he
  have hfield := State.entryStateField_modEntry hentry
    (fun x => { x with state := .revoking, flavour := some .cancel }) (fun _ => rfl)
  have hwithin : (s.taking p f).Within (((s.taking p f).sendRevoke e).modEntry e.ticket
      (fun x => { x with state := .revoking, flavour := some .cancel })) :=
    (State.sendRevoke_within _ _).trans (State.modEntry_within _ _ _)
  rw [exec_cancel_taken h hd, State.cancel_entry (s := s.taking p f) he (by simpa using ha), hst,
    if_neg (by decide), hcancel, hfield]
  refine ⟨_, rfl, ?_, hwithin.answers h.listed _ _, fun q hq hactive hcount => ?_, ?_⟩
  · rw [State.replied_now, honly.eq]
    rfl
  · refine State.placeAnswer_mem _ _ _ ?_
    have hport : (s.taking p f).reportingPort e.apparatus = some q := hq
    show _ ∈ (((s.taking p f).sendRevoke e).port q).transmit
    rw [State.sendRevoke_eq hport]
    exact State.notify_mem _ q _ (by rw [State.taking_state, hactive]) (by rw [State.taking_transmit]; exact hcount)
  · rw [State.replied_now, honly.eq]
    rfl

end

/-- Settles O18: by the state of the entry, and by what else the ticket names. -/
theorem cancelActsByState : Obligations.CancelActsByState := by
  unfold Obligations.CancelActsByState
  refine ⟨fun s p f n e h hd he howner => ?_, fun s p f n h hd => ⟨fun e he ho hr => ?_, fun he hg => ⟨fun hx => ?_,
    fun x hx => ⟨fun ho hr => ?_, fun howner => ?_⟩⟩⟩⟩
  · have ha := State.ownerOrSupervisory_iff.2 howner
    obtain rfl : e.ticket = n := (State.entry_mem he).2
    refine ⟨exec_cancel_waiting h hd he ha, fun hst => ?_, exec_cancel_released h hd he ha, fun hst => ?_, fun hst => ?_⟩
    · rw [exec_cancel_updates h hd he ha (by rw [hst]; decide) (fun x => { x with cancelPending := true }) (fun _ => rfl)
        (by simp only [State.cancelEntry, hst])]
      simp only [hst]
      rfl
    · exact exec_cancel_updates h hd he ha (by rw [hst]; decide) (fun x => { x with flavour := some .cancel })
        (fun _ => rfl) (by simp only [State.cancelEntry, hst]) |>.trans (by simp only [hst]; rfl)
    · rw [exec_cancel_taken h hd, State.cancel_entry (s := s.taking p f) he (by simpa using ha), if_pos hst, Reply.code,
        State.replied_unchanged]
  all_goals rw [exec_cancel_taken h hd]
  · simp only [State.cancel, State.taking_named, State.named_entry he, State.taking_ownerOrSupervisory,
      State.no_authority ho hr, Bool.false_eq_true, if_false, Reply.code, State.replied_unchanged]
  · simp only [State.cancel, State.taking_named, State.named_nothing he hg hx, Reply.code, State.replied_unchanged]
  · simp only [State.cancel, State.taking_named, State.named_ended he hg hx, State.taking_ownerOrSupervisory,
      State.no_authority ho hr, Bool.false_eq_true, if_false, Reply.code, State.replied_unchanged]
  · simp only [State.cancel, State.taking_named, State.named_ended he hg hx, State.taking_ownerOrSupervisory,
      State.ownerOrSupervisory_iff.2 howner, if_true, Reply.code, State.replied_unchanged]

/-! ### EXTEND (R106) -/

/-- Settles O21: by the amount and the state of the entry, and by what else the ticket names. -/
theorem extendActsByState : Obligations.ExtendActsByState := by
  unfold Obligations.ExtendActsByState
  refine ⟨fun s p f n amount e h hd he howner => ?_, fun s p f n amount h hd => ⟨fun e he ho hr => ?_,
    fun he => ⟨fun hg => ?_, fun hg hx => ?_, fun hg x hx => ⟨fun ho hr => ?_, fun howner => ?_⟩⟩⟩⟩
  · obtain rfl : e.ticket = n := (State.entry_mem he).2
    have hextend : (s.taking p f).extend p (e.ticket, amount) = (s.taking p f).extendEntry e amount := by
      simp only [State.extend, State.taking_named, State.named_entry he, State.taking_ownerOrSupervisory,
        State.ownerOrSupervisory_iff.2 howner, if_true]
    rw [exec_extend_taken h hd, hextend]
    refine ⟨fun h0 => ?_, fun h0 hst => ?_, fun h0 hst d hdeadline => ?_⟩
    · simp only [State.extendEntry, if_pos h0, Reply.code, State.replied_unchanged]
    · simp only [State.extendEntry, if_neg h0, if_neg hst, Reply.code, State.replied_unchanged]
    · have hclamped : (if extendClamped d amount then AnswerCode.clamped else .done) =
          if 12000 < amount ∨ 60000 < d + min 12000 amount then .clamped else .done := by
        simp only [extendClamped, decide_eq_true_iff, Config.maxExtend, Config.maxTravelRemaining, gt_iff_lt]
      simp only [State.extendEntry, if_neg h0, if_pos hst, hdeadline, Option.getD_some, State.replied_modEntry, hclamped]
      rfl
  all_goals rw [exec_extend_taken h hd]
  · simp only [State.extend, State.taking_named, State.named_entry he, State.taking_ownerOrSupervisory,
      State.no_authority ho hr, Bool.false_eq_true, if_false, Reply.code, State.replied_unchanged]
  · obtain ⟨g, hg⟩ := Option.isSome_iff_exists.1 hg
    simp only [State.extend, State.taking_named, State.named_programme he hg, Reply.code, State.replied_unchanged]
  · simp only [State.extend, State.taking_named, State.named_nothing he hg hx, Reply.code, State.replied_unchanged]
  · simp only [State.extend, State.taking_named, State.named_ended he hg hx, State.taking_ownerOrSupervisory,
      State.no_authority ho hr, Bool.false_eq_true, if_false, Reply.code, State.replied_unchanged]
  · simp only [State.extend, State.taking_named, State.named_ended he hg hx, State.taking_ownerOrSupervisory,
      State.ownerOrSupervisory_iff.2 howner, if_true, Reply.code, State.replied_unchanged]

/-! ### AMEND (R108, R109) -/

/-- A handler that changed its own port's queue: the request is answered in the state so changed. -/
theorem State.replied_requeued (s : State) (p : Nat) (f : Frame) (F : List Nat → List Nat) (c : AnswerCode)
    (x : List Byte) : s.replied p f ((s.taking p f).modPort p (fun q => { q with queue := F q.queue }), .now c x) =
      (s.modPort p (fun q => { q with queue := F q.queue })).answered p f c x := by
  have htransmit : (((s.taking p f).modPort p (fun q => { q with queue := F q.queue })).port p).transmit =
      (s.port p).transmit := by
    rw [State.port_modPort]
    split <;> exact s.taking_transmit p f p
  rw [State.replied_end _ _ _ _ _ _ htransmit, State.modPort_modPort]
  unfold State.taking State.answered
  rw [State.modPort_modPort, State.modPort_modPort]

section
variable {s : State} {p : Nat} {f : Frame} {e : Entry} {g : Target}

theorem State.amend_entry (he : s.entry e.ticket = some e) (hp : e.programme = none)
    (hpending : ¬ (e.state = .evaluating ∧ e.cancelPending = true)) (hg : e.target ≠ g) :
    s.amend e.owner (e.ticket, g) = s.amendEntry e g := by
  simp only [State.amend, State.named_entry he, ne_eq, not_true, if_false, hp, Option.isSome_none, Bool.false_eq_true,
    if_neg hpending, if_neg hg]

/-- R108: an amended entry is QUEUED again, outside a freeze and on a port that is not muted. -/
theorem State.run_amended {u : State} (he : u.entry e.ticket = some (e.amended g)) (hm : u.muted e.owner = false)
    (hmode : u.mode.isFreeze = false) : u.run [.enqueue e.ticket] = u.modEntry e.ticket (fun x => { x with state := .queued }) := by
  have hw := (State.worksOff_enqueue_unmuted he hm).run (by decide)
  simpa only [hmode, Bool.false_and, Bool.false_eq_true, if_false] using hw

/-- R108: an entry that waits takes the target and is QUEUED. -/
theorem State.amendEntry_waiting (he : s.entry e.ticket = some e) (hst : e.state = .queued ∨ e.state = .deferred)
    (hm : s.muted e.owner = false) (hmode : s.mode.isFreeze = false) :
    s.amendEntry e g = (s.modEntry e.ticket (fun x =>
      { x with target := g, voidCount := 0, cause := none, deadline := none, state := .queued }), .code .done) := by
  have hentry := State.entry_modEntry s e.ticket e.ticket (fun x => x.amended g) (fun _ => rfl)
  rw [he, Option.map_some, if_pos rfl] at hentry
  have hrun := State.run_amended hentry hm hmode
  rw [State.modEntry_modEntry _ _ (fun x => x.amended g) _ (fun _ => rfl)] at hrun
  rcases hst with h | h <;> (simp only [State.amendEntry, h, hrun]; rfl)

/-- R109: an EVALUATING entry does so too, its evaluation ended, and takes the head of its queue. -/
theorem State.amendEntry_evaluating (he : s.entry e.ticket = some e) (hst : e.state = .evaluating)
    (hm : s.muted e.owner = false) (hmode : s.mode.isFreeze = false) :
    s.amendEntry e g = (State.queueHead { s with
      evaluation := none
      entries := s.entries.map (fun x => if x.ticket = e.ticket then
        { x with target := g, voidCount := 0, cause := none, deadline := none, state := .queued } else x) }
      e.owner e.ticket, .code .done) := by
  have hentry := State.entry_modEntry s e.ticket e.ticket (fun x => x.amended g) (fun _ => rfl)
  rw [he, Option.map_some, if_pos rfl] at hentry
  have hmuted : (State.queueHead { s.modEntry e.ticket (fun x => x.amended g) with evaluation := none }
      e.owner e.ticket).muted e.owner = false := by
    unfold State.muted State.queueHead
    rw [State.port_modPort]
    split <;> exact hm
  have hrun := State.run_amended (u := State.queueHead
    { s.modEntry e.ticket (fun x => x.amended g) with evaluation := none } e.owner e.ticket) hentry hmuted hmode
  have hfields := s.modEntry_modEntry e.ticket (fun x => x.amended g) (fun x => { x with state := .queued })
    (fun _ => rfl)
  simp only [State.amendEntry, hst, hrun]
  exact congrArg (fun u : State => (State.queueHead { u with evaluation := none } e.owner e.ticket, Reply.code .done))
    hfields

end

/-- Settles O20: by owner, programme, target and state, and by what else the ticket names. -/
theorem amendActsByState : Obligations.AmendActsByState := by
  unfold Obligations.AmendActsByState
  refine ⟨fun s p f n g e h hd he => ?_, fun s p f n g h hd he => ?_⟩
  all_goals rw [exec_amend_taken h hd]
  · obtain rfl : e.ticket = n := (State.entry_mem he).2
    refine ⟨fun ho => ?_, fun ho hp => ?_, fun ho hp => ?_⟩
    · simp only [State.amend, State.taking_named, State.named_entry he, if_pos ho, Reply.code, State.replied_unchanged]
    · simp only [State.amend, State.taking_named, State.named_entry he, ho, ne_eq, not_true, if_false, hp, if_true,
        Reply.code, State.replied_unchanged]
    subst ho
    have hheld : ∀ b : EntryState, e.state = b → b ≠ .evaluating → ¬ (e.state = .evaluating ∧ e.cancelPending = true) :=
      fun b hb hne hpending => hne (hb.symm.trans hpending.1)
    have act := fun hpending hg => State.amend_entry (s := s.taking e.owner f) (g := g) he hp hpending hg
    refine ⟨fun hst hpending => ?_, fun hpending hg => ?_, fun hg hst => ?_, fun hg hst => ?_, fun hg hst hm hmode => ?_,
      fun hg hst hpending hm hmode => ?_⟩
    · simp only [State.amend, State.taking_named, State.named_entry he, ne_eq, not_true, if_false, hp,
        Option.isSome_none, Bool.false_eq_true, hst, hpending, and_self, if_true, Reply.code, State.replied_unchanged]
    · simp only [State.amend, State.taking_named, State.named_entry he, ne_eq, not_true, if_false, hp,
        Option.isSome_none, Bool.false_eq_true, if_neg hpending, if_pos hg, Reply.code, State.replied_unchanged]
    · have hlate : (s.taking e.owner f).amendEntry e g = (s.taking e.owner f, .code .tooLate) := by
        cases hs : e.state <;> simp_all [State.amendEntry, EntryState.held]
      rw [act (fun hpending => by rw [hpending.1] at hst; cases hst) hg, hlate, Reply.code, State.replied_unchanged]
    · rw [act (hheld _ hst (by decide)) hg]
      simp only [State.amendEntry, hst, Reply.code, State.replied_modEntry]
      rfl
    · have hpending : ¬ (e.state = .evaluating ∧ e.cancelPending = true) :=
        hst.elim (fun hs => hheld _ hs (by decide)) (fun hs => hheld _ hs (by decide))
      rw [act hpending hg, State.amendEntry_waiting (s := s.taking e.owner f) he hst (by rw [State.taking_muted, hm]) hmode, Reply.code,
        State.replied_modEntry]
    · rw [act (fun hboth => by rw [hpending] at hboth; cases hboth.2) hg,
        State.amendEntry_evaluating (s := s.taking e.owner f) he hst (by rw [State.taking_muted, hm]) hmode, Reply.code]
      exact congrArg _ (State.replied_requeued { s with
        evaluation := none
        entries := s.entries.map (fun x => if x.ticket = e.ticket then
          { x with target := g, voidCount := 0, cause := none, deadline := none, state := .queued } else x) }
        e.owner f (fun l => e.ticket :: l.filter (· ≠ e.ticket)) .done [])
  · refine ⟨fun hg => ?_, fun hg hx => ?_, fun hg x hx => ?_⟩
    · obtain ⟨g, hg⟩ := Option.isSome_iff_exists.1 hg
      simp only [State.amend, State.taking_named, State.named_programme he hg, Reply.code, State.replied_unchanged]
    · simp only [State.amend, State.taking_named, State.named_nothing he hg hx, Reply.code, State.replied_unchanged]
    · simp only [State.amend, State.taking_named, State.named_ended he hg hx, Reply.code, State.replied_unchanged]

end Sys2Proof.Machine
end

section
/-! REVOKE ANSWER (R112), the return of an entry that a freeze has revoked (R154) and the test of FROZEN (R155). -/

namespace Sys2Proof.Machine

/-! ### The test of FROZEN (R155) -/

/-- R155: in FREEZING the test changes the mode by what is held back, and sends notices. -/
theorem State.testFrozen_eq {s : State} (hm : s.mode = .freezing) :
    ∃ l, s.testFrozen = { s with mode := if s.noneHeldBack then .frozen else .freezing, ports := l } := by
  by_cases hn : s.noneHeldBack = true
  · rw [State.testFrozen, if_pos ⟨hm, hn⟩, if_pos hn]
    exact State.broadcast_ports { s with mode := .frozen } _
  · rw [State.testFrozen, if_neg fun h => hn h.2, if_neg hn]
    exact ⟨s.ports, by rw [← hm]⟩

theorem State.testFrozen_gains (s : State) : s.Gains s.testFrozen := by
  unfold State.testFrozen
  split
  · exact State.broadcast_gains { s with mode := .frozen } _
  · exact State.Gains.refl s

/-- R155, R177: the change to FROZEN is announced. -/
theorem State.testFrozen_announced {s : State} (hm : s.mode = .freezing) (hn : s.noneHeldBack = true) :
    s.Announced s.testFrozen 0 (.modeChanged .freezing .frozen) := by
  intro q hq hr ha hc
  have hmem := State.broadcast_mem { s with mode := .frozen } (.modeChanged .freezing .frozen) hq hr ha hc
  simp only [State.testFrozen, hm, hn, and_self, if_true, State.changeMode]
  exact hmem

theorem State.worksOff_test (s : State) : s.WorksOff [.testFrozen] 1 s.testFrozen :=
  State.WorksOff.cons rfl (State.worksOff_nil _)

theorem State.calm.testFrozen {s : State} (h : s.calm) (hm : s.mode = .freezing) : s.testFrozen.calm := by
  obtain ⟨l, hl⟩ := State.testFrozen_eq hm
  rw [hl]
  exact h

/-- R155: the state after the test, as the re-offer event that follows it leaves it, tells the mode itself. -/
theorem State.testFrozen_mode {s : State} (hm : s.mode = .freezing) :
    s.testFrozen.marked.mode = if s.testFrozen.marked.noneHeldBack then .frozen else .freezing := by
  obtain ⟨l, hl⟩ := State.testFrozen_eq hm
  rw [hl]
  rfl

/-- R117: the test of FROZEN is no part of a retirement before it. -/
theorem State.Retired.then_frozen {s t : State} {e : Entry} {o : MoveOutcome} (h : s.Retired t e o)
    (hm : t.mode = .freezing) : s.Retired t.testFrozen.marked e o := by
  obtain ⟨l, hl⟩ := State.testFrozen_eq hm
  have hqueue := t.testFrozen_gains.queue
  have hmem := fun q x => t.testFrozen_gains.mem (q := q) (x := x)
  rw [hl] at hqueue hmem ⊢
  exact { h with
    queues := fun q => (hqueue q).trans (h.queues q)
    notice := fun ha hc => hmem _ _ (h.notice ha hc) }

theorem State.calm.calmBut {s : State} (h : s.calm) (t : Nat) : s.calmBut t :=
  ⟨fun x hx hst => absurd hst (h.1 x hx), h.2⟩

section
variable {s : State} {e : Entry}

/-- R117, R155: in FREEZING the retirement of a held-back movement is followed by the test of FROZEN. -/
theorem State.run_retire_freezing (he : s.entry e.ticket = some e) (hh : e.state.held = true) (hs : e.state ≠ .settling)
    (hp : e.programme = none) (hc : s.calm) (hm : s.mode = .freezing) (hb : s.heldBack e = true) (o : MoveOutcome) :
    s.run [.retire e.ticket o] = (s.retiredBy e o).testFrozen.marked := by
  have hmode : (s.retiredBy e o).mode = .freezing := (s.retiredBy_mode e o).trans hm
  refine State.WorksOff.run (k := 3) (State.WorksOff.cons (s.retire_held he hh hs o) ?_) (by decide)
  simp only [hp, hb, if_true, List.nil_append, List.append_nil]
  exact (State.worksOff_test _).append ((s.retiredBy_calm e o hc).testFrozen hmode).worksOff_reoffer

/-! ### The return (R154) -/

theorem State.entry_returned (he : s.entry e.ticket = some e) :
    (s.modEntry e.ticket Entry.returned).entry e.ticket = some e.returned := by
  rw [State.entry_modEntry s _ _ Entry.returned (fun _ => rfl), he, Option.map_some, if_pos rfl]

/-- R151, R154: the entry that has taken the head of its queue becomes QUEUED or SUSPENDED. -/
theorem State.worksOff_return (he : s.entry e.ticket = some e) (hm : s.muted e.owner = false) :
    ((s.modEntry e.ticket Entry.returned).queueHead e.owner e.ticket).WorksOff [.enqueue e.ticket] 1
      (s.returnedBy e) := by
  have hmuted : ((s.modEntry e.ticket Entry.returned).queueHead e.owner e.ticket).muted e.owner = false := by
    unfold State.muted State.queueHead
    rw [State.port_modPort]
    split <;> exact hm
  have hfields := s.modEntry_modEntry e.ticket Entry.returned
    (fun x => { x with state := if s.mode.isFreeze && s.heldBack e then .suspended else .queued }) (fun _ => rfl)
  have hreturned : ((s.modEntry e.ticket Entry.returned).queueHead e.owner e.ticket).modEntry e.ticket
      (fun x => { x with state := if s.mode.isFreeze && s.heldBack e then .suspended else .queued }) =
      s.returnedBy e := congrArg (fun u : State => u.queueHead e.owner e.ticket) hfields
  rw [← hreturned]
  exact State.worksOff_enqueue_unmuted (e := e.returned)
    (s := (s.modEntry e.ticket Entry.returned).queueHead e.owner e.ticket) (State.entry_returned he) hmuted

theorem State.returnedBy_within (s : State) (e : Entry) : s.Within (s.returnedBy e) :=
  (s.modEntry_within _ _).trans (State.queueHead_within _ _ _)

theorem State.returnedBy_transmit (s : State) (e : Entry) (q : Nat) :
    ((s.returnedBy e).port q).transmit = (s.port q).transmit := by
  unfold State.returnedBy State.queueHead
  rw [State.port_modPort]
  split <;> rfl

/-- R154, R155: in FREEZING the return of a held-back movement is followed by the test of FROZEN. -/
theorem State.freezeReturn_freezing (he : s.entry e.ticket = some e) (hcoupled : e.coupled = false)
    (hq : (s.port e.owner).queue.length < 4) (hm : s.muted e.owner = false) (hc : s.calmBut e.ticket)
    (hmode : s.mode = .freezing) (hb : s.heldBack e = true) :
    s.freezeReturn e = (s.returnedBy e).testFrozen.marked := by
  have hroom : s.queueFull e.owner = false := decide_eq_false (Nat.not_le.2 hq)
  simp only [State.freezeReturn, hcoupled, hroom, hb, Bool.false_eq_true, if_false, if_true]
  exact ((State.worksOff_return he hm).append ((State.worksOff_test _).append
    ((State.returnedBy_calm hc).testFrozen hmode).worksOff_reoffer)).run (by decide)

/-- R154: with its queue full the entry ends. -/
theorem State.freezeReturn_full (he : s.entry e.ticket = some e) (hcoupled : e.coupled = false)
    (hq : 4 ≤ (s.port e.owner).queue.length) (hp : e.programme = none) (hc : s.calm) (hmode : s.mode ≠ .freezing) :
    s.freezeReturn e =
      ((s.modEntry e.ticket Entry.returned).retiredBy e.returned (.refused .queueFull)).marked.marked := by
  have hroom : s.queueFull e.owner = true := decide_eq_true hq
  have hcalm : (s.modEntry e.ticket Entry.returned).calmBut e.ticket := by
    refine ⟨fun x hx hst => ?_, hc.2⟩
    obtain ⟨y, hy, rfl⟩ := List.mem_map.1 hx
    by_contra ht
    have hne : y.ticket ≠ e.ticket := fun hye => ht (by rw [if_pos hye]; exact hye)
    rw [if_neg hne] at hst
    exact hc.1 y hy hst
  have hretire := State.worksOff_retire_alone (s := s.modEntry e.ticket Entry.returned) (e := e.returned) (State.entry_returned he) (fun h => nomatch h) hp hcalm
    (fun _ => hmode) (.refused .queueFull)
  have hafter : ((s.modEntry e.ticket Entry.returned).retiredBy e.returned (.refused .queueFull)).marked.calm :=
    State.retiredBy_calm_of_calmBut hcalm _
  have htest : ((s.modEntry e.ticket Entry.returned).retiredBy e.returned (.refused .queueFull)).marked.mode ≠ .freezing := by
    have hkept := (s.modEntry e.ticket Entry.returned).retiredBy_mode e.returned (.refused .queueFull)
    exact fun h => hmode (hkept.symm.trans h)
  simp only [State.freezeReturn, hcoupled, hroom, Bool.false_eq_true, if_false, if_true]
  exact (hretire.append (((State.worksOff_testFrozen htest).ite _).append hafter.worksOff_reoffer)).run (by decide)

end

/-! ### The request (R112) -/

section
variable {s : State} {p : Nat} {f : Frame} {e : Entry} {a : RevokeReply}

theorem State.revokeAnswer_entry (he : s.entry e.ticket = some e) (hp : s.reportingPort e.apparatus = some p) :
    s.revokeAnswer p (e.ticket, a) = s.revokeEntry e a := by
  simp only [State.revokeAnswer, State.named_entry he, if_pos hp]

theorem State.revokeEntry_withdrawn (hst : e.state = .revoking) : s.revokeEntry e .withdrawn =
    (if e.flavour = some .freeze then s.freezeReturn e else s.run [.retire e.ticket .cancelled], .code .done) := by
  simp only [State.revokeEntry, hst, if_true]
  split <;> rfl

end

@[simp] theorem State.marked_entries (s : State) : s.marked.entries = s.entries := rfl
@[simp] theorem State.marked_ended (s : State) : s.marked.ended = s.ended := rfl
@[simp] theorem State.placeAnswer_noneHeldBack (s : State) (p n : Nat) (x : Outgoing) :
    (s.placeAnswer p n x).noneHeldBack = s.noneHeldBack := rfl

section
variable {s : State} {p : Nat} {f : Frame} {e : Entry} (h : s.Takes p .revokeAnswer f)
  (hd : decodeRevokeAnswer f.body = some (e.ticket, .withdrawn)) (he : s.entry e.ticket = some e)
  (hp : s.reportingPort e.apparatus = some p) (hst : e.state = .revoking)
include h hd he hp hst

/-- R112: a WITHDRAWN comes to the retirement of its entry, or to its return. -/
theorem exec_withdrawn : exec (.revokeAnswer p) s = .next (s.replied p f
    (if e.flavour = some .freeze then (s.taking p f).freezeReturn e
      else (s.taking p f).run [.retire e.ticket .cancelled], .now .done [])) := by
  have he' : (s.taking p f).entry e.ticket = some e := he
  rw [exec_revokeAnswer_taken h hd, State.revokeAnswer_entry he' hp, State.revokeEntry_withdrawn hst]
  rfl

/-- R112: without flavour FREEZE the entry retires CANCELLED. -/
theorem exec_withdrawn_cancelled (hf : e.flavour ≠ some .freeze) (hg : e.programme = none) (hc : s.calm)
    (hm : s.mode ≠ .freezing) :
    ∃ t, exec (.revokeAnswer p) s = .next t ∧ s.Retired t e .cancelled ∧ s.answers t p f .done [] := by
  have hrun := (State.worksOff_retire_alone (s := s.taking p f) he (by rw [hst]; decide) hg
    (State.calm.calmBut (s := s.taking p f) hc _) (fun _ => hm) .cancelled).run (by decide)
  rw [exec_withdrawn h hd he hp hst, if_neg hf]
  refine ⟨_, rfl, ?_, (State.run_within _ _).answers h.listed _ _⟩
  rw [hrun]
  exact (State.retiredBy_marked_retired _ e _).of_taking _ _

/-- R112, R155: in FREEZING the mode becomes FROZEN when it was the last held-back movement. -/
theorem exec_withdrawn_freezing (hf : e.flavour ≠ some .freeze) (hg : e.programme = none) (hc : s.calm)
    (hm : s.mode = .freezing) (hback : s.heldBack e = true) :
    ∃ t, exec (.revokeAnswer p) s = .next t ∧ s.Retired t e .cancelled ∧ s.answers t p f .done [] ∧
      t.mode = (if t.noneHeldBack then .frozen else .freezing) := by
  have hrun := State.run_retire_freezing (s := s.taking p f) he (by rw [hst]; rfl) (by rw [hst]; decide) hg hc hm
    hback .cancelled
  have hmode := (State.retiredBy_mode (s.taking p f) e .cancelled).trans hm
  have hanswers := (State.run_within (s.taking p f) [.retire e.ticket .cancelled]).answers h.listed .done []
  rw [exec_withdrawn h hd he hp hst, if_neg hf]
  rw [hrun] at hanswers ⊢
  refine ⟨_, rfl, ((State.retiredBy_retired _ e _).then_frozen hmode).of_taking _ _, hanswers, ?_⟩
  rw [State.replied_now, State.placeAnswer_mode, State.placeAnswer_noneHeldBack]
  exact State.testFrozen_mode hmode

variable (hf : e.flavour = some .freeze) (hcoupled : e.coupled = false)
include hf hcoupled

section
variable (hq : (s.port e.owner).queue.length < 4) (hmute : s.muted e.owner = false) (hc : s.calm)
include hq hmute hc

/-- R154: with flavour FREEZE and room in its queue the entry returns to its head. -/
theorem exec_withdrawn_returns (hm : s.mode = .service ∨ s.mode = .frozen) :
    ∃ t, exec (.revokeAnswer p) s = .next t ∧ s.answers t p f .done [] ∧
      t.entries = s.entries.map (fun x =>
        if x.ticket = e.ticket then Entry.returnedTo (s.mode.isFreeze && s.heldBack e) x else x) ∧
      (t.port e.owner).queue = e.ticket :: (s.port e.owner).queue.filter (· ≠ e.ticket) := by
  have hmode : s.mode ≠ .freezing := by rcases hm with hm | hm <;> rw [hm] <;> decide
  have hreturn := State.freezeReturn_returns (s := s.taking p f) he hcoupled (by rwa [State.taking_queue])
    (by rw [State.taking_muted, hmute]) (State.calm.calmBut (s := s.taking p f) hc _) hmode
  have hqueue := State.returnedBy_queue (s := s.taking p f) (e := e) (by rw [State.taking_muted, hmute])
  have hanswers := (State.freezeReturn_within (s.taking p f) e).answers h.listed .done []
  rw [State.taking_queue] at hqueue
  rw [exec_withdrawn h hd he hp hst, if_pos hf]
  rw [hreturn] at hanswers ⊢
  refine ⟨_, rfl, hanswers, ?_, ?_⟩ <;> rw [State.replied_now]
  · rfl
  · exact (State.placeAnswer_queue _ _ _ _ _).trans hqueue

/-- R154, R155: in FREEZING a held-back entry returns SUSPENDED, and the mode becomes FROZEN when it was the last. -/
theorem exec_withdrawn_returns_freezing (hm : s.mode = .freezing) (hback : s.heldBack e = true) :
    ∃ t, exec (.revokeAnswer p) s = .next t ∧ s.answers t p f .done [] ∧
      t.entries = s.entries.map (fun x => if x.ticket = e.ticket then Entry.returnedTo true x else x) ∧
      (t.port e.owner).queue = e.ticket :: (s.port e.owner).queue.filter (· ≠ e.ticket) ∧
      t.mode = (if t.noneHeldBack then .frozen else .freezing) ∧
      (t.mode = .frozen → s.Announced t 0 (.modeChanged .freezing .frozen)) := by
  have hreturn := State.freezeReturn_freezing (s := s.taking p f) he hcoupled (by rwa [State.taking_queue])
    (by rw [State.taking_muted, hmute]) (State.calm.calmBut (s := s.taking p f) hc _) hm hback
  have hqueue := State.returnedBy_queue (s := s.taking p f) (e := e) (by rw [State.taking_muted, hmute])
  have hmode : ((s.taking p f).returnedBy e).mode = .freezing := hm
  have hheld : ((s.taking p f).mode.isFreeze && (s.taking p f).heldBack e) = true := by
    rw [show (s.taking p f).mode = .freezing from hm]
    exact hback
  have hsuspended : ((s.taking p f).returnedBy e).entries = s.entries.map (fun x =>
      if x.ticket = e.ticket then Entry.returnedTo true x else x) := by
    unfold State.returnedBy
    rw [hheld]
    rfl
  have hanswers := (State.freezeReturn_within (s.taking p f) e).answers h.listed .done []
  obtain ⟨l, hl⟩ := State.testFrozen_eq hmode
  rw [State.taking_queue] at hqueue
  rw [exec_withdrawn h hd he hp hst, if_pos hf]
  rw [hreturn] at hanswers ⊢
  refine ⟨_, rfl, hanswers, ?_, ?_, ?_, fun hfrozen => ?_⟩ <;> rw [State.replied_now] at *
  · rw [State.placeAnswer_entries]
    refine Eq.trans ?_ hsuspended
    rw [hl]
    rfl
  · exact (State.placeAnswer_queue _ _ _ _ _).trans (((State.testFrozen_gains _).queue _).trans hqueue)
  · rw [State.placeAnswer_mode, State.placeAnswer_noneHeldBack]
    exact State.testFrozen_mode hmode
  · have hlast : ((s.taking p f).returnedBy e).noneHeldBack = true := by
      rw [State.placeAnswer_mode] at hfrozen
      have hmode := (congrArg State.mode hl).symm.trans hfrozen
      by_contra hn
      rw [if_neg hn] at hmode
      cases hmode
    intro q hq hr ha hn
    have hport := (State.returnedBy_within (s.taking p f) e).port q
    refine State.placeAnswer_mem _ _ _ (State.testFrozen_announced hmode hlast q hq ?_ ?_ ?_)
    · exact (congrArg Port.role hport).trans ((s.taking_role p f q).trans hr)
    · exact (congrArg Port.state hport).trans ((s.taking_state p f q).trans ha)
    · rw [State.returnedBy_transmit, State.taking_transmit]
      exact hn

end

/-- R154: with its queue full the entry ends REFUSED(QUEUE_FULL). -/
theorem exec_withdrawn_full (hq : 4 ≤ (s.port e.owner).queue.length) (hg : e.programme = none) (hc : s.calm)
    (hm : s.mode = .service ∨ s.mode = .frozen) :
    ∃ t, exec (.revokeAnswer p) s = .next t ∧ s.answers t p f .done [] ∧
      t.entries = s.entries.filter (fun x => x.ticket ≠ e.ticket) ∧
      t.ended = (s.ended ++ [Entry.endedItem e (.refused .queueFull)]).drop (s.ended.length + 1 - 16) := by
  have hmode : s.mode ≠ .freezing := by rcases hm with hm | hm <;> rw [hm] <;> decide
  have hreturn := State.freezeReturn_full (s := s.taking p f) he hcoupled (by rwa [State.taking_queue]) hg hc hmode
  have hanswers := (State.freezeReturn_within (s.taking p f) e).answers h.listed .done []
  rw [exec_withdrawn h hd he hp hst, if_pos hf]
  rw [hreturn] at hanswers ⊢
  refine ⟨_, rfl, hanswers, ?_, ?_⟩ <;> rw [State.replied_now]
  · rw [State.placeAnswer_entries, State.marked_entries, State.marked_entries, State.retiredBy_entries]
    show (s.entries.map (fun x => if x.ticket = e.ticket then x.returned else x)).filter
      (fun x => x.ticket ≠ e.ticket) = _
    induction s.entries with
    | nil => rfl
    | cons x l ih => by_cases hx : x.ticket = e.ticket <;> simp_all [Entry.returned]
  · rw [State.placeAnswer_ended, State.marked_ended, State.marked_ended, State.retiredBy_ended]
    rfl

end

/-- Settles O22: by the reporting port, the state, the reply and the flavour, and by what else the ticket names. -/
theorem revokeAnswerActsByState : Obligations.RevokeAnswerActsByState := by
  unfold Obligations.RevokeAnswerActsByState
  refine ⟨fun s p f n a e d h hb he hd => ?_, fun s p f n a h hb he => ?_⟩
  · obtain rfl : e.ticket = n := (State.entry_mem he).2
    have he' : (s.taking p f).entry e.ticket = some e := he
    have hport : s.reportingPort e.apparatus = some d.port := congrArg (Option.map AppDesc.port) hd
    have hother : d.port ≠ p → (s.taking p f).reportingPort e.apparatus ≠ some p :=
      fun hp hq => hp (Option.some.inj (hport.symm.trans hq))
    refine ⟨fun hp => ?_, fun hp hst => ?_, fun hp hst ha => ?_, fun hp hst ha => ?_, fun hp hst ha => ?_,
      fun hp hst ha => ?_, fun hp hst ha => ?_, fun hp hst ha hf hcoupled hq hg => ?_⟩
    · rw [exec_revokeAnswer_taken h hb]
      simp only [State.revokeAnswer, State.taking_named, State.named_entry he, if_neg (hother hp), Reply.code,
        State.replied_unchanged]
    all_goals subst hp
    · rw [exec_revokeAnswer_taken h hb, State.revokeAnswer_entry he' hport]
      simp only [State.revokeEntry, if_neg hst, Reply.code, State.replied_unchanged]
    all_goals subst ha
    · rw [exec_revokeAnswer_taken h hb, State.revokeAnswer_entry he' hport]
      simp only [State.revokeEntry, hst, if_true, State.travel, State.taking_appDesc, hd, Reply.code,
        State.replied_modEntry]
    · exact exec_withdrawn_cancelled h hb he hport hst
    · exact exec_withdrawn_freezing h hb he hport hst
    · exact exec_withdrawn_returns h hb he hport hst
    · exact exec_withdrawn_returns_freezing h hb he hport hst
    · exact exec_withdrawn_full h hb he hport hst hf hcoupled hq hg
  all_goals rw [exec_revokeAnswer_taken h hb]
  refine ⟨fun hg => ?_, fun hg hx => ?_, fun hg x hx => ⟨fun hp => ?_, fun hp => ?_⟩⟩
  · obtain ⟨g, hg⟩ := Option.isSome_iff_exists.1 hg
    simp only [State.revokeAnswer, State.taking_named, State.named_programme he hg, Reply.code, State.replied_unchanged]
  · simp only [State.revokeAnswer, State.taking_named, State.named_nothing he hg hx, Reply.code, State.replied_unchanged]
  · have hown : (s.taking p f).reportingPort x.apparatus = some p := State.reportingPort_iff.2 hp
    simp only [State.revokeAnswer, State.taking_named, State.named_ended he hg hx, if_pos hown, Reply.code,
      State.replied_unchanged]
  · have hown : ¬ (s.taking p f).reportingPort x.apparatus = some p := fun h => hp (State.reportingPort_iff.1 h)
    simp only [State.revokeAnswer, State.taking_named, State.named_ended he hg hx, if_neg hown, Reply.code,
      State.replied_unchanged]

end Sys2Proof.Machine
end

section
/-! A RELEASED entry that a blocking event or a restriction reaches (R113, R114, R139), and the next free ticket (R94). -/

namespace Sys2Proof.Machine

/-! ### The ending of a RELEASED entry (R113, R114) -/

/-- The ending of entries that have left the table does nothing. -/
theorem State.worksOff_blockEnd_gone {s : State} {l : List Nat} (h : ∀ n ∈ l, s.entry n = none) :
    s.WorksOff (l.map .blockEnd) l.length s := by
  induction l with
  | nil => exact s.worksOff_nil
  | cons n l ih =>
    refine State.WorksOff.cons (new := []) ?_ (ih fun m hm => h m (List.mem_cons_of_mem _ hm))
    simp only [State.runTask, State.blockEnd, h n List.mem_cons_self]

section
variable {s : State} {e : Entry}

/-- R113, R114: the entry is revoked and retires, however often the event names it. -/
theorem State.run_blockEnd (he : s.entry e.ticket = some e) (hst : e.state = .released) (hp : e.programme = none)
    (hc : s.calm) (hm : s.mode ≠ .freezing) {l : List Nat} (hl : ∀ n ∈ l, n = e.ticket) :
    s.run ((e.ticket :: l).map .blockEnd) = (s.sendRevoke e).run [.retire e.ticket .blockedAfterRelease] := by
  have honly := s.sendRevoke_onlyPorts e
  have hretire : (s.sendRevoke e).WorksOff [.retire e.ticket .blockedAfterRelease] 3
      ((s.sendRevoke e).retiredBy e .blockedAfterRelease).marked := by
    rw [honly.eq]
    exact State.worksOff_retire_alone (s := { s with ports := (s.sendRevoke e).ports }) he (by rw [hst]; decide) hp
      (State.calm.calmBut (s := { s with ports := (s.sendRevoke e).ports }) hc _) (fun _ => hm) .blockedAfterRelease
  have hgone := (State.retiredBy_marked_retired (s.sendRevoke e) e .blockedAfterRelease).entry_none
  have hrest := State.worksOff_blockEnd_gone (l := l) fun n hn => (hl n hn ▸ hgone :)
  have hfirst : s.runTask (.blockEnd e.ticket) = (s.sendRevoke e, [.retire e.ticket .blockedAfterRelease]) := by
    simp only [State.runTask, State.blockEnd, he, hst, if_true]
  rw [hretire.run (by decide)]
  refine (State.WorksOff.cons hfirst (hretire.append hrest)).run_bounded ?_
  refine Nat.le_trans ?_ (taskBound_ge_square _ _)
  rw [List.length_cons, List.length_map]
  nlinarith [Nat.zero_le (s.entries.length), Nat.zero_le (l.length)]

end

/-! ### A report that blocks a RELEASED entry (R17, R18, R20, R113) -/

theorem Flags4.rising_get (before now : Flags4) (c : Condition) :
    (Flags4.rising before now).get c = (now.get c && !before.get c) := by
  cases c <;> rfl

theorem State.mem_releasedOf {s : State} {a n : Nat} :
    n ∈ s.releasedOf a ↔ ∃ e ∈ s.entries, e.state = .released ∧ e.apparatus = a ∧ e.ticket = n := by
  simp only [State.releasedOf, List.mem_map, List.mem_filter, Bool.and_eq_true, beq_iff_eq, and_assoc]

/-- R20, R113: a blocking event of the only apparatus of a RELEASED entry ends it. -/
theorem State.blockingEvent_ends {s : State} {e : Entry} (he : s.entry e.ticket = some e) (hst : e.state = .released)
    (hp : e.programme = none) (hc : s.calm) (hm : s.mode ≠ .freezing)
    (hone : ∀ x ∈ s.entries, x.apparatus = e.apparatus → x.ticket = e.ticket) :
    s.blockingEvent e.apparatus = (s.sendRevoke e).run [.retire e.ticket .blockedAfterRelease] := by
  have hall : ∀ n ∈ s.releasedOf e.apparatus, n = e.ticket := by
    intro n hn
    obtain ⟨x, hx, -, ha, rfl⟩ := State.mem_releasedOf.1 hn
    exact hone x hx ha
  have hmem : e.ticket ∈ s.releasedOf e.apparatus :=
    State.mem_releasedOf.2 ⟨e, (State.entry_mem he).1, hst, rfl, rfl⟩
  unfold State.blockingEvent
  cases hl : s.releasedOf e.apparatus with
  | nil => rw [hl] at hmem; cases hmem
  | cons n l =>
    rw [hl] at hall
    obtain rfl := hall n List.mem_cons_self
    exact State.run_blockEnd he hst hp hc hm fun m hm => hall m (List.mem_cons_of_mem _ hm)

/-- R9, R17: the record of an apparatus after an item that changes its inputs and not its effective position. -/
def AppLive.reportedAs (modes : Flags4) (pos : Pos) (sub : Option Target) (eff : Pos) (flags : Flags4) (x : AppLive) : AppLive :=
  AppLive.withBlocking { x with reported := pos, substituted := sub, effective := eff } modes flags

/-- R9, R17, R20: an item that changes no effective position and makes a condition present is a blocking event. -/
theorem State.positionReported_blocks {s : State} {d : AppDesc} {r : AppLive} {pos : Pos} {flags : Flags4}
    (hr : s.app d.number = some r) (heff : effectivePosition r.substituted (s.reporterActive d) pos = r.effective)
    (hrise : ∃ c, flags.get c = true ∧ r.present.get c = false) :
    s.positionReported d r pos flags =
      (s.modApp d.number (AppLive.reportedAs d.latchedModes pos r.substituted r.effective flags)).blockingEvent d.number := by
  have hevent : ∀ x : AppLive, x.present = r.present → x.blockingEvent flags = true := by
    intro x hx
    obtain ⟨c, hnow, hbefore⟩ := hrise
    refine (Flags4.any_iff _).2 ⟨c, ?_⟩
    rw [Flags4.rising_get, hx, hnow, hbefore]
    rfl
  have hwritten : (s.appWritten d.number pos r.substituted r.effective).app d.number = some
      { r with reported := pos, substituted := r.substituted, effective := r.effective } := by
    refine (State.app_modApp s d.number d.number _ (by exact fun _ => rfl)).trans ?_
    rw [hr, Option.map_some, if_pos rfl]
  have happs : (s.appWritten d.number pos r.substituted r.effective).modApp d.number
      (fun x => x.withBlocking d.latchedModes flags) =
      s.modApp d.number (AppLive.reportedAs d.latchedModes pos r.substituted r.effective flags) :=
    State.modApp_modApp _ _ _ _ (by exact fun _ => rfl)
  rw [State.positionReported, State.setAppInputs_same true .report pos r.substituted hr heff]
  simp only [State.applyBlocking, hwritten]
  rw [if_pos (hevent { r with reported := pos, substituted := r.substituted, effective := r.effective } rfl), happs]

/-- R113, R117: the position report that blocks a RELEASED entry. -/
theorem exec_report_blocks {s : State} {p : Nat} {f : Frame} {pos : Pos} {flags : Flags4} {d : AppDesc} {r : AppLive}
    {e : Entry} (h : s.Takes p .positionReport f)
    (hbody : decodeReport f.body = some [.apparatus e.apparatus pos flags]) (hh : s.heldPassRunning = false)
    (hd : s.appDesc e.apparatus = some d) (hport : d.port = p) (hr : s.app e.apparatus = some r)
    (heff : effectivePosition r.substituted (s.reporterActive d) pos = r.effective)
    (hrise : ∃ c, flags.get c = true ∧ r.present.get c = false) (he : s.entry e.ticket = some e)
    (hst : e.state = .released) (hp : e.programme = none)
    (hone : ∀ x ∈ s.entries, x.apparatus = e.apparatus → x.ticket = e.ticket) (hc : s.calm) (hm : s.mode ≠ .freezing) :
    ∃ t, exec (.positionReport p) s = .next t ∧ s.answers t p f .done [1#8, 0#8, 0xFF#8] ∧
      State.Retired (s.modApp e.apparatus
        (AppLive.reportedAs d.latchedModes pos r.substituted r.effective flags)) t e .blockedAfterRelease ∧
      ((s.port p).state = .active → noticeCount (s.port p).transmit < 32 →
        Outgoing.notice (.revoke e.ticket e.apparatus) ∈ (t.port p).transmit) := by
  have hnumber := State.appDesc_number hd
  let w := s.modApp e.apparatus (AppLive.reportedAs d.latchedModes pos r.substituted r.effective flags)
  have hitem : (s.taking p f).applyItem p (.apparatus e.apparatus pos flags) =
      ((w.taking p f).blockingEvent e.apparatus, none) := by
    refine (State.applyAppItem_open (s := s.taking p f) (r := r) pos flags hd hport hr hh).trans ?_
    rw [State.positionReported_blocks (s := s.taking p f) (hnumber ▸ hr) (by rw [State.taking_reporterActive, heff]) hrise,
      hnumber]
    rfl
  have hends : (w.taking p f).blockingEvent e.apparatus =
      ((w.taking p f).sendRevoke e).run [.retire e.ticket .blockedAfterRelease] :=
    State.blockingEvent_ends (s := w.taking p f) he hst hp hc hm hone
  obtain ⟨hretired, -, hnotice⟩ := State.run_revoked (s := w.taking p f) he hst hp
    (State.calm.calmBut (s := w.taking p f) hc _) hm .blockedAfterRelease
  have hwithin : (s.taking p f).Around ((w.taking p f).blockingEvent e.apparatus) :=
    (State.modApp_around (s.taking p f) e.apparatus _).trans (State.run_within _ _).around
  rw [exec_report_applied h hbody hitem]
  rw [hends] at hwithin ⊢
  generalize ((w.taking p f).sendRevoke e).run [.retire e.ticket .blockedAfterRelease] = u at hretired hnotice hwithin ⊢
  refine ⟨_, rfl, ?_, hretired.of_taking _ _, fun ha hn => ?_⟩
  · refine State.replied_answers _ _ _ _ _ _ ?_ ?_
    · have e := congrArg List.length hwithin.ports
      rw [List.length_map, List.length_map, State.taking_length] at e
      exact e ▸ h.listed
    · have e := hwithin.transmit p
      rwa [State.taking_transmit] at e
  · refine State.placeAnswer_mem _ _ _ (hnotice p ?_ ?_ ?_)
    · exact State.reportingPort_iff.2 ⟨d, hd, hport⟩
    · exact (State.taking_state w p f p).trans ha
    · rw [State.taking_transmit]
      exact hn

/-- Settles O25: the task itself, and the report that brings it about. -/
theorem blockedReleaseEnds : Obligations.BlockedReleaseEnds := by
  unfold Obligations.BlockedReleaseEnds
  refine ⟨fun s e he hst hp hc hm => ?_,
    fun s p f a pos flags d r e h hbody hh hd hport hr heff hrise he hst ha hp hone hc hm => ?_⟩
  · obtain ⟨hretired, -, hnotice⟩ := State.run_revoked he hst hp (hc.calmBut _) hm .blockedAfterRelease
    rw [show [Task.blockEnd e.ticket] = [e.ticket].map .blockEnd from rfl,
      State.run_blockEnd (l := []) he hst hp hc hm fun _ hn => absurd hn List.not_mem_nil]
    exact ⟨hretired, hnotice⟩
  · subst ha
    exact exec_report_blocks h hbody hh hd hport hr heff hrise he hst hp hone hc hm

/-! ### The next free ticket (R94) -/

/-- The tickets that are not issued: those of live entries, programmes and ended items. -/
def State.usedTickets (s : State) : List Nat :=
  s.entries.map Entry.ticket ++ (s.programmes.map Programme.ticket ++ s.ended.map Ended.ticket)

theorem State.ticketUsed_iff {s : State} {t : Nat} : s.ticketUsed t = true ↔ t ∈ s.usedTickets := by
  simp [State.ticketUsed, State.usedTickets, State.entry, State.programme, State.endedItem, or_assoc]

/-- R94: the counter goes round the numbers 1 to 65535. -/
theorem nextTicket_iterate {t : Nat} (h1 : 1 ≤ t) (h2 : t ≤ 65535) (k : Nat) :
    nextTicket^[k] t = (t - 1 + k) % 65535 + 1 := by
  induction k with
  | zero => simp only [Function.iterate_zero, id_eq]; omega
  | succ k ih =>
    rw [Function.iterate_succ_apply', ih, nextTicket]
    split <;> omega

/-- The search ends on a number that is in use only when it has met no free one. -/
theorem State.freeTicketFrom_used {s : State} {n t : Nat} (h : s.ticketUsed (s.freeTicketFrom n t) = true) :
    ∀ k ≤ n, s.ticketUsed (nextTicket^[k] t) = true := by
  induction n generalizing t with
  | zero =>
    intro k hk
    rw [Nat.le_zero.1 hk]
    exact h
  | succ n ih =>
    rw [State.freeTicketFrom] at h
    intro k hk
    split at h
    next hused =>
      cases k with
      | zero => exact hused
      | succ k => exact ih h k (Nat.le_of_succ_le_succ hk)
    next hfree => exact absurd h hfree

theorem State.freeTicketFrom_range {s : State} {n t : Nat} (h1 : 1 ≤ t) (h2 : t ≤ 65535) :
    1 ≤ s.freeTicketFrom n t ∧ s.freeTicketFrom n t ≤ 65535 := by
  induction n generalizing t with
  | zero => exact ⟨h1, h2⟩
  | succ n ih =>
    rw [State.freeTicketFrom]
    split
    · refine ih ?_ ?_ <;> (unfold nextTicket; split <;> omega)
    · exact ⟨h1, h2⟩

/-- R94: one more number than stand in the tables is looked at, and these numbers are distinct, so one of them is free. -/
theorem State.freeTicket_unused {s : State} (h1 : 1 ≤ s.ticketCounter) (h2 : s.ticketCounter ≤ 65535)
    (hfew : s.usedTickets.length < 65535) : s.ticketUsed s.freeTicket = false := by
  by_contra hused
  have hlength : s.usedTickets.length = s.entries.length + s.programmes.length + s.ended.length := by
    simp [State.usedTickets, Nat.add_assoc]
  have hall := State.freeTicketFrom_used (Bool.eq_true_of_not_eq_false hused)
  have hdistinct : ((List.range (s.usedTickets.length + 1)).map (fun k => nextTicket^[k] s.ticketCounter)).Nodup := by
    refine List.Nodup.map_on (fun j hj k hk hjk => ?_) List.nodup_range
    rw [List.mem_range] at hj hk
    simp only [nextTicket_iterate h1 h2] at hjk
    omega
  have hsubset : (List.range (s.usedTickets.length + 1)).map (fun k => nextTicket^[k] s.ticketCounter) ⊆
      s.usedTickets := by
    intro n hn
    obtain ⟨k, hk, rfl⟩ := List.mem_map.1 hn
    refine State.ticketUsed_iff.1 (hall k ?_)
    rw [← hlength]
    exact Nat.le_of_lt (List.mem_range.1 hk)
  have hle := (List.subperm_of_subset hdistinct hsubset).length_le
  rw [List.length_map, List.length_range] at hle
  exact Nat.not_succ_le_self _ hle

/-- R94, R95: with the tables within their places, the number issued next is free and in range. -/
theorem State.freeTicket_spec {s : State} (h : s.tableLaw) (h1 : 1 ≤ s.ticketCounter) (h2 : s.ticketCounter ≤ 65535) :
    s.ticketUsed s.freeTicket = false ∧ 1 ≤ s.freeTicket ∧ s.freeTicket ≤ 65535 := by
  obtain ⟨hentries, hended, hprogrammes, -⟩ := h
  refine ⟨State.freeTicket_unused h1 h2 ?_, State.freeTicketFrom_range h1 h2⟩
  simp only [State.usedTickets, List.length_append, List.length_map]
  omega

/-- Settles O23: the numbers looked at outnumber those in use. -/
theorem issuedTicketIsFree : Obligations.IssuedTicketIsFree := by
  unfold Obligations.IssuedTicketIsFree
  exact fun _ h h1 h2 => State.freeTicket_spec h h1 h2

end Sys2Proof.Machine
end

section
/-! A rule of the whole machine, command by command: what each handler keeps, every command but the closing event keeps. -/

namespace Sys2Proof.Machine

/-! ### The taking of a request (R163, R164) -/

/-- Port `p` may send a request of kind `k` in the mode that stands (R165). -/
structure State.Admits (s : State) (p : Nat) (k : RequestKind) : Prop where
  role : (s.port p).role.maySend k = true
  mode : k.takenIn s.mode = true

/-- `P` is kept by the taking of a frame and by its answer. -/
structure TakesKept (P : State → Prop) : Prop where
  taking : ∀ {s : State} (p : Nat) (f : Frame), P s → P (s.taking p f)
  answer : ∀ {s : State} (p n : Nat) (k : Byte) (t : BitVec 16) (c : AnswerCode) (l : List Byte), P s →
    P (s.placeAnswer p n (.answer k t c l))

section
variable {P : State → Prop} (h : TakesKept P) {s : State}
include h

theorem TakesKept.takeFrame (p : Nat) (accepts : Frame → Bool) (k : Byte → Byte)
    (handler : Frame → State → State × Reply) (hs : P s) (hh : ∀ f, P (handler f (s.taking p f)).1) :
    P (s.takeFrame p accepts k handler) := by
  cases ht : s.takeable p with
  | none => simpa only [State.takeFrame, ht] using hs
  | some f =>
    cases ha : accepts f with
    | false => simpa only [State.takeFrame, ht, ha, Bool.false_eq_true, if_false] using hs
    | true =>
      rw [State.takeFrame_taken s p f accepts k handler ht ha]
      dsimp only
      split
      · exact h.answer _ _ _ _ _ _ (hh f)
      · exact hh f

/-- R164: a request refused by the three checks changes nothing; the others are their handler's. -/
theorem TakesKept.checked {α : Type} {p : Nat} {k : RequestKind} {decode : List Byte → Option α}
    {handle : α → Frame → State → State × Reply} (hs : P s) (f : Frame)
    (hh : ∀ x f u, P u → u.Admits p k → P (handle x f u).1) :
    P (State.checked p k decode handle f (s.taking p f)).1 := by
  have htaken := h.taking p f hs
  unfold State.checked
  split
  · exact htaken
  · split_ifs with hr hm
    · exact htaken
    · exact htaken
    · exact hh _ f _ htaken ⟨Bool.eq_true_of_not_eq_false hr, Bool.eq_true_of_not_eq_false hm⟩

theorem TakesKept.request {α : Type} {p : Nat} {k : RequestKind} {decode : List Byte → Option α}
    {handle : α → Frame → State → State × Reply} (hs : P s) (hh : ∀ x f u, P u → u.Admits p k → P (handle x f u).1) :
    P (s.request p k decode handle) :=
  h.takeFrame p _ _ _ hs fun f => h.checked hs f hh

theorem TakesKept.loadRequest {p op : Nat} (hs : P s)
    (hh : ∀ x u, P u → u.Admits p .loadYard → P (u.loadYard x).1) : P (s.loadRequest p op) :=
  h.takeFrame p _ _ _ hs fun f => h.checked hs f fun x _ u => hh x u

end

theorem State.whenRunning_keeps {P : State → Prop} {s : State} {f : State → State} (hs : P s) (hf : P (f s)) :
    P (s.whenRunning f) := by
  unfold State.whenRunning
  split
  · exact hs
  · exact hf

/-! ### The commands -/

/-- `P` is kept by what each command does, but for the closing event. -/
structure Handles (P : State → Prop) : Prop extends TakesKept P where
  receive : ∀ {s : State} (p : Nat) (b : List Byte) (e : Bool), P s → P (s.receive p b e)
  sent : ∀ {s : State} (p : Nat), P s → P (s.sent p)
  positionReport : ∀ {s : State} (p : Nat) (l : List ReportItem), P s → P (s.positionReport p l).1
  moveRequest : ∀ {s : State} (p : Nat) (x : Nat × Target), P s → s.Admits p .moveRequest → P (s.moveRequest p x).1
  programmeRequest : ∀ {s : State} (p : Nat) (l : List Step), P s → s.Admits p .programmeRequest →
    P (s.programmeRequest p l).1
  cancel : ∀ {s : State} (p t : Nat), P s → P (s.cancel p t).1
  amend : ∀ {s : State} (p : Nat) (x : Nat × Target), P s → P (s.amend p x).1
  extend : ∀ {s : State} (p : Nat) (x : Nat × Time), P s → P (s.extend p x).1
  revokeAnswer : ∀ {s : State} (p : Nat) (x : Nat × RevokeReply), P s → P (s.revokeAnswer p x).1
  placeRestriction : ∀ {s : State} (p : Nat) (x : RestrictionKind × Nat × Nat) (f : Frame), P s →
    P (s.placeRestriction p x f).1
  liftRestriction : ∀ {s : State} (p i : Nat) (f : Frame), P s → P (s.liftRestriction p i f).1
  liftOverflow : ∀ {s : State} (a : Nat), P s → P (s.liftOverflow a).1
  substitute : ∀ {s : State} (p : Nat) (x : RecordId × SubstValue), P s → P (s.substitute p x).1
  endSubstitution : ∀ {s : State} (p : Nat) (i : RecordId), P s → P (s.endSubstitution p i).1
  acknowledge : ∀ {s : State} (x : Nat × Condition × BitVec 8), P s → P (s.acknowledge x).1
  setPriority : ∀ {s : State} (n v : Nat), P s → P (s.setPriority n v).1
  freeze : ∀ {s : State} (p : Nat), P s → s.Admits p .freeze → P s.freeze.1
  thaw : ∀ {s : State}, P s → P s.thaw.1
  enter : ∀ {s : State} (p : Nat), P s → s.Admits p .enterMaintenance → P s.enter.1
  leave : ∀ {s : State} (p : Nat), P s → s.Admits p .leaveMaintenance → P (s.leave p).1
  loadYard : ∀ {s : State} (p : Nat) (x : YardOp), P s → s.Admits p .loadYard → P (s.loadYard x).1
  commit : ∀ {s : State} (p : Nat) (f : Frame), P s → P (s.commit p f).1
  restart : ∀ {s : State} (p : Nat), P s → P (s.restart p).1
  validationComplete : ∀ {s : State}, P s → P s.validationComplete
  checkRecord : ∀ {s : State}, P s → P s.checkRecord
  commandedReset : ∀ {s : State}, P s → P s.commandedReset
  powerOn : ∀ {s : State}, P s → P s.powerOn
  supplyBelow : ∀ {s : State}, P s → P s.supplyBelow
  assertLine : ∀ {s : State}, P s → P s.assertLine
  releaseLine : ∀ {s : State}, P s → P s.releaseLine
  restartExpiry : ∀ {s : State}, P s → P s.restartExpiry
  gatheringExpiry : ∀ {s : State}, P s → P s.gatheringExpiry
  portLoss : ∀ {s : State} (p : Nat), P s → P (s.portLossEvent p)
  takeUp : ∀ {s : State}, P s → P s.takeUp
  publication : ∀ {s : State}, P s → P s.ordinaryPublication
  heldPassEnd : ∀ {s : State}, P s → P s.heldPassEnd
  grant : ∀ {s : State}, P s → P s.grant
  predicateCheck : ∀ {s : State}, P s → P s.predicateCheck
  bypassSearch : ∀ {s : State}, P s → P s.bypassSearch
  stubSearch : ∀ {s : State}, P s → P s.stubSearch
  writeComplete : ∀ {s : State}, P s → P s.writeComplete
  deferralExpiry : ∀ {s : State} (t : Nat), P s → P (s.deferralExpiry t)
  startWindowExpiry : ∀ {s : State} (t : Nat), P s → P (s.startWindowExpiry t)
  travelExpiry : ∀ {s : State} (t : Nat), P s → P (s.travelExpiry t)
  waitingExpiry : ∀ {s : State} (t : Nat), P s → P (s.waitingExpiry t)

section
variable {P : State → Prop} (h : Handles P) {s t : State}
include h

/-- A request that is only answered. -/
theorem Handles.answeredOnly {α : Type} {p : Nat} {k : RequestKind} {decode : List Byte → Option α}
    {reply : α → State → Reply} (hs : P s) : P (s.request p k decode (fun x _ s1 => (s1, reply x s1))) :=
  h.toTakesKept.request hs fun _ _ _ hu _ => hu

theorem Handles.exec {c : Instr} (hs : P s) (hc : c ≠ .closingEvent) (ht : exec c s = .next t) : P t := by
  have request : ∀ {α : Type} {p : Nat} {k : RequestKind} {decode : List Byte → Option α}
      {handle : α → Frame → State → State × Reply}, (∀ x f u, P u → u.Admits p k → P (handle x f u).1) →
      P (s.whenRunning (fun s0 => s0.request p k decode handle)) :=
    fun hh => State.whenRunning_keeps hs (h.toTakesKept.request hs hh)
  have load : ∀ p op, P (s.whenRunning (fun s0 => s0.loadRequest p op)) := fun p op =>
    State.whenRunning_keeps hs (h.toTakesKept.loadRequest hs fun x _ hu ha => h.loadYard p x hu ha)
  cases c <;> cases ht
  case closingEvent => exact absurd rfl hc
  case frameReceived p b e => exact State.whenRunning_keeps hs (h.receive p b e hs)
  case frameSent p => exact State.whenRunning_keeps hs (h.sent p hs)
  case unknownKindFrame p =>
    exact State.whenRunning_keeps hs (h.toTakesKept.takeFrame p _ _ _ hs fun f => h.taking p f hs)
  case positionReport p => exact request fun x _ _ hu _ => h.positionReport p x hu
  case moveRequest p => exact request fun x _ _ hu ha => h.moveRequest p x hu ha
  case programmeRequest p => exact request fun x _ _ hu ha => h.programmeRequest p x hu ha
  case cancel p => exact request fun x _ _ hu _ => h.cancel p x hu
  case amend p => exact request fun x _ _ hu _ => h.amend p x hu
  case extend p => exact request fun x _ _ hu _ => h.extend p x hu
  case revokeAnswer p => exact request fun x _ _ hu _ => h.revokeAnswer p x hu
  case queryApparatus p => exact State.whenRunning_keeps hs (h.answeredOnly hs)
  case queryNode p => exact State.whenRunning_keeps hs (h.answeredOnly hs)
  case queryMovement p => exact State.whenRunning_keeps hs (h.answeredOnly hs)
  case queryProgramme p => exact State.whenRunning_keeps hs (h.answeredOnly hs)
  case queryEngine p => exact State.whenRunning_keeps hs (h.answeredOnly hs)
  case keepalive p => exact State.whenRunning_keeps hs (h.answeredOnly hs)
  case placeRestriction p => exact request fun x f _ hu _ => h.placeRestriction p x f hu
  case liftRestriction p => exact request fun x f _ hu _ => h.liftRestriction p x f hu
  case queryRestrictions p => exact State.whenRunning_keeps hs (h.answeredOnly hs)
  case liftInspectOverflow p => exact request fun x _ _ hu _ => h.liftOverflow x hu
  case substitute p => exact request fun x _ _ hu _ => h.substitute p x hu
  case endSubstitution p => exact request fun x _ _ hu _ => h.endSubstitution p x hu
  case acknowledgeBlock p => exact request fun x _ _ hu _ => h.acknowledge x hu
  case setPortPriority p => exact request fun x _ _ hu _ => h.setPriority x.1 x.2 hu
  case freeze p => exact request fun _ _ _ hu ha => h.freeze p hu ha
  case thaw p => exact request fun _ _ _ hu _ => h.thaw hu
  case enterMaintenance p => exact request fun _ _ _ hu ha => h.enter p hu ha
  case leaveMaintenance p => exact request fun _ _ _ hu ha => h.leave p hu ha
  case writeNode p => exact load p _
  case removeNode p => exact load p _
  case writeApparatus p => exact load p _
  case removeApparatus p => exact load p _
  case writePort p => exact load p _
  case writeSettings p => exact load p _
  case commitYard p => exact request fun _ f _ hu _ => h.commit p f hu
  case validationComplete => exact State.whenRunning_keeps hs (h.validationComplete hs)
  case restart p => exact request fun _ _ _ hu _ => h.restart p hu
  case commanded => exact State.whenRunning_keeps hs (h.commandedReset hs)
  case powerOn => exact h.powerOn hs
  case resetLine => exact h.assertLine hs
  case restartTimerExpiry => exact State.whenRunning_keeps hs (h.restartExpiry hs)
  case gatheringTimerExpiry => exact State.whenRunning_keeps hs (h.gatheringExpiry hs)
  case portLoss p => exact State.whenRunning_keeps hs (h.portLoss p hs)
  case passTakeUp => exact State.whenRunning_keeps hs (h.takeUp hs)
  case publication => exact State.whenRunning_keeps hs (h.publication hs)
  case endOfHeldPass => exact State.whenRunning_keeps hs (h.heldPassEnd hs)
  case grant => exact State.whenRunning_keeps hs (h.grant hs)
  case predicateCheck => exact State.whenRunning_keeps hs (h.predicateCheck hs)
  case bypassSearchStep => exact State.whenRunning_keeps hs (h.bypassSearch hs)
  case stubSearchStep => exact State.whenRunning_keeps hs (h.stubSearch hs)
  case restrictionWriteComplete => exact State.whenRunning_keeps hs (h.writeComplete hs)
  case deferralClockExpiry t => exact State.whenRunning_keeps hs (h.deferralExpiry t hs)
  case startWindowExpiry t => exact State.whenRunning_keeps hs (h.startWindowExpiry t hs)
  case travelDeadlineExpiry t => exact State.whenRunning_keeps hs (h.travelExpiry t hs)
  case waitingRemainingExpiry t => exact State.whenRunning_keeps hs (h.waitingExpiry t hs)
  case resetLineReleased => exact h.releaseLine hs
  case supplyBelowWorkingLevel => exact h.supplyBelow hs
  case validationRecordCheck => exact State.whenRunning_keeps hs (h.checkRecord hs)

/-- What every command keeps, with the closing event and the passing of time every step keeps. -/
theorem Handles.step (hpending : ∀ {u : State} (l : List Instr), P u → P { u with pending := l })
    (hclosing : ∀ {u : State}, P u → P u.closing) (htick : ∀ {u : State}, P u → P u.tick) (hs : P s)
    (ht : step s = .next t) : P t := by
  have runs : ∀ {c : Instr} {u : State}, P u → Machine.exec c u = .next t → P t := by
    intro c u hu hc
    by_cases hce : c = .closingEvent
    · subst hce
      cases hc
      exact State.whenRunning_keeps hu (hclosing hu)
    · exact h.exec hu hce hc
  unfold Machine.step at ht
  split at ht
  · exact runs (hpending _ hs) ht
  · unfold idle at ht
    split at ht
    · cases ht
      exact htick hs
    · split at ht
      · exact runs hs ht
      · cases ht
        exact htick hs

end

end Sys2Proof.Machine
end

section
/-! A rule of the whole machine, update by update: what every update that a handler is made of keeps, the handlers keep. -/

namespace Sys2Proof.Machine

/-! ### The updates -/

/-- The tables, the ports, the mode and the descriptions, and the numbers of the apparatus records. -/
def State.tables (s : State) :=
  (s.entries, s.programmes, s.ended, s.held, s.ports, s.mode, s.force, s.store, s.apps.map AppLive.number)

theorem State.tables_eq {s t : State} : t.tables = s.tables ↔
    t.entries = s.entries ∧ t.programmes = s.programmes ∧ t.ended = s.ended ∧ t.held = s.held ∧ t.ports = s.ports ∧
      t.mode = s.mode ∧ t.force = s.force ∧ t.store = s.store ∧
      t.apps.map AppLive.number = s.apps.map AppLive.number := by
  simp only [State.tables, Prod.mk.injEq]

theorem State.tables_modApp (s : State) (a : Nat) (f : AppLive → AppLive) (hf : ∀ r, (f r).number = r.number) :
    (s.modApp a f).tables = s.tables := by
  refine State.tables_eq.mpr ⟨rfl, rfl, rfl, rfl, rfl, rfl, rfl, rfl, ?_⟩
  simp only [State.modApp, List.map_map]
  refine List.map_congr_left fun r _ => ?_
  simp only [Function.comp_apply]
  split
  · exact hf r
  · rfl

/-- `x` is the entry `e` after a change that does not release it, and makes it travel no longer than R104 and R106 allow. -/
structure Entry.Tame (described : List AppDesc) (e x : Entry) : Prop where
  ticket : x.ticket = e.ticket
  released : x.state = .released → e.state = .released
  travelling : x.state = .travelling → ∀ d, x.deadline = some d →
    (e.state = .travelling ∧ e.deadline = some d) ∨ d ≤ Config.maxTravelRemaining ∨ ∃ a ∈ described, d = a.travelLimit

theorem Entry.Tame.same {l : List AppDesc} {e x : Entry} (ht : x.ticket = e.ticket) (hs : x.state = e.state)
    (hd : x.deadline = e.deadline) : e.Tame l x :=
  ⟨ht, fun h => hs ▸ h, fun h _ hd' => .inl ⟨hs ▸ h, hd ▸ hd'⟩⟩

theorem Entry.Tame.other {l : List AppDesc} {e x : Entry} (ht : x.ticket = e.ticket) (hr : x.state ≠ .released)
    (htr : x.state ≠ .travelling) : e.Tame l x :=
  ⟨ht, fun h => absurd h hr, fun h => absurd h htr⟩

/-- `P` is kept by every update of the tables that the machine makes, but for the release of an entry. -/
structure Upheld (P : State → Prop) : Prop where
  other : ∀ {s t : State}, P s → t.tables = s.tables → P t
  port : ∀ {s : State} (p : Nat) {f : Port → Port}, P s → ((s.port p).good → (f (s.port p)).good) → P (s.modPort p f)
  edit : ∀ {s : State} (t : Nat) {f : Entry → Entry}, P s → (∀ e : Entry, e.Tame s.force.apparatus (f e)) → P (s.modEntry t f)
  entryOut : ∀ {s : State} (t : Nat), P s → P { s with entries := s.entries.filter (fun x => x.ticket ≠ t) }
  entryIn : ∀ {s : State} (e : Entry), P s → s.entries.length < Config.maxEntries → e.state = .queued →
    s.mode.working = true ∨ s.programmes ≠ [] → P { s with entries := insertBy Entry.ticket e s.entries }
  programmeOut : ∀ {s : State} (t : Nat), P s → P { s with programmes := s.programmes.filter (fun q => q.ticket ≠ t) }
  programmeEdit : ∀ {s : State} (t : Nat) (f : Programme → Programme), P s → P (s.modProgramme t f)
  programmeIn : ∀ {s : State} (g : Programme), P s → s.programmes.length < Config.maxProgrammes → s.mode = .service →
    P { s with programmes := s.programmes ++ [g] }
  ended : ∀ {s : State} (l : List Ended), P s → l.length ≤ Config.maxEnded → P { s with ended := l }
  heldEdit : ∀ {s : State} (i : RecordId) (f : HeldCopy → HeldCopy), P s → P (s.modHeld i f)
  heldOut : ∀ {s : State}, P s → P { s with held := s.held.drop 1 }
  heldIn : ∀ {s : State} (i : RecordId) (c : HeldCopy), P s → s.heldFull = false → s.heldFor i = none →
    P { s with held := s.held ++ [{ target := i, copy := c }] }
  heldClear : ∀ {s : State}, P s → P { s with held := [] }
  mode : ∀ {s : State} (m : Mode), P s → m ≠ .restarting → (s.mode = .restarting → s.force = s.store) →
    (m = .gathering ∨ m = .maintenance → s.mode = .restarting ∨ s.mode = .maintenance ∨ (s.entries = [] ∧ s.programmes = [])) →
    P { s with mode := m }
  store : ∀ {s : State} (y : Yard), P s → s.mode = .maintenance → y.ports.length = s.store.ports.length →
    (∀ d ∈ y.ports, d ∈ s.store.ports ∨ d.defaultPriority ≤ 15) →
    (∀ d ∈ y.apparatus, d ∈ s.store.apparatus ∨ d.travelLimit ≤ 30000) → P { s with store := y }
  force : ∀ {s : State} (l : List PortDesc), P s → s.mode = .restarting →
    l = s.store.ports ∨ l = unverifiedRecords s.store.ports →
    P { s with force := s.store, ports := takeRoles s.ports l }
  leave : ∀ {s : State} (p : Nat) (l : List AppLive), P s → s.mode = .maintenance →
    l.map AppLive.number = s.store.apparatus.map AppDesc.number →
    P { s with force := s.store, ports := leavePorts p 0 s.ports s.store.ports, apps := l }
  reset : ∀ {s : State} (c : ResetCause), P s → P (s.resetTo c)

/-! ### Notices, answers and queues -/

theorem noticeCount_append (l m : List Outgoing) : noticeCount (l ++ m) = noticeCount l + noticeCount m := by
  simp [noticeCount]

theorem noticeCount_placed (l : List Outgoing) (n : Nat) (k : Byte) (t : BitVec 16) (c : AnswerCode) (x : List Byte) :
    noticeCount (l.take n ++ .answer k t c x :: l.drop n) = noticeCount l := by
  conv_rhs => rw [← List.take_append_drop n l]
  rw [noticeCount_append, noticeCount_append]
  rfl

theorem length_appendEnded (l : List Ended) (x : Ended) : (appendEnded l x).length ≤ Config.maxEnded := by
  unfold appendEnded
  rw [List.length_drop]
  omega

theorem State.programmes_ne_nil {s : State} {t : Nat} {g : Programme} (hg : s.programme t = some g) : s.programmes ≠ [] :=
  fun hn => by simp [State.programme, hn] at hg

section
variable {P : State → Prop} (h : Upheld P) {s : State}
include h

theorem Upheld.notify (hs : P s) (p : Nat) (n : Notice) : P (s.notify p n) := by
  rcases s.notify_eq p n with he | ⟨_, hn, he⟩ <;> rw [he]
  · exact hs
  · refine h.port p hs fun ⟨hi, _, hrest⟩ => ⟨hi, ?_, hrest⟩
    rw [noticeCount_append]
    exact hn

theorem Upheld.broadcast (hs : P s) (n : Notice) : P (s.broadcast n) := by
  unfold State.broadcast
  induction List.range Config.nPorts generalizing s with
  | nil => exact hs
  | cons p l ih =>
    rw [List.foldl_cons]
    split
    · exact ih (h.notify hs p n)
    · exact ih hs

theorem Upheld.changeMode (hs : P s) {m : Mode} (hm : m ≠ .restarting) (hf : s.mode = .restarting → s.force = s.store)
    (hi : m = .gathering ∨ m = .maintenance →
      s.mode = .restarting ∨ s.mode = .maintenance ∨ (s.entries = [] ∧ s.programmes = [])) : P (s.changeMode m) :=
  h.broadcast (h.mode m hs hm hf hi) _

theorem Upheld.sendRevoke (hs : P s) (e : Entry) : P (s.sendRevoke e) := by
  unfold State.sendRevoke
  split
  · exact h.notify hs _ _
  · exact hs

theorem Upheld.placeAnswer (hs : P s) (p n : Nat) (k : Byte) (t : BitVec 16) (c : AnswerCode) (l : List Byte) :
    P (s.placeAnswer p n (.answer k t c l)) :=
  h.port p hs fun ⟨hi, hn, hrest⟩ => ⟨hi, (noticeCount_placed _ n k t c l).trans_le hn, hrest⟩

theorem Upheld.answerRequester (hs : P s) (r : Option Requester) (c : AnswerCode) (l : List Byte) :
    P (s.answerRequester r c l) := by
  unfold State.answerRequester
  split
  · exact h.placeAnswer hs _ _ _ _ _ _
  · exact hs

/-- An update of a port that leaves what the law of the ports speaks of. -/
theorem Upheld.portSame (hs : P s) (p : Nat) {f : Port → Port} (hf : ∀ q : Port, q.good → (f q).good) : P (s.modPort p f) :=
  h.port p hs (hf _)

theorem Upheld.taking (hs : P s) (p : Nat) (f : Frame) : P (s.taking p f) := h.portSame hs p fun _ hq => hq

theorem Upheld.queueTail (hs : P s) (p t : Nat) : P (s.queueTail p t) := h.portSame hs p fun _ hq => hq
theorem Upheld.queueHead (hs : P s) (p t : Nat) : P (s.queueHead p t) := h.portSame hs p fun _ hq => hq
theorem Upheld.queueLeave (hs : P s) (p t : Nat) : P (s.queueLeave p t) := h.portSame hs p fun _ hq => hq

theorem Upheld.modApp (hs : P s) (a : Nat) (f : AppLive → AppLive) (hf : ∀ r, (f r).number = r.number) : P (s.modApp a f) :=
  h.other hs (s.tables_modApp a f hf)

/-! ### The tasks -/

theorem Upheld.changeTable (hs : P s) (c : TableChange) (q : Option Requester) : P (s.changeTable c q) := h.other hs rfl

theorem Upheld.placeInspect (hs : P s) (a : Nat) : P (s.placeInspect a).1 := by
  unfold State.placeInspect
  split
  · exact h.other hs rfl
  · split_ifs
    · exact hs
    · split
      · exact h.other hs rfl
      · exact hs
    · exact h.modApp hs a _ fun _ => rfl

theorem Upheld.judge (hs : P s) (a : Nat) (x y : Pos) : P (s.judge a x y).1 := by
  have hu := h.broadcast hs (.unbidden a x y)
  have ht := h.modApp hs a (fun r => { r with lastOutcome := some .tripped }) fun _ => rfl
  cases hd : s.appDesc a with
  | none => simpa only [State.judge, hd] using hs
  | some d =>
    by_cases hb : isUnbidden d.kind x y
    · simpa only [State.judge, hd, hb, if_true] using hu
    · by_cases htr : isTrip d.kind x y
      · simpa only [State.judge, hd, hb, htr, Bool.false_eq_true, if_true, if_false] using ht
      · simpa only [State.judge, hd, hb, htr, Bool.false_eq_true, if_false] using hs

theorem Upheld.dropCarry (hs : P s) (e : Entry) : P (s.dropCarry e).1 := by
  unfold State.dropCarry
  split
  · exact hs
  · split
    · exact hs
    · split
      · exact h.programmeEdit _ _ hs
      · exact hs

theorem Upheld.takeOut (hs : P s) (e : Entry) (o : MoveOutcome) : P (s.takeOut e o) := by
  have hqueue := h.modApp (h.queueLeave hs e.owner e.ticket) e.apparatus
    (fun r => { r with ticket := none, lastOutcome := some (.movement o) }) fun _ => rfl
  have hout := h.ended (appendEnded s.ended ⟨e.ticket, e.owner, e.apparatus, o, e.operatingTime⟩) (h.entryOut e.ticket hqueue)
    (length_appendEnded _ _)
  exact h.other hout rfl

theorem Upheld.retire (hs : P s) (t : Nat) (o : MoveOutcome) : P (s.retire t o).1 := by
  unfold State.retire
  split
  · exact hs
  · dsimp only
    split
    · exact h.notify (h.takeOut hs _ _) _ _
    · exact h.notify (h.takeOut (h.dropCarry hs _) _ _) _ _

theorem Upheld.enqueue (hs : P s) (t : Nat) : P (s.enqueue t).1 := by
  unfold State.enqueue
  split
  · exact hs
  · split_ifs
    · exact hs
    · exact h.edit t hs fun _ => .other rfl (by simp) (by simp)
    · exact h.edit t hs fun _ => .other rfl (by simp) (by simp)

theorem Upheld.makeEntry (hs : P s) (owner a : Nat) (target : Target) (prog : Option (Nat × Nat)) (coupled : Bool)
    (hroom : s.tableFull = false) (hm : s.mode.working = true ∨ s.programmes ≠ []) :
    P (s.makeEntry owner a target prog coupled) := by
  have hlen : s.entries.length < Config.maxEntries := by simpa [State.tableFull] using hroom
  have hin : ∀ (u : State) (e : Entry), P u → e.state = .queued → u.entries = s.entries → u.mode = s.mode →
      u.programmes = s.programmes → P { u with entries := insertBy Entry.ticket e u.entries } :=
    fun u e hu hq he hmode hprog => h.entryIn e hu (he ▸ hlen) hq (by rwa [hmode, hprog])
  unfold State.makeEntry
  generalize s.freeTicket = t
  have hticket := h.modApp (h.other hs rfl : P (s.ticketIssued t)) a (fun r => { r with ticket := some t }) fun _ => rfl
  dsimp only
  split
  · exact hin _ (newEntry t owner a target prog coupled (s.footprintOf a)) (h.other hticket rfl) rfl rfl rfl rfl
  · exact hin _ (newEntry t owner a target prog coupled (s.footprintOf a)) (h.queueTail hticket owner t) rfl
      (by simp) (by simp) (by simp)

theorem Upheld.endProgramme (hs : P s) (g : Programme) (r : Option StopReason) : P (s.endProgramme g r).1 :=
  h.notify (h.other (h.programmeOut g.ticket hs) (by rfl)) _ _

theorem Upheld.makeStep (hs : P s) (g : Programme) (st : Step) (hroom : s.tableFull = false)
    (hm : s.mode.working = true ∨ s.programmes ≠ []) : P (s.makeStep g st).1 := by
  have hstep := h.programmeEdit g.ticket (fun q =>
    { q with movement := some s.freeTicket, waiting := none, state := if q.state = .stopping then .stopping else .running })
    (h.makeEntry hs g.owner st.apparatus st.target (some (g.ticket, g.current)) st.coupled hroom hm)
  unfold State.makeStep
  dsimp only
  split_ifs <;> exact h.other hstep rfl

theorem Upheld.enterWaiting (hs : P s) (g : Programme) : P (s.enterWaiting g).1 := by
  unfold State.enterWaiting
  split_ifs
  · exact hs
  · exact h.endProgramme hs _ _
  · exact h.other (h.programmeEdit g.ticket _ hs) rfl

theorem Upheld.startStep (hs : P s) (t : Nat) : P (s.startStep t).1 := by
  unfold State.startStep
  split
  · exact hs
  next g hg =>
    split
    · exact hs
    · split_ifs with hsub hwait
      · exact h.endProgramme hs _ _
      · exact h.enterWaiting hs _
      · simp only [Bool.or_eq_true, not_or, Bool.not_eq_true] at hwait
        exact h.makeStep hs _ _ hwait.2 (.inr (State.programmes_ne_nil hg))

theorem Upheld.startCoupled (hs : P s) (t : Nat) : P (s.startCoupled t).1 := by
  unfold State.startCoupled
  split
  · exact hs
  next g hg =>
    split
    · exact hs
    · split_ifs with hsub heng hfull
      · exact h.endProgramme hs _ _
      · exact h.endProgramme hs _ _
      · exact h.endProgramme hs _ _
      · exact h.makeStep hs _ _ (Bool.eq_false_iff.mpr hfull) (.inr (State.programmes_ne_nil hg))

theorem Upheld.inform (hs : P s) (pt t : Nat) (o : MoveOutcome) (r : Reservation) : P (s.inform pt t o r).1 := by
  unfold State.inform
  split
  · exact hs
  · split_ifs
    · exact hs
    · exact h.programmeEdit _ _ hs
    · exact h.endProgramme hs _ _
    · split
      · exact h.endProgramme hs _ _
      · exact h.programmeEdit _ _ hs
    · exact h.endProgramme hs _ _

theorem Upheld.testFrozen (hs : P s) : P s.testFrozen := by
  unfold State.testFrozen
  split
  next hm =>
    refine h.changeMode hs (by simp) (fun hr => ?_) (by simp)
    rw [hm.1] at hr
    cases hr
  · exact hs

theorem Upheld.runTask (hs : P s) (t : Task) : P (s.runTask t).1 := by
  cases t with
  | retire t o => exact h.retire hs t o
  | judge a x y => exact h.judge hs a x y
  | inspect a => exact h.placeInspect hs a
  | blockEnd t =>
    simp only [State.runTask, State.blockEnd]
    split
    · split
      · exact h.sendRevoke hs _
      · exact hs
    · exact hs
  | inform p t o r => exact h.inform hs p t o r
  | stop p r =>
    simp only [State.runTask, State.stopProgramme]
    split
    · exact h.endProgramme hs _ _
    · exact hs
  | start p => exact h.startStep hs p
  | startCoupled p => exact h.startCoupled hs p
  | enqueue t => exact h.enqueue hs t
  | reoffer => exact h.other hs rfl
  | requeue t =>
    simp only [State.runTask, State.requeue]
    split
    · split
      · exact h.enqueue hs t
      · exact hs
    · exact hs
  | retry p =>
    simp only [State.runTask, State.retry]
    split
    · split <;> exact hs
    · exact hs
  | testFrozen => exact h.testFrozen hs

theorem Upheld.run (hs : P s) (ts : List Task) : P (s.run ts) := s.run_keeps P (fun _ t hu => h.runTask hu t) ts hs

/-! ### The evaluator -/

theorem Upheld.defer (hs : P s) (e : Entry) (c : DeferralCause) (r : Bool) : P (s.defer e c r) := by
  unfold State.defer
  split
  · exact h.run hs _
  · have hd := h.edit (f := fun x => { x with
        cause := some c
        deadline := some (x.deadline.getD s.force.settings.deferralLimit)
        state := if s.mode.isFreeze && s.heldBack e then .suspended else .deferred }) e.ticket hs
      fun _ => .other rfl (by dsimp only; split <;> simp) (by dsimp only; split <;> simp)
    dsimp only
    split
    · exact h.run hd _
    · exact hd

theorem Upheld.endDeferred (hs : P s) (e : Entry) (v : Evaluation) (c : DeferralCause) : P (s.endDeferred e v c) := by
  unfold State.endDeferred
  split_ifs
  · exact h.run hs _
  · exact h.run hs _
  · exact h.defer hs _ _ _

theorem Upheld.endVoided (hs : P s) (e : Entry) (v : Evaluation) : P (s.endVoided e v) := by
  have hv := h.edit (f := fun x => { x with voidCount := min 3 (e.voidCount + 1) }) e.ticket hs fun _ => .same rfl rfl rfl
  unfold State.endVoided
  dsimp only
  split
  · exact h.run hv _
  · split
    · exact h.run hv _
    · split
      · split
        · exact h.run hv _
        · exact h.run (h.queueHead hv _ _) _
      · exact h.defer hv _ _ _

theorem Upheld.endRefused (hs : P s) (e : Entry) (r : Reason) : P (s.endRefused e r) := by
  unfold State.endRefused
  split <;> exact h.run hs _

/-- An evaluation that ends without a permit. -/
theorem Upheld.endEvaluation (hs : P s) {x : Verdict} (hx : ∀ r, x ≠ .permit r) : P (s.endEvaluation x) := by
  have hfree : P { s with evaluation := none } := h.other hs rfl
  unfold State.endEvaluation
  split
  · exact hs
  · dsimp only
    split
    · exact hfree
    · split
      · exact h.run hfree _
      · cases x with
        | permit r => exact absurd rfl (hx r)
        | defer c => exact h.endDeferred hfree _ _ _
        | refuse r => exact h.endRefused hfree _ _
        | void => exact h.endVoided hfree _ _

theorem Upheld.evaluatorSees (hs : P s) (i : RecordId) : P (s.evaluatorSees i) := by
  unfold State.evaluatorSees
  split
  · exact hs
  · split
    · exact hs
    · split
      · exact h.endEvaluation hs (x := .void) fun _ => Verdict.noConfusion
      · exact hs

theorem Upheld.takeResult (hs : P s) (v : Evaluation) (r : StepResult) : P (s.takeResult v r) := by
  cases r with
  | stage st => exact h.other hs rfl
  | refuse e => exact h.endEvaluation hs (x := .refuse e) fun _ => Verdict.noConfusion

theorem Upheld.predicateCheck (hs : P s) : P s.predicateCheck := by
  unfold State.predicateCheck
  split
  · split
    · exact h.takeResult hs _ _
    · exact hs
  · exact hs

theorem Upheld.bypassSearch (hs : P s) : P s.bypassSearch := by
  unfold State.bypassSearch
  split
  · split
    · exact h.takeResult hs _ _
    · exact hs
  · exact hs

theorem Upheld.stubSearch (hs : P s) : P s.stubSearch := by
  unfold State.stubSearch
  split
  · split
    · exact h.takeResult hs _ _
    · exact hs
  · exact hs

theorem Upheld.grant (hs : P s) : P s.grant := by
  unfold State.grant
  split
  · exact hs
  · split
    · exact hs
    · split
      · exact hs
      · exact h.other (h.edit (f := fun x => { x with state := .evaluating }) _ hs
          fun _ => .other rfl (by simp) (by simp)) rfl

end

end Sys2Proof.Machine
end

section
/-! A rule of the whole machine, update by update: the handlers of the topology unit, the supervisor, the image and the requests. -/

namespace Sys2Proof.Machine

theorem foldl_keeps {α : Type} {P : State → Prop} {f : State → α → State} {s : State} (l : List α)
    (hf : ∀ {u : State} (x : α), P u → P (f u x)) (hs : P s) : P (l.foldl f s) := by
  induction l generalizing s with
  | nil => exact hs
  | cons x l ih => exact ih (hf x hs)

theorem State.appDesc_mem {s : State} {a : Nat} {d : AppDesc} (hd : s.appDesc a = some d) : d ∈ s.force.apparatus :=
  List.mem_of_find?_eq_some hd

theorem Port.good_endRequest {q : Port} (hq : q.good) : q.endRequest.good := by
  unfold Port.endRequest
  split
  · exact hq
  · obtain ⟨hi, hrest⟩ := hq
    refine ⟨?_, hrest⟩
    dsimp only
    split
    · rw [List.length_drop]
      omega
    · exact hi

theorem noticeCount_tail {x : Outgoing} {l m : List Outgoing} (hl : l = x :: m) : noticeCount m ≤ noticeCount l := by
  rw [hl, show x :: m = [x] ++ m from rfl, noticeCount_append]
  omega

/-- The states that a change of inputs may lead to have `P`. -/
def Taken.Keeps (P : State → Prop) : Taken → Prop
  | .applied s => P s
  | .heldFull => True

/-- A table of checks finds no failure when its first check passes and the rest of the table finds none. -/
theorem ite_some_eq_none {α : Type} {c : Prop} [Decidable c] {a : α} {x : Option α} :
    (if c then some a else x) = none ↔ ¬ c ∧ x = none := by
  split <;> simp [*]

/-- R96: what a MOVE REQUEST that passes every check has found. -/
theorem State.moveCheck_none {s : State} {p a : Nat} {t : Target} (h : s.moveCheck p a t = none) :
    (s.appDesc a).isSome = true ∧ s.engaged a = false ∧ s.queueFull p = false ∧ s.tableFull = false := by
  simp only [State.moveCheck, ite_some_eq_none] at h
  obtain ⟨_, _, _, hdesc, _, hfree, hqueue, htable, _⟩ := h
  exact ⟨by simpa [Option.isSome_iff_ne_none] using hdesc, by simpa using hfree, by simpa using hqueue, by simpa using htable⟩

/-- R122: what a PROGRAMME REQUEST that passes every check has found. -/
theorem State.programmeCheck_none {s : State} {p : Nat} {l : List Step} (h : s.programmeCheck p l = none) :
    (∀ st ∈ l, (s.appDesc st.apparatus).isSome = true) ∧ s.programmes.length < Config.maxProgrammes := by
  simp only [State.programmeCheck, ite_some_eq_none] at h
  obtain ⟨_, _, _, hdesc, hroom, _⟩ := h
  refine ⟨fun st hst => ?_, Nat.lt_of_not_le hroom⟩
  by_contra hn
  exact hdesc (List.any_eq_true.mpr ⟨st, hst, by simpa using hn⟩)

/-! ### What the image and the topology unit leave -/

/-- The entries, the programmes, the queues, the tickets of the records and of the evaluation, the counter and the description. -/
def State.view (s : State) :=
  (s.entries, s.programmes, s.ports.map Port.queue, s.apps.map (fun r => (r.number, r.ticket)),
    s.evaluation.map Evaluation.ticket, s.ticketCounter, s.force)

theorem State.view_eq {s t : State} : t.view = s.view ↔ t.entries = s.entries ∧ t.programmes = s.programmes ∧
    t.ports.map Port.queue = s.ports.map Port.queue ∧
    t.apps.map (fun r => (r.number, r.ticket)) = s.apps.map (fun r => (r.number, r.ticket)) ∧
    t.evaluation.map Evaluation.ticket = s.evaluation.map Evaluation.ticket ∧ t.ticketCounter = s.ticketCounter ∧
    t.force = s.force := by
  simp only [State.view, Prod.mk.injEq]

theorem State.view_modApp (s : State) (a : Nat) (f : AppLive → AppLive) (hn : ∀ r, (f r).number = r.number)
    (ht : ∀ r, (f r).ticket = r.ticket) : (s.modApp a f).view = s.view := by
  refine State.view_eq.mpr ⟨rfl, rfl, rfl, ?_, rfl, rfl, rfl⟩
  simp only [State.modApp, List.map_map]
  refine List.map_congr_left fun r _ => ?_
  simp only [Function.comp_apply]
  split
  · rw [hn, ht]
  · rfl

theorem State.view_setMarker (s : State) (i : RecordId) : (s.setMarker i).view = s.view := by
  cases i with
  | apparatus a => exact s.view_modApp a (fun r => { r with marker := true }) (fun _ => rfl) fun _ => rfl
  | node n => rfl

theorem State.view_topologySees (s : State) (wake : Bool) (i : RecordId) : (s.topologySees wake i).view = s.view := by
  unfold State.topologySees
  split
  · split <;> rfl
  · split
    · split <;> rfl
    · rfl

theorem State.view_startIfMarked (s : State) : s.startIfMarked.view = s.view := by
  unfold State.startIfMarked
  split <;> rfl

theorem State.tables_setMarker (s : State) (i : RecordId) : (s.setMarker i).tables = s.tables := by
  cases i with
  | apparatus a => exact s.tables_modApp a (fun r => { r with marker := true }) fun _ => rfl
  | node n => rfl

theorem State.tables_topologySees (s : State) (wake : Bool) (i : RecordId) : (s.topologySees wake i).tables = s.tables := by
  unfold State.topologySees
  split
  · split <;> rfl
  · split
    · split <;> rfl
    · rfl

theorem State.tables_startIfMarked (s : State) : s.startIfMarked.tables = s.tables := by
  unfold State.startIfMarked
  split <;> rfl

section
variable {P : State → Prop} (h : Upheld P) {s : State}
include h

/-! ### The topology unit -/

theorem Upheld.endGathering (hs : P s) (hm : s.mode = .gathering) : P s.endGathering := by
  have hf : P { s with gatheringTimer := none, freezeCarried := false } := h.other hs rfl
  refine h.changeMode hf ?_ (fun hr => ?_) ?_
  · split <;> simp
  · have hg : s.mode = .restarting := hr
    rw [hm] at hg
    cases hg
  · split <;> simp

theorem Upheld.handOn (hs : P s) (known : Bool) (l : List Nat) : P (s.handOn known l) := by
  unfold State.handOn
  dsimp only
  split
  next hm => exact h.endGathering (h.run hs _) hm.1
  · exact h.run hs _

theorem Upheld.publish (hs : P s) (w : Pass) : P (s.publish w) := by
  refine h.other hs (State.tables_eq.mpr ⟨rfl, rfl, rfl, rfl, rfl, rfl, rfl, rfl, ?_⟩)
  simp only [State.publish, List.map_map]
  refine List.map_congr_left fun r _ => ?_
  simp only [Function.comp_apply]
  split <;> rfl

theorem Upheld.publishAndHandOn (hs : P s) (w : Pass) : P (s.publishAndHandOn w) := h.handOn (h.publish hs w) _ _

theorem Upheld.startIfMarked (hs : P s) : P s.startIfMarked := h.other hs s.tables_startIfMarked

theorem Upheld.ordinaryPublication (hs : P s) : P s.ordinaryPublication := by
  unfold State.ordinaryPublication
  split
  · split
    · exact h.startIfMarked (h.publishAndHandOn hs _)
    · exact hs
  · exact hs

theorem Upheld.takeUp (hs : P s) : P s.takeUp := by
  unfold State.takeUp
  split
  · exact hs
  · split
    · exact hs
    · exact h.other hs rfl

theorem Upheld.startPass (hs : P s) (b : Bool) : P (s.startPass b) := h.other hs rfl

theorem Upheld.topologySees (hs : P s) (wake : Bool) (i : RecordId) : P (s.topologySees wake i) :=
  h.other hs (s.tables_topologySees wake i)

/-! ### The movement supervisor -/

theorem Upheld.travel (hs : P s) (e : Entry) : P (s.travel e) := by
  unfold State.travel
  split
  · exact hs
  next d hd =>
    refine h.edit _ hs fun x => ⟨rfl, fun hr => (nomatch hr), fun _ n hn => .inr (.inr ⟨d, State.appDesc_mem hd, ?_⟩)⟩
    exact (Option.some.inj hn).symm

theorem Upheld.settle (hs : P s) (e : Entry) : P (s.settle e) :=
  h.modApp (h.edit (f := fun x => { x with
    state := .settling, flavour := none, deadline := none, operatingTime := some (operatingTime s.now e) }) _ hs
    fun _ => .other rfl (by simp) (by simp)) _ _ fun _ => rfl

theorem Upheld.supervise (hs : P s) (e : Entry) (src : Source) (after : Pos) : P (s.supervise e src after) := by
  have hf : P (s.faulted e) := h.run hs _
  unfold State.supervise
  split
  · split_ifs
    · exact h.travel hs e
    · exact h.settle hs e
    · exact hf
    · exact hf
    · exact hs
  · split_ifs
    · exact h.travel hs e
    · exact h.settle hs e
    · exact hf
    · exact hf
    · exact hs
  · split_ifs
    · exact h.settle hs e
    · exact h.run hs _
    · exact hf
    · exact hf
    · exact hs
  · exact hs

theorem Upheld.setMarker (hs : P s) (i : RecordId) : P (s.setMarker i) := h.other hs (s.tables_setMarker i)

theorem Upheld.noticed (hs : P s) (wake : Bool) (i : RecordId) :
    P (((s.setMarker i).topologySees wake i).evaluatorSees i) :=
  h.evaluatorSees (h.topologySees (h.setMarker hs i) wake i) i

theorem Upheld.appChanged (hs : P s) (wake : Bool) (src : Source) (a : Nat) (x y : Pos) :
    P (s.appChanged wake src a x y) := by
  have hn := h.noticed hs wake (.apparatus a)
  have hsup : P (match s.entryOf a with
      | some e => (((s.setMarker (.apparatus a)).topologySees wake (.apparatus a)).evaluatorSees (.apparatus a)).supervise e src y
      | none => ((s.setMarker (.apparatus a)).topologySees wake (.apparatus a)).evaluatorSees (.apparatus a)) := by
    split
    · exact h.supervise hn _ _ _
    · exact hn
  unfold State.appChanged
  dsimp only
  split
  · exact h.run hsup _
  · exact hsup

theorem Upheld.freezeReturn (hs : P s) (e : Entry) : P (s.freezeReturn e) := by
  have hr : P (s.modEntry e.ticket Entry.returned) :=
    h.edit _ hs fun _ => .other rfl (by simp [Entry.returned]) (by simp [Entry.returned])
  unfold State.freezeReturn
  dsimp only
  split
  · exact h.run hr _
  · split
    · exact h.run hr _
    · exact h.run (h.queueHead hr _ _) _

theorem Upheld.loseOwner (hs : P s) (p : Nat) : P (s.loseOwner p) := by
  refine h.run (foldl_keeps _ (fun e hu => ?_) hs) _
  unfold State.loseEntry
  split
  · exact h.run (h.sendRevoke hu e) _
  · exact h.run hu _

end

/-! ### The yard image -/

/-- `P` is kept by what the yard image is made of: updates that leave the tables, the held change queue, and what an image
change, a blocking event or a publication brings about. -/
structure Sees (P : State → Prop) : Prop where
  other : ∀ {s t : State}, P s → t.tables = s.tables → t.view = s.view → P t
  heldEdit : ∀ {s : State} (i : RecordId) (f : HeldCopy → HeldCopy), P s → P (s.modHeld i f)
  heldOut : ∀ {s : State}, P s → P { s with held := s.held.drop 1 }
  heldIn : ∀ {s : State} (i : RecordId) (c : HeldCopy), P s → s.heldFull = false → s.heldFor i = none →
    P { s with held := s.held ++ [{ target := i, copy := c }] }
  evaluatorSees : ∀ {s : State} (i : RecordId), P s → P (s.evaluatorSees i)
  appChanged : ∀ {s : State} (wake : Bool) (src : Source) (a : Nat) (x y : Pos), P s → P (s.appChanged wake src a x y)
  blockingEvent : ∀ {s : State} (a : Nat), P s → P (s.blockingEvent a)
  publishAndHandOn : ∀ {s : State} (w : Pass), P s → P (s.publishAndHandOn w)

theorem Upheld.sees {P : State → Prop} (h : Upheld P) : Sees P where
  other hs ht _ := h.other hs ht
  heldEdit i f hs := h.heldEdit i f hs
  heldOut hs := h.heldOut hs
  heldIn i c hs hl hn := h.heldIn i c hs hl hn
  evaluatorSees i hs := h.evaluatorSees hs i
  appChanged wake src a x y hs := h.appChanged hs wake src a x y
  blockingEvent _ hs := h.run hs _
  publishAndHandOn w hs := h.publishAndHandOn hs w

section
variable {P : State → Prop} (h : Sees P) {s : State}
include h

theorem Sees.modApp (hs : P s) (a : Nat) (f : AppLive → AppLive) (hf : ∀ r, (f r).number = r.number)
    (ht : ∀ r, (f r).ticket = r.ticket) : P (s.modApp a f) := h.other hs (s.tables_modApp a f hf) (s.view_modApp a f hf ht)

theorem Sees.modNode (hs : P s) (n : Nat) (f : NodeLive → NodeLive) : P (s.modNode n f) := h.other hs rfl rfl

theorem Sees.setMarker (hs : P s) (i : RecordId) : P (s.setMarker i) :=
  h.other hs (s.tables_setMarker i) (s.view_setMarker i)

theorem Sees.noticed (hs : P s) (wake : Bool) (i : RecordId) :
    P (((s.setMarker i).topologySees wake i).evaluatorSees i) :=
  h.evaluatorSees i (h.other (h.setMarker hs i) (State.tables_topologySees _ wake i) (State.view_topologySees _ wake i))

theorem Sees.startIfMarked (hs : P s) : P s.startIfMarked := h.other hs s.tables_startIfMarked s.view_startIfMarked

theorem Sees.setAppInputs (hs : P s) (wake : Bool) (src : Source) (d : AppDesc) (x : Pos) (sub : Option Target) :
    P (s.setAppInputs wake src d x sub) := by
  unfold State.setAppInputs
  split
  · exact hs
  · have hw := h.modApp hs d.number (fun y => { y with
      reported := x, substituted := sub, effective := effectivePosition sub (s.reporterActive d) x }) (fun _ => rfl) fun _ => rfl
    dsimp only
    split
    · exact hw
    · exact h.appChanged _ _ _ _ _ hw

theorem Sees.setNodeInputs (hs : P s) (wake : Bool) (n : Nat) (c : Cls) (sub : Option Cand) :
    P (s.setNodeInputs wake n c sub) := by
  unfold State.setNodeInputs
  split
  · exact hs
  · have hw := h.modNode hs n (fun y => { y with cls := c, substituted := sub, effective := effectiveClass sub c })
    dsimp only
    split
    · exact hw
    · exact h.noticed hw _ _

theorem Sees.setSubst (hs : P s) (i : RecordId) (x : Option (SubstValue × Nat)) : P (s.setSubst i x) := by
  unfold State.setSubst
  split
  · exact h.other hs rfl rfl
  · split <;> exact h.other hs rfl rfl

theorem Sees.setAppSubst (hs : P s) (a : Nat) (x : Option (Option Target × Nat)) : P (s.setAppSubst a x) := by
  unfold State.setAppSubst
  split
  · exact h.setSubst hs _ _
  · exact hs

theorem Sees.makeHeld (hs : P s) (i : RecordId) (c : HeldCopy) (hroom : ¬ s.heldFull = true) (hnew : s.heldFor i = none) :
    P (s.makeHeld i c) :=
  h.evaluatorSees i (h.setMarker (h.heldIn i c hs (Bool.eq_false_iff.mpr hroom) hnew) i)

theorem Sees.changeApp (hs : P s) (src : Source) (d : AppDesc) (x : Option Pos) (sub : Option (Option Target × Nat)) :
    (s.changeApp src d x sub).Keeps P := by
  unfold State.changeApp
  dsimp only
  split
  · exact hs
  · split
    · split
      · exact h.heldEdit _ _ hs
      next hnone =>
        split_ifs with he hfull
        · exact h.setAppInputs (h.setAppSubst hs _ _) _ _ _ _ _
        · trivial
        · exact h.makeHeld hs _ _ hfull hnone
    · exact h.setAppInputs (h.setAppSubst hs _ _) _ _ _ _ _

theorem Sees.changeNodeSubst (hs : P s) (n : Nat) (sub : Option Cand) (port : Nat) :
    (s.changeNodeSubst n sub port).Keeps P := by
  unfold State.changeNodeSubst
  dsimp only
  split
  · exact hs
  · split
    · split
      · exact h.heldEdit _ _ hs
      next hnone =>
        split_ifs with he hfull
        · exact h.setNodeInputs (h.setSubst hs _ _) _ _ _ _
        · trivial
        · exact h.makeHeld hs _ _ hfull hnone
    · exact h.setNodeInputs (h.setSubst hs _ _) _ _ _ _

theorem Sees.changeSubst (hs : P s) (i : RecordId) (v : Option SubstValue) (p : Nat) : (s.changeSubst i v p).Keeps P := by
  unfold State.changeSubst
  split
  · split
    · exact h.changeApp hs _ _ _ _
    · exact hs
  · exact h.changeNodeSubst hs _ _ _

theorem Sees.applyBlocking (hs : P s) (d : AppDesc) (x : Flags4) : P (s.applyBlocking d x) := by
  unfold State.applyBlocking
  split
  · exact hs
  · have hw := h.modApp hs d.number (fun y => y.withBlocking d.latchedModes x) (fun _ => rfl) fun _ => rfl
    dsimp only
    split
    · exact h.blockingEvent _ hw
    · exact hw

theorem Sees.applyAppItem (hs : P s) (p a : Nat) (x : Pos) (f : Flags4) : P (s.applyAppItem p a x f).1 := by
  unfold State.applyAppItem
  split
  · exact hs
  next d hd =>
    split
    · exact hs
    · have hc := h.changeApp hs .report d (some x) none
      split
      · exact hs
      next hr =>
        rw [hr] at hc
        exact h.applyBlocking hc d f

theorem Sees.applyPresence (hs : P s) (p n v : Nat) : P (s.applyPresence p n v).1 := by
  unfold State.applyPresence
  split
  · split
    · exact hs
    · dsimp only
      have hm : ∀ f, P (s.modNode n f) := fun f => h.modNode hs n f
      split
      · split
        · dsimp only
          exact h.heldEdit (.node n) _ (hm _)
        next hnone =>
          split
          · exact h.setNodeInputs (hm _) _ _ _ _
          · split
            · exact hs
            next hfull => exact h.makeHeld (hm _) _ _ hfull hnone
      · exact h.setNodeInputs (hm _) _ _ _ _
  · exact hs

theorem Sees.applyItems (hs : P s) (p : Nat) (l : List ReportItem) (i : Nat) (r : ReportResult) :
    P (s.applyItems p l i r).1 := by
  induction l generalizing s i r with
  | nil => exact hs
  | cons x l ih =>
    have hx : P (s.applyItem p x).1 := by
      cases x with
      | apparatus a y f => exact h.applyAppItem hs p a y f
      | presence n v => exact h.applyPresence hs p n v
    unfold State.applyItems
    dsimp only
    split
    · exact ih hx _ _
    · exact ih hx _ _

theorem Sees.loseImage (hs : P s) (p : Nat) : P (s.loseImage p) := by
  refine foldl_keeps _ (fun d hu => ?_) (foldl_keeps _ (fun d hu => ?_) hs)
  · have hm := h.modNode (h.heldEdit (.node d.number) HeldCopy.lost hu) d.number
      (fun x => { x with counter := 0, lastCandidate := none })
    unfold State.loseNode
    dsimp only
    split
    · exact h.setNodeInputs hm _ _ _ _
    · exact hm
  · have hm := h.heldEdit (.apparatus d.number) HeldCopy.lost hu
    unfold State.loseApp
    dsimp only
    split
    · exact h.setAppInputs hm _ _ _ _ _
    · exact hm

theorem Sees.applyHeld (hs : P s) (x : HeldEntry) : P (s.applyHeld x) := by
  have ho := h.heldOut hs
  unfold State.applyHeld
  dsimp only
  split
  · split
    · exact h.setAppInputs (h.setAppSubst ho _ _) _ _ _ _ _
    · exact ho
  · exact h.setNodeInputs (h.setSubst ho _ _) _ _ _ _
  · exact ho

theorem Sees.heldPassEnd (hs : P s) : P s.heldPassEnd := by
  unfold State.heldPassEnd
  split
  · split
    · exact h.startIfMarked (foldl_keeps _ (fun x hu => h.applyHeld hu x) (h.publishAndHandOn _ hs))
    · exact hs
  · exact hs

end

section
variable {P : State → Prop} (h : Upheld P) {s : State}
include h

/-! ### The link ports -/

theorem Upheld.receive (hs : P s) (p : Nat) (b : List Byte) (e : Bool) : P (s.receive p b e) := by
  unfold State.receive
  split
  · exact hs
  next hr =>
    split
    · exact hs
    · refine h.port p hs fun ⟨hi, hn, hp, _, _⟩ => ?_
      unfold Port.hear Port.join
      split
      next hlen => exact ⟨by simpa using Nat.succ_le_of_lt hlen, hn, hp, by simp, fun hu => absurd hu hr⟩
      · exact ⟨hi, hn, hp, by simp, fun hu => absurd hu hr⟩

theorem Upheld.sent (hs : P s) (p : Nat) : P (s.sent p) := by
  unfold State.sent
  split
  · exact hs
  next ht => exact h.port p hs fun ⟨hi, hn, hrest⟩ => ⟨hi, (noticeCount_tail ht).trans hn, hrest⟩
  next ht =>
    exact h.port p (h.other hs (by rfl)) fun ⟨hi, hn, hrest⟩ =>
      Port.good_endRequest ⟨hi, (noticeCount_tail ht).trans hn, hrest⟩

theorem Upheld.losePort (hs : P s) (p : Nat) (ha : (s.port p).state = .active) : P (s.losePort p) := by
  have hl : P (s.modPort p Port.lost) := h.port p hs fun ⟨_, _, hp, _, hu⟩ =>
    ⟨by simp [Port.lost], by simp [Port.lost, noticeCount], hp, by simp [Port.lost],
      fun hr => by simp [hu hr] at ha⟩
  exact h.other hl rfl

theorem Upheld.portLost (hs : P s) (p : Nat) (ha : (s.port p).state = .active) : P (s.portLost p) := by
  have hl := h.loseOwner (h.losePort hs p ha) p
  unfold State.portLost
  dsimp only
  split
  · exact h.sees.loseImage hl p
  · exact hl

theorem Upheld.setPriority (hs : P s) (n v : Nat) : P (s.setPriority n v).1 := by
  have hp : P (s.modPort n (fun q => { q with priority := min v 15 })) :=
    h.port n hs fun ⟨hi, hn, _, hrest⟩ => ⟨hi, hn, Nat.min_le_right v 15, hrest⟩
  unfold State.setPriority
  split
  · exact hs
  · split
    · exact hs
    · dsimp only
      split
      · exact h.run hp _
      · exact hp

/-! ### The requests that name a ticket -/

theorem Upheld.cancelEntry (hs : P s) (e : Entry) : P (s.cancelEntry e) := by
  unfold State.cancelEntry
  split
  · exact h.run hs _
  · exact h.run hs _
  · exact h.run hs _
  · exact h.edit _ hs fun _ => .same rfl rfl rfl
  · exact h.edit _ (h.sendRevoke hs e) fun _ => .other rfl (by simp) (by simp)
  · exact h.edit _ hs fun _ => .same rfl rfl rfl
  · exact hs
  · exact hs

theorem Upheld.cancelProgramme (hs : P s) (g : Programme) : P (s.cancelProgramme g) := by
  unfold State.cancelProgramme
  split
  · exact h.run hs _
  · exact hs
  · have hp := h.programmeEdit g.ticket (fun q => { q with state := .stopping }) hs
    dsimp only
    split
    · exact hp
    · split
      · exact h.cancelEntry hp _
      · exact hp

theorem Upheld.cancel (hs : P s) (p t : Nat) : P (s.cancel p t).1 := by
  unfold State.cancel
  split
  · exact hs
  · split
    · exact h.cancelProgramme hs _
    · exact hs
  · exact hs
  · split
    · split
      · exact hs
      · exact h.cancelEntry hs _
    · exact hs

theorem Upheld.amendEntry (hs : P s) (e : Entry) (t : Target) : P (s.amendEntry e t).1 := by
  have ha : P (s.modEntry e.ticket (fun x => x.amended t)) := h.edit _ hs fun x =>
    ⟨rfl, fun hr => hr, fun _ d hd => by cases hd⟩
  unfold State.amendEntry
  split
  · exact h.run ha _
  · exact h.run ha _
  · exact ha
  · have hfree : P { s.modEntry e.ticket (fun x => x.amended t) with evaluation := none } := h.other ha rfl
    dsimp only
    exact h.run (h.queueHead hfree _ _) _
  all_goals exact hs

theorem Upheld.amend (hs : P s) (p : Nat) (x : Nat × Target) : P (s.amend p x).1 := by
  unfold State.amend
  split
  · exact hs
  · exact hs
  · exact hs
  · split_ifs
    · exact hs
    · exact hs
    · exact hs
    · exact hs
    · exact h.amendEntry hs _ _

theorem Upheld.extendEntry (hs : P s) (e : Entry) (n : Time) : P (s.extendEntry e n).1 := by
  unfold State.extendEntry
  split_ifs
  · exact hs
  next he =>
    refine h.edit _ hs fun x => ⟨rfl, fun hr => hr, fun _ d hd => .inr (.inl ?_)⟩
    rw [← Option.some.inj hd]
    exact Nat.min_le_left _ _
  · exact hs

theorem Upheld.extend (hs : P s) (p : Nat) (x : Nat × Time) : P (s.extend p x).1 := by
  unfold State.extend
  split
  · exact hs
  · exact hs
  · exact hs
  · split
    · exact h.extendEntry hs _ _
    · exact hs

theorem Upheld.revokeAnswer (hs : P s) (p : Nat) (x : Nat × RevokeReply) : P (s.revokeAnswer p x).1 := by
  unfold State.revokeAnswer
  split
  · exact hs
  · exact hs
  · exact hs
  · split
    · unfold State.revokeEntry
      split
      · split
        · exact h.travel hs _
        · split
          · exact h.freezeReturn hs _
          · exact h.run hs _
      · exact hs
    · exact hs

/-! ### Movements and programmes requested -/

theorem Upheld.moveRequest (hs : P s) (p : Nat) (x : Nat × Target) (ha : s.Admits p .moveRequest) :
    P (s.moveRequest p x).1 := by
  unfold State.moveRequest
  split
  · exact hs
  next hc => exact h.makeEntry hs _ _ _ _ _ (State.moveCheck_none hc).2.2.2 (.inl ha.mode)

theorem Upheld.programmeRequest (hs : P s) (p : Nat) (l : List Step) (ha : s.Admits p .programmeRequest) :
    P (s.programmeRequest p l).1 := by
  have hm : s.mode = .service := by simpa [RequestKind.takenIn] using ha.mode
  unfold State.programmeRequest
  split
  · exact hs
  next hc =>
    generalize s.freeTicket = t
    have hissued : P (s.ticketIssued t) := h.other hs rfl
    have hin := h.programmeIn (newProgramme t p l) hissued (State.programmeCheck_none hc).2 hm
    dsimp only
    exact h.run hin [.start t]

/-! ### The freeze -/

theorem Upheld.freeze (hs : P s) (p : Nat) (ha : s.Admits p .freeze) : P s.freeze.1 := by
  unfold State.freeze
  split
  · exact hs
  next hf =>
    have hw : s.mode.working = true := ha.mode
    have hm : P (s.changeMode .freezing) := by
      refine h.changeMode hs (by simp) (fun hr => ?_) (by simp)
      rw [hr] at hw
      cases hw
    refine h.testFrozen (foldl_keeps _ (fun e hu => ?_) hm)
    unfold State.freezeEntry
    split
    · split
      · exact h.edit _ hu fun _ => .other rfl (by simp) (by simp)
      · exact h.edit _ hu fun _ => .other rfl (by simp) (by simp)
      · exact h.edit _ (h.sendRevoke hu e) fun _ => .other rfl (by simp) (by simp)
      all_goals exact hu
    · exact hu

theorem Upheld.thaw (hs : P s) : P s.thaw.1 := by
  unfold State.thaw
  split
  next hf =>
    refine h.run (h.changeMode hs (by simp) (fun hr => ?_) (by simp)) _
    rw [hr] at hf
    cases hf
  · exact hs

/-! ### The modes -/

theorem Upheld.enterMaintenance (hs : P s) (hm : s.mode ≠ .restarting) (he : s.entries = [] ∧ s.programmes = []) :
    P s.enterMaintenance := by
  unfold State.enterMaintenance
  refine h.changeMode (h.other (h.heldClear hs) (by rfl)) (by simp) (fun hr => absurd hr hm) fun _ => .inr (.inr he)

theorem Upheld.enter (hs : P s) (p : Nat) (ha : s.Admits p .enterMaintenance) : P s.enter.1 := by
  have hm : s.mode ≠ .restarting := fun hr => by
    have ht := ha.mode
    rw [hr] at ht
    cases ht
  unfold State.enter
  split
  next he =>
    have hempty : s.entries = [] ∧ s.programmes = [] := by simpa using he
    dsimp only
    exact h.enterMaintenance hs hm hempty
  · exact hs

theorem Upheld.beginGathering (hs : P s) (hm : s.mode = .maintenance ∨ (s.mode = .restarting ∧ s.force = s.store)) :
    P s.beginGathering := by
  have hg : P { s with gatheringTimer := some s.force.settings.gatheringLimit } := h.other hs rfl
  refine h.startPass (h.changeMode hg (m := .gathering) (by simp) (fun hr => ?_) fun _ => ?_) _
  · rcases hm with hm | ⟨_, hf⟩
    · exact absurd (hm.symm.trans hr) (by simp)
    · exact hf
  · rcases hm with hm | ⟨hm, _⟩
    · exact .inr (.inl hm)
    · exact .inl hm

end

end Sys2Proof.Machine
end

section
/-! A rule of the whole machine, update by update: the remaining handlers, and the laws kept in this way. -/

namespace Sys2Proof.Machine

@[simp] theorem AppLive.clearWritten_number (l : List Nat) (r : AppLive) : (r.clearWritten l).number = r.number := by
  unfold AppLive.clearWritten
  split <;> rfl

theorem State.app_number {s : State} {a : Nat} {r : AppLive} (hr : s.app a = some r) : r.number = a := by
  simpa using List.find?_some hr

/-- R27, R28: the records made for a description bear its numbers. -/
theorem State.appsOf_numbers (s : State) (y : Yard) (keep : Bool) :
    (s.appsOf y keep).map AppLive.number = y.apparatus.map AppDesc.number := by
  simp only [State.appsOf, List.map_map]
  refine List.map_congr_left fun d _ => ?_
  simp only [Function.comp_apply]
  split
  next r hr =>
    split
    · exact State.app_number (r := r) hr
    · rfl
  · rfl

/-- What LEAVE MAINTENANCE drops of the ports whose role changes leaves the tables (R163). -/
theorem State.dropChanged_tables (s : State) : s.dropChanged.tables = s.tables :=
  foldl_keeps (P := fun u => u.tables = s.tables) _ (fun _ hu => hu) rfl

theorem mem_putBy_subset {α : Type} (key : α → Nat) {x y : α} {l : List α} (hy : y ∈ putBy key x l) : y = x ∨ y ∈ l := by
  induction l with
  | nil => exact .inl (List.mem_singleton.mp hy)
  | cons z l ih =>
    unfold putBy at hy
    split at hy
    · exact List.mem_cons.mp hy
    · split at hy
      · exact (List.mem_cons.mp hy).imp_right (List.mem_cons_of_mem z)
      · rcases List.mem_cons.mp hy with rfl | hy
        · exact .inr List.mem_cons_self
        · exact (ih hy).imp_right (List.mem_cons_of_mem z)

section
variable {P : State → Prop} (h : Upheld P) {s : State}
include h

/-! ### MAINTENANCE -/

theorem Upheld.leaveMaintenance (hs : P s) (p : Nat) (hm : s.mode = .maintenance) : P (s.leaveMaintenance p) := by
  obtain ⟨hentries, hprog, hended, -, -, hmode, -, hstore, -⟩ := State.tables_eq.mp s.dropChanged_tables
  have hl := h.leave p ((s.appsOf s.store true).map (AppLive.clearWritten s.written)) hs hm (by
    rw [List.map_map, ← s.appsOf_numbers s.store true]
    exact List.map_congr_left fun r _ => AppLive.clearWritten_number _ r)
  exact h.beginGathering (h.other (h.heldClear hl) (State.tables_eq.mpr
    ⟨hentries, hprog, hended, rfl, rfl, hmode, rfl, hstore, rfl⟩)) (.inl (hmode.trans hm))

theorem Upheld.leaves (hs : P s) (p : Nat) (ha : s.Admits p .leaveMaintenance) : P (s.leave p).1 := by
  have hm : s.mode = .maintenance := by simpa [RequestKind.takenIn] using ha.mode
  unfold State.leave
  split
  · exact hs
  · dsimp only
    exact h.leaveMaintenance hs p hm

/-- R182: a write of the stored description, after which the mark is unverified. -/
theorem Upheld.load (hs : P s) (y : Yard) (hm : s.mode = .maintenance) (hlen : y.ports.length = s.store.ports.length)
    (hp : ∀ d ∈ y.ports, d ∈ s.store.ports ∨ d.defaultPriority ≤ 15)
    (ha : ∀ d ∈ y.apparatus, d ∈ s.store.apparatus ∨ d.travelLimit ≤ 30000) :
    P (State.unverify { s with store := y }) :=
  h.other (h.store y hs hm hlen hp ha) rfl

theorem Upheld.addWritten (hs : P s) (a : Nat) : P (s.addWritten a) := by
  unfold State.addWritten
  split
  · exact hs
  · exact h.other hs rfl

theorem Upheld.loadYard (hs : P s) (p : Nat) (x : YardOp) (ha : s.Admits p .loadYard) : P (s.loadYard x).1 := by
  have hm : s.mode = .maintenance := by simpa [RequestKind.takenIn] using ha.mode
  cases x with
  | writeNode n k m q =>
    simp only [State.loadYard, State.writeNode]
    split
    · exact h.load hs _ hm rfl (fun _ hd => .inl hd) fun _ hd => .inl hd
    · exact hs
  | removeNode n =>
    simp only [State.loadYard, State.removeNode]
    split
    · exact hs
    · split
      · exact h.load hs _ hm rfl (fun _ hd => .inl hd) fun _ hd => .inl hd
      · exact hs
  | writeApparatus d =>
    simp only [State.loadYard, State.writeApparatus]
    split
    · refine h.addWritten (h.load hs { s.store with apparatus := putBy AppDesc.number (AppDesc.clamped d) s.store.apparatus } hm rfl
        (fun _ hd => .inl hd) fun x hx => ?_) _
      rcases mem_putBy_subset _ hx with rfl | hx
      · refine .inr ?_
        show max 100 (min 30000 d.travelLimit) ≤ 30000
        exact max_le (by decide) (min_le_left _ _)
      · exact .inl hx
    · exact hs
  | removeApparatus n =>
    simp only [State.loadYard, State.removeApparatus]
    split
    · exact hs
    · split
      · exact h.addWritten (h.load hs { s.store with apparatus := s.store.apparatus.filter (fun d => d.number ≠ n) } hm rfl
          (fun _ hd => .inl hd) fun x hx => .inl (List.mem_of_mem_filter hx)) _
      · exact hs
  | writePort q d =>
    simp only [State.loadYard, State.writePort]
    split
    · refine h.load hs { s.store with ports := s.store.ports.set q (PortDesc.clamped d) } hm (List.length_set ..) (fun x hx => ?_) fun _ hd => .inl hd
      rcases List.mem_or_eq_of_mem_set hx with hx | rfl
      · exact .inl hx
      · refine .inr ?_
        simp only [PortDesc.clamped, clamp]
        omega
    · exact hs
  | writeSettings x =>
    exact h.load hs _ hm rfl (fun _ hd => .inl hd) fun _ hd => .inl hd

theorem Upheld.validationComplete (hs : P s) : P s.validationComplete := by
  unfold State.validationComplete
  split
  · exact hs
  · split
    · exact h.answerRequester (h.other hs (by rfl)) _ _ _
    · exact hs

theorem Upheld.checkRecord (hs : P s) : P s.checkRecord := by
  unfold State.checkRecord
  split
  · exact hs
  · split
    · exact hs
    · split
      · exact hs
      · exact h.other hs rfl

theorem Upheld.commit (hs : P s) (p : Nat) (f : Frame) : P (s.commit p f).1 := by
  unfold State.commit
  split
  · exact hs
  · exact h.other hs rfl

theorem Upheld.restart (hs : P s) (p : Nat) : P (s.restart p).1 := h.portSame hs p fun _ hq => hq

/-! ### Resets and the end of RESTARTING -/

theorem Upheld.assertLine (hs : P s) : P s.assertLine := by
  unfold State.assertLine
  split
  · exact hs
  · split
    · exact h.reset _ (h.other hs (by rfl))
    · exact h.other hs rfl

theorem Upheld.releaseLine (hs : P s) : P s.releaseLine := by
  unfold State.releaseLine
  split
  · exact h.other hs rfl
  · exact hs

theorem Upheld.commandedReset (hs : P s) : P s.commandedReset := by
  unfold State.commandedReset
  split
  · exact h.reset _ hs
  · exact hs

theorem Upheld.restartExpiry (hs : P s) : P s.restartExpiry := by
  unfold State.restartExpiry
  split
  next hm =>
    split
    · have hf := h.force s.store.ports hs hm.1 (.inl rfl)
      refine h.beginGathering (h.other hf (State.tables_eq.mpr ⟨rfl, rfl, rfl, rfl, rfl, rfl, rfl, rfl, ?_⟩)) (.inr ⟨hm.1, rfl⟩)
      rw [List.map_map]
      exact List.map_congr_left fun r _ => AppLive.clearWritten_number _ r
    · have hf := h.force (unverifiedRecords s.store.ports) hs hm.1 (.inr rfl)
      exact h.changeMode (h.other hf (by rfl)) (by simp) (fun _ => rfl) fun _ => .inl hm.1
  · exact hs

theorem Upheld.gatheringExpiry (hs : P s) : P s.gatheringExpiry := by
  unfold State.gatheringExpiry
  split
  next hm => exact h.endGathering hs hm.1
  · exact hs

theorem Upheld.portLossEvent (hs : P s) (p : Nat) : P (s.portLossEvent p) := by
  unfold State.portLossEvent
  split
  next hd =>
    have hl : P (s.portLost p) := h.portLost hs p hd.1
    split
    · exact h.reset _ hl
    · exact hl
  · exact hs

/-! ### Restrictions -/

theorem Upheld.placeRestriction (hs : P s) (p : Nat) (x : RestrictionKind × Nat × Nat) (f : Frame) :
    P (s.placeRestriction p x f).1 := by
  unfold State.placeRestriction
  split
  · exact hs
  · split
    · exact hs
    · exact h.run (h.changeTable hs _ _) _

theorem Upheld.liftRestriction (hs : P s) (p i : Nat) (f : Frame) : P (s.liftRestriction p i f).1 := by
  unfold State.liftRestriction
  split
  · exact hs
  · split
    · exact h.run (h.changeTable hs _ _) _
    · exact hs

theorem Upheld.liftOverflow (hs : P s) (a : Nat) : P (s.liftOverflow a).1 := by
  unfold State.liftOverflow
  split
  · exact hs
  · split
    · exact h.run (h.modApp hs a (fun r => { r with overflow := false }) fun _ => rfl) _
    · exact hs

theorem Upheld.writeComplete (hs : P s) : P s.writeComplete := by
  unfold State.writeComplete
  split
  · exact hs
  · exact h.answerRequester (h.other hs (by rfl)) _ _ _

/-! ### Substitutions and acknowledgements -/

omit h in
theorem Sees.substitute (h : Sees P) (hs : P s) (p : Nat) (x : RecordId × SubstValue) : P (s.substitute p x).1 := by
  have hc := h.changeSubst hs x.1 (some x.2) p
  unfold State.substitute
  split
  · exact hs
  · split
    next hr =>
      rw [hr] at hc
      exact hc
    · exact hs

omit h in
theorem Sees.endSubstitution (h : Sees P) (hs : P s) (p : Nat) (i : RecordId) : P (s.endSubstitution p i).1 := by
  have hc := h.changeSubst hs i none p
  unfold State.endSubstitution
  split
  · exact hs
  · split
    · exact hs
    · split
      next hr =>
        rw [hr] at hc
        exact hc
      · exact hs

theorem Upheld.acknowledge (hs : P s) (x : Nat × Condition × BitVec 8) : P (s.acknowledge x).1 := by
  unfold State.acknowledge
  split
  · split
    · exact hs
    · split
      · exact hs
      · split
        · exact hs
        · exact h.run (h.modApp hs x.1 (fun y => y.acknowledged x.2.1) fun _ => rfl) _
  · exact hs

/-! ### Expiries -/

theorem Upheld.deferralExpiry (hs : P s) (t : Nat) : P (s.deferralExpiry t) := by
  unfold State.deferralExpiry
  split
  · exact hs
  · split
    · split
      · exact h.run hs _
      · exact h.run hs _
      · exact h.other hs rfl
      all_goals exact hs
    · exact hs

theorem Upheld.startWindowExpiry (hs : P s) (t : Nat) : P (s.startWindowExpiry t) := by
  unfold State.startWindowExpiry
  split
  · exact hs
  · split
    · split
      · exact h.run (h.sendRevoke hs _) _
      · split
        · exact h.freezeReturn hs _
        · exact h.run hs _
      all_goals exact hs
    · exact hs

theorem Upheld.travelExpiry (hs : P s) (t : Nat) : P (s.travelExpiry t) := by
  unfold State.travelExpiry
  split
  · exact hs
  · split
    · exact h.run hs _
    · exact hs

theorem Upheld.waitingExpiry (hs : P s) (t : Nat) : P (s.waitingExpiry t) := by
  unfold State.waitingExpiry
  split
  · exact hs
  · split
    · exact h.run hs _
    · exact hs

/-! ### The release (R99) -/

/-- `P` is kept by the release of an entry. -/
def ReleaseKept (P : State → Prop) : Prop :=
  ∀ {s : State} (t : Nat) (reach : List Nat) (now w : Time), P s → P (s.modEntry t (fun x => x.released reach now w))

theorem Upheld.release (hr : ReleaseKept P) (hs : P s) (e : Entry) (reach : List Nat) : P (s.release e reach) := by
  unfold State.release
  split
  · exact hs
  · exact h.run (h.notify (h.queueLeave (hr _ _ _ _ (h.dropCarry hs e)) _ _) _ _) _

theorem Upheld.closing (hr : ReleaseKept P) (hs : P s) : P s.closing := by
  have hfree : P { s with evaluation := none } := h.other hs rfl
  unfold State.closing
  split
  next v e d hf =>
    split
    next reach hst =>
      generalize s.closingVerdict v e reach = x
      cases x with
      | permit r =>
        unfold State.endEvaluation
        split
        · exact hs
        · dsimp only
          split
          · exact hfree
          · split
            · exact h.run hfree _
            · unfold State.endPermitted
              split
              · split
                · exact h.run hfree _
                · exact h.edit (f := fun x => { x with state := .suspended }) _ hfree
                    fun _ => .other rfl (by simp) (by simp)
              · exact h.release hr hfree _ _
      | defer c => exact h.endEvaluation hs (x := .defer c) fun _ => Verdict.noConfusion
      | refuse r => exact h.endEvaluation hs (x := .refuse r) fun _ => Verdict.noConfusion
      | void => exact h.endEvaluation hs (x := .void) fun _ => Verdict.noConfusion
    · exact hs
  · exact hs

/-! ### Every command -/

theorem Upheld.handles : Handles P where
  taking p f hs := h.taking hs p f
  answer p n k t c l hs := h.placeAnswer hs p n k t c l
  receive p b e hs := h.receive hs p b e
  sent p hs := h.sent hs p
  positionReport p l hs := h.sees.applyItems hs p l _ _
  moveRequest p x hs ha := h.moveRequest hs p x ha
  programmeRequest p l hs ha := h.programmeRequest hs p l ha
  cancel p t hs := h.cancel hs p t
  amend p x hs := h.amend hs p x
  extend p x hs := h.extend hs p x
  revokeAnswer p x hs := h.revokeAnswer hs p x
  placeRestriction p x f hs := h.placeRestriction hs p x f
  liftRestriction p i f hs := h.liftRestriction hs p i f
  liftOverflow a hs := h.liftOverflow hs a
  substitute p x hs := h.sees.substitute hs p x
  endSubstitution p i hs := h.sees.endSubstitution hs p i
  acknowledge x hs := h.acknowledge hs x
  setPriority n v hs := h.setPriority hs n v
  freeze p hs ha := h.freeze hs p ha
  thaw hs := h.thaw hs
  enter p hs ha := h.enter hs p ha
  leave p hs ha := h.leaves hs p ha
  loadYard p x hs ha := h.loadYard hs p x ha
  commit p f hs := h.commit hs p f
  restart p hs := h.restart hs p
  validationComplete hs := h.validationComplete hs
  checkRecord hs := h.checkRecord hs
  commandedReset hs := h.commandedReset hs
  powerOn hs := h.reset _ (h.other hs (by rfl))
  supplyBelow hs := h.reset _ (h.other hs (by rfl))
  assertLine hs := h.assertLine hs
  releaseLine hs := h.releaseLine hs
  restartExpiry hs := h.restartExpiry hs
  gatheringExpiry hs := h.gatheringExpiry hs
  portLoss p hs := h.portLossEvent hs p
  takeUp hs := h.takeUp hs
  publication hs := h.ordinaryPublication hs
  heldPassEnd hs := h.sees.heldPassEnd hs
  grant hs := h.grant hs
  predicateCheck hs := h.predicateCheck hs
  bypassSearch hs := h.bypassSearch hs
  stubSearch hs := h.stubSearch hs
  writeComplete hs := h.writeComplete hs
  deferralExpiry t hs := h.deferralExpiry hs t
  startWindowExpiry t hs := h.startWindowExpiry hs t
  travelExpiry t hs := h.travelExpiry hs t
  waitingExpiry t hs := h.waitingExpiry hs t

/-- What the updates, the release and the clock keep, every step keeps. -/
theorem Upheld.step (hr : ReleaseKept P) (htick : ∀ {u : State}, P u → P u.tick) {t : State} (hs : P s)
    (ht : step s = .next t) : P t :=
  h.handles.step (fun _ hu => h.other hu rfl) (fun hu => h.closing hr hu) htick hs ht

end

end Sys2Proof.Machine
end

section
/-! The laws of the travel deadline (O55), of the idle modes (O56) and of the releases (O51). -/

namespace Sys2Proof.Machine

/-! ### The travel deadline (R104, R106, R182) -/

theorem mem_modEntry {s : State} {t : Nat} {f : Entry → Entry} {x : Entry} (hx : x ∈ (s.modEntry t f).entries) :
    ∃ e ∈ s.entries, (e.ticket = t ∧ x = f e) ∨ (e.ticket ≠ t ∧ x = e) := by
  obtain ⟨e, he, rfl⟩ := List.mem_map.mp hx
  by_cases ht : e.ticket = t
  · exact ⟨e, he, .inl ⟨ht, if_pos ht⟩⟩
  · exact ⟨e, he, .inr ⟨ht, if_neg ht⟩⟩

theorem State.travelLaw_kept : Upheld State.travelLaw where
  other hs ht := by
    obtain ⟨he, -, -, -, -, -, hforce, hstore, -⟩ := State.tables_eq.mp ht
    unfold State.travelLaw
    rw [he, hforce, hstore]
    exact hs
  port p _ hs _ := hs
  edit t f hs hf := by
    obtain ⟨he, hforce, hstore⟩ := hs
    refine ⟨fun x hx hst n hn => ?_, hforce, hstore⟩
    obtain ⟨e, hmem, ⟨_, rfl⟩ | ⟨_, rfl⟩⟩ := mem_modEntry hx
    · rcases (hf e).travelling hst n hn with ⟨htr, hd⟩ | hle | ⟨a, ha, rfl⟩
      · exact he e hmem htr n hd
      · exact hle
      · exact (hforce a ha).trans (by decide)
    · exact he x hmem hst n hn
  entryOut t hs := ⟨fun e he => hs.1 e (List.mem_of_mem_filter he), hs.2⟩
  entryIn e hs _ hq _ := by
    refine ⟨fun x hx hst => ?_, hs.2⟩
    rcases (mem_insertBy Entry.ticket e x _).mp hx with rfl | hx
    · rw [hq] at hst
      cases hst
    · exact hs.1 x hx hst
  programmeOut _ hs := hs
  programmeEdit _ _ hs := hs
  programmeIn _ hs _ _ := hs
  ended _ hs _ := hs
  heldEdit _ _ hs := hs
  heldOut hs := hs
  heldIn _ _ hs _ _ := hs
  heldClear hs := hs
  mode _ hs _ _ _ := hs
  store y hs _ _ _ ha := ⟨hs.1, hs.2.1, fun d hd => (ha d hd).elim (hs.2.2 d) id⟩
  force _ hs _ _ := ⟨hs.1, hs.2.2, hs.2.2⟩
  leave _ _ hs _ _ := ⟨hs.1, hs.2.2, hs.2.2⟩
  reset _ hs := ⟨fun e he => (nomatch he), hs.2⟩

theorem State.travelLaw_release : ReleaseKept State.travelLaw := fun t reach now w hs => by
  refine ⟨fun x hx hst => ?_, hs.2⟩
  obtain ⟨e, hmem, ⟨_, rfl⟩ | ⟨_, rfl⟩⟩ := mem_modEntry hx
  · cases hst
  · exact hs.1 x hmem hst

/-- An entry's deadline falls, or stays while it is SUSPENDED (R153). -/
theorem Entry.fall_deadline {e : Entry} {n : Time} (h : e.fall.deadline = some n) : ∃ m, e.deadline = some m ∧ n ≤ m := by
  unfold Entry.fall at h
  split at h
  · exact ⟨n, h, Nat.le_refl n⟩
  · obtain ⟨m, hm, rfl⟩ := Option.map_eq_some_iff.mp h
    exact ⟨m, hm, Nat.sub_le m 1⟩

theorem Entry.fall_state (e : Entry) : e.fall.state = e.state := by
  unfold Entry.fall
  split <;> rfl

theorem State.travelLaw_tick {s : State} (hs : s.travelLaw) : s.tick.travelLaw := by
  unfold State.tick
  split
  · exact hs
  · refine ⟨fun x hx hst n hn => ?_, hs.2⟩
    obtain ⟨e, he, rfl⟩ := List.mem_map.mp hx
    obtain ⟨m, hm, hle⟩ := Entry.fall_deadline hn
    exact hle.trans (hs.1 e he (e.fall_state ▸ hst) m hm)

/-- Settles O55: an entry travels within the travel limit of its apparatus, or within what an EXTEND leaves, and its deadline
falls with the clock. -/
theorem travelLawKept : Obligations.TravelLawKept := fun _ _ hs ht =>
  State.travelLaw_kept.step State.travelLaw_release State.travelLaw_tick hs ht

/-! ### The idle modes (R119, R135, R181) -/

/-- A mode in which movements are requested is none of the idle modes. -/
theorem not_idle_of_working {m : Mode} (h : m.working = true) : ¬ (m = .restarting ∨ m = .gathering ∨ m = .maintenance) := by
  rintro (rfl | rfl | rfl) <;> cases h

theorem State.idleLaw_of {s t : State} (hs : s.idleLaw) (hm : t.mode = s.mode) (he : s.entries = [] → t.entries = [])
    (hp : s.programmes = [] → t.programmes = []) : t.idleLaw := fun hi => by
  rw [hm] at hi
  exact (hs hi).imp he hp

theorem State.idleLaw_kept : Upheld State.idleLaw where
  other hs ht := by
    obtain ⟨hentries, hprog, -, -, -, hmode, -⟩ := State.tables_eq.mp ht
    exact State.idleLaw_of hs hmode (fun he => hentries.trans he) fun hp => hprog.trans hp
  port _ _ hs _ := hs
  edit _ _ hs _ := State.idleLaw_of hs rfl (fun he => by simp [State.modEntry, he]) id
  entryOut _ hs := State.idleLaw_of hs rfl (fun he => by simp [he]) id
  entryIn e hs _ _ hm := fun hi => by
    rcases hm with hw | hp
    · exact absurd hi (not_idle_of_working hw)
    · exact absurd (hs hi).2 hp
  programmeOut _ hs := State.idleLaw_of hs rfl id fun hp => by simp [hp]
  programmeEdit _ _ hs := State.idleLaw_of hs rfl id fun hp => by simp [State.modProgramme, hp]
  programmeIn g hs _ hm := fun hi => absurd hi (not_idle_of_working (by rw [hm]; rfl))
  ended _ hs _ := hs
  heldEdit _ _ hs := hs
  heldOut hs := hs
  heldIn _ _ hs _ _ := hs
  heldClear hs := hs
  mode m hs hr _ hi := fun hm => by
    rcases hm with hm | hm
    · exact absurd hm hr
    · rcases hi hm with h | h | h
      · exact hs (.inl h)
      · exact hs (.inr (.inr h))
      · exact h
  store _ hs _ _ _ _ := hs
  force _ hs _ _ := hs
  leave _ _ hs _ _ := hs
  reset _ _ := fun _ => ⟨rfl, rfl⟩

theorem State.idleLaw_release : ReleaseKept State.idleLaw := fun _ _ _ _ hs =>
  State.idleLaw_of hs rfl (fun he => by simp [State.modEntry, he]) id

theorem State.idleLaw_tick {s : State} (hs : s.idleLaw) : s.tick.idleLaw := by
  unfold State.tick
  split
  · exact hs
  · exact State.idleLaw_of hs rfl (fun he => by simp [he]) fun hp => by simp [hp]

/-- Settles O56: entries are made in the working modes or for a programme, programmes in SERVICE, and the idle modes are
entered with both tables empty. -/
theorem idleLawKept : Obligations.IdleLawKept := fun _ _ hs ht =>
  State.idleLaw_kept.step State.idleLaw_release State.idleLaw_tick hs ht

/-! ### The releases (R82, R83, R99, R152) -/

/-- Every RELEASED entry of `t` was RELEASED in `s`, or its ticket is one of those allowed. -/
def State.ReleasedIn (s : State) (allowed : Nat → Prop) (t : State) : Prop :=
  ∀ e ∈ t.entries, e.state = .released → allowed e.ticket ∨ ∃ x ∈ s.entries, x.ticket = e.ticket ∧ x.state = .released

theorem State.ReleasedIn.refl (s : State) (l : Nat → Prop) : s.ReleasedIn l s := fun e he hr => .inr ⟨e, he, rfl, hr⟩

theorem State.releasedIn_kept (s : State) (l : Nat → Prop) : Upheld (s.ReleasedIn l) where
  other hs ht := by
    unfold State.ReleasedIn
    rw [(State.tables_eq.mp ht).1]
    exact hs
  port _ _ hs _ := hs
  edit t f hs hf := fun x hx hr => by
    obtain ⟨e, hmem, ⟨_, rfl⟩ | ⟨_, rfl⟩⟩ := mem_modEntry hx
    · rw [(hf e).ticket]
      exact hs e hmem ((hf e).released hr)
    · exact hs x hmem hr
  entryOut _ hs := fun x hx => hs x (List.mem_of_mem_filter hx)
  entryIn e hs _ hq _ := fun x hx hr => by
    rcases (mem_insertBy Entry.ticket e x _).mp hx with rfl | hx
    · rw [hq] at hr
      cases hr
    · exact hs x hx hr
  programmeOut _ hs := hs
  programmeEdit _ _ hs := hs
  programmeIn _ hs _ _ := hs
  ended _ hs _ := hs
  heldEdit _ _ hs := hs
  heldOut hs := hs
  heldIn _ _ hs _ _ := hs
  heldClear hs := hs
  mode _ hs _ _ _ := hs
  store _ hs _ _ _ _ := hs
  force _ hs _ _ := hs
  leave _ _ hs _ _ := hs
  reset _ _ := fun x hx => nomatch hx

/-- A PERMIT releases no entry but its own. -/
theorem State.release_releasedIn {s t : State} {e : Entry} (reach : List Nat) (hs : s.ReleasedIn (· = e.ticket) t) :
    s.ReleasedIn (· = e.ticket) (t.release e reach) := by
  have h := s.releasedIn_kept (· = e.ticket)
  unfold State.release
  split
  · exact hs
  next d _ =>
    have hr : s.ReleasedIn (· = e.ticket)
        ((t.dropCarry e).1.modEntry e.ticket (fun x => x.released reach t.now d.startWindow)) := fun x hx hst => by
      obtain ⟨y, hy, ⟨ht, rfl⟩ | ⟨_, rfl⟩⟩ := mem_modEntry hx
      · exact .inl ht
      · exact h.dropCarry hs e x hy hst
    exact h.run (h.notify (h.queueLeave hr _ _) _ _) _

/-- R82: the verdict of the closing event permits when its four tests pass. -/
theorem State.closingVerdict_passed {s : State} {v : Evaluation} {e : Entry} {reach r : List Nat}
    (h : s.closingVerdict v e reach = .permit r) : s.settledAtGrant v (e.footprint ++ reach) = true ∧
      s.conflict e reach = false ∧ s.restricted e.apparatus e.target e.footprint = false ∧ s.blocked e.apparatus = false := by
  unfold State.closingVerdict at h
  split_ifs at h with h1 h2 h3 h4
  exact ⟨by simpa using h1, by simpa using h2, by simpa using h3, by simpa using h4⟩

theorem State.inFlight_some {s : State} {v : Evaluation} {e : Entry} {d : AppDesc} (h : s.inFlight = some (v, e, d)) :
    s.evaluation = some v ∧ s.entry v.ticket = some e ∧ s.appDesc e.apparatus = some d := by
  unfold State.inFlight at h
  split at h
  · cases h
  next w hw =>
    split at h
    · cases h
    next x hx =>
      split at h
      · cases h
      next y hy =>
        cases h
        exact ⟨hw, hx, hy⟩

/-- The conditions under which the closing event releases the entry with ticket `t`. -/
def State.Releasable (s : State) (t : Nat) : Prop :=
  ∃ v x reach, s.evaluation = some v ∧ v.ticket = t ∧ s.entry v.ticket = some x ∧
    v.stage = .permitted reach ∧ x.cancelPending = false ∧
    (s.mode.isFreeze = false ∨ s.heldBack x = false) ∧
    s.settledAtGrant v (x.footprint ++ reach) = true ∧ s.conflict x reach = false ∧
    s.restricted x.apparatus x.target x.footprint = false ∧ s.blocked x.apparatus = false

theorem State.closing_releases (s : State) :
    s.ReleasedIn (fun _ => False) s.closing ∨ ∃ t, s.Releasable t ∧ s.ReleasedIn (· = t) s.closing := by
  have h := s.releasedIn_kept fun _ => False
  have hs := State.ReleasedIn.refl s fun _ => False
  have hfree : s.ReleasedIn (fun _ => False) { s with evaluation := none } := hs
  unfold State.closing
  split
  next v e d hf =>
    obtain ⟨hv, he, _⟩ := State.inFlight_some hf
    split
    next reach hst =>
      cases hverdict : s.closingVerdict v e reach with
      | permit r =>
        obtain ⟨hsettled, hconflict, hrestricted, hblocked⟩ := State.closingVerdict_passed hverdict
        simp only [State.endEvaluation, hv, he]
        by_cases hcancel : e.cancelPending = true
        · rw [if_pos hcancel]
          exact .inl (h.run hfree _)
        · rw [if_neg hcancel]
          unfold State.endPermitted
          split
          · refine .inl ?_
            split
            · exact h.run hfree _
            · exact h.edit (f := fun x => { x with state := .suspended }) _ hfree
                fun _ => .other rfl (by simp) (by simp)
          next hfreeze =>
            have hthaw : s.mode.isFreeze = false ∨ s.heldBack e = false :=
              Bool.and_eq_false_iff.mp (Bool.eq_false_iff.mpr hfreeze)
            refine .inr ⟨e.ticket, ⟨v, e, reach, hv, (State.entry_mem he).2.symm, he, hst, by simpa using hcancel, hthaw, hsettled,
              hconflict, hrestricted, hblocked⟩, ?_⟩
            exact State.release_releasedIn r fun x hx hr => .inr ⟨x, hx, rfl, hr⟩
      | defer c => exact .inl (h.endEvaluation hs (x := .defer c) fun _ => Verdict.noConfusion)
      | refuse r => exact .inl (h.endEvaluation hs (x := .refuse r) fun _ => Verdict.noConfusion)
      | void => exact .inl (h.endEvaluation hs (x := .void) fun _ => Verdict.noConfusion)
    · exact .inl hs
  · exact .inl hs

/-- Settles O51: every update but the release leaves the RELEASED entries, and the release belongs to a permitted closing
event. -/
theorem onlyClosingReleases : Obligations.OnlyClosingReleases := by
  intro c s t ht e he hr
  have hs := State.ReleasedIn.refl s fun _ => False
  by_cases hc : c = .closingEvent
  · subst hc
    cases ht
    rcases s.closing_releases with hcl | ⟨n, hp, hcl⟩
    · exact (State.whenRunning_keeps hs hcl e he hr).elim False.elim .inl
    · rcases State.whenRunning_keeps (State.ReleasedIn.refl s (· = n)) hcl e he hr with rfl | hx
      · exact .inr ⟨rfl, hp⟩
      · exact .inl hx
  · exact ((s.releasedIn_kept _).handles.exec hs hc ht e he hr).elim False.elim .inl

end Sys2Proof.Machine
end

section
/-! The laws of O57 that are kept update by update: ports, tables, held entries and live records. -/

namespace Sys2Proof.Machine

/-! ### The tables within their places (R40, R92, R95, R120) -/

theorem State.tableLaw_kept : Upheld State.tableLaw where
  other hs ht := by
    obtain ⟨he, hp, hended, hheld, -⟩ := State.tables_eq.mp ht
    unfold State.tableLaw
    rw [he, hp, hended, hheld]
    exact hs
  port _ _ hs _ := hs
  edit _ _ hs _ := ⟨(List.length_map ..).trans_le hs.1, hs.2⟩
  entryOut _ hs := ⟨(List.length_filter_le ..).trans hs.1, hs.2⟩
  entryIn e hs hroom _ _ := ⟨(length_insertBy ..).trans_le hroom, hs.2⟩
  programmeOut _ hs := ⟨hs.1, hs.2.1, (List.length_filter_le ..).trans hs.2.2.1, hs.2.2.2⟩
  programmeEdit _ _ hs := ⟨hs.1, hs.2.1, (List.length_map ..).trans_le hs.2.2.1, hs.2.2.2⟩
  programmeIn g hs hroom _ := ⟨hs.1, hs.2.1, by simpa using Nat.succ_le_of_lt hroom, hs.2.2.2⟩
  ended _ hs hl := ⟨hs.1, hl, hs.2.2⟩
  heldEdit _ _ hs := ⟨hs.1, hs.2.1, hs.2.2.1, (List.length_map ..).trans_le hs.2.2.2⟩
  heldOut hs := ⟨hs.1, hs.2.1, hs.2.2.1, by
    rw [List.length_drop]
    exact (Nat.sub_le _ _).trans hs.2.2.2⟩
  heldIn _ _ hs hroom _ := ⟨hs.1, hs.2.1, hs.2.2.1, by simpa [State.heldFull] using Nat.succ_le_of_lt (by
    simpa [State.heldFull] using hroom)⟩
  heldClear hs := ⟨hs.1, hs.2.1, hs.2.2.1, Nat.zero_le _⟩
  mode _ hs _ _ _ := hs
  store _ hs _ _ _ _ := hs
  force _ hs _ _ := hs
  leave _ _ hs _ _ := hs
  reset _ _ := ⟨Nat.zero_le _, Nat.zero_le _, Nat.zero_le _, Nat.zero_le _⟩

theorem State.tableLaw_release : ReleaseKept State.tableLaw := fun _ _ _ _ hs =>
  ⟨(List.length_map ..).trans_le hs.1, hs.2⟩

theorem State.tableLaw_tick {s : State} (hs : s.tableLaw) : s.tick.tableLaw := by
  unfold State.tick
  split
  · exact hs
  · exact ⟨(List.length_map ..).trans_le hs.1, hs.2.1, (List.length_map ..).trans_le hs.2.2.1, hs.2.2.2⟩

/-! ### The ports (R74, R163, R166, R171) -/

theorem Port.good_takeRole {q : Port} (hq : q.good) (d : PortDesc) : (q.takeRole d).good := by
  unfold Port.takeRole
  split
  · exact hq
  · exact ⟨Nat.zero_le _, Nat.zero_le _, hq.2.2.1, by simp, fun _ => rfl⟩

theorem Port.good_leave {q : Port} (hq : q.good) {d : PortDesc} (hd : d.defaultPriority ≤ 15) (asking : Bool) :
    (q.leave d asking).good := by
  obtain ⟨hi, hn, _, hrest⟩ := Port.good_takeRole hq d
  exact ⟨hi, hn, hd, hrest⟩

theorem Port.good_afterReset {d : PortDesc} (hd : d.defaultPriority ≤ 15) : (Port.afterReset d).good :=
  ⟨Nat.zero_le _, Nat.zero_le _, hd, by simp [Port.afterReset], fun _ => rfl⟩

/-- A rule of each port and each record holds of each port that takes a record. -/
theorem forall_mem_zipWith {α β γ : Type} {f : α → β → γ} {P : γ → Prop} {l : List α} {m : List β}
    (h : ∀ a ∈ l, ∀ b ∈ m, P (f a b)) : ∀ c ∈ List.zipWith f l m, P c := by
  intro c hc
  obtain ⟨i, hi, rfl⟩ := List.getElem_of_mem hc
  rw [List.getElem_zipWith]
  exact h _ (List.getElem_mem _) _ (List.getElem_mem _)

theorem leavePorts_eq (p i : Nat) (l : List Port) (m : List PortDesc) :
    (leavePorts p i l m).length = min l.length m.length ∧
      ∀ q ∈ leavePorts p i l m, ∃ r ∈ l, ∃ d ∈ m, ∃ b, q = Port.leave r d b := by
  induction l generalizing i m with
  | nil => simp [leavePorts]
  | cons r l ih =>
    cases m with
    | nil => simp [leavePorts]
    | cons d m =>
      obtain ⟨hlen, hmem⟩ := ih (i + 1) m
      refine ⟨by simp [leavePorts, hlen], fun q hq => ?_⟩
      rcases List.mem_cons.mp hq with rfl | hq
      · exact ⟨r, List.mem_cons_self, d, List.mem_cons_self, i == p, rfl⟩
      · obtain ⟨r', hr, d', hd, b, rfl⟩ := hmem q hq
        exact ⟨r', List.mem_cons_of_mem _ hr, d', List.mem_cons_of_mem _ hd, b, rfl⟩

theorem length_unverifiedRecords (l : List PortDesc) : (unverifiedRecords l).length = l.length := by
  unfold unverifiedRecords
  split
  · rfl
  · exact List.length_set ..

theorem State.port_eq_getElem {s : State} {p : Nat} (h : p < s.ports.length) : s.port p = s.ports[p] := by
  simp [State.port, h]

theorem State.portLaw_kept : Upheld State.portLaw where
  other hs ht := by
    obtain ⟨-, -, -, -, hports, -, -, hstore, -⟩ := State.tables_eq.mp ht
    unfold State.portLaw
    rw [hports, hstore]
    exact hs
  port p f hs hf := by
    obtain ⟨hlen, hstore, hprio, hgood⟩ := hs
    refine ⟨(List.length_modify ..).trans hlen, hstore, hprio, fun q hq => ?_⟩
    obtain ⟨i, hi, rfl⟩ := List.getElem_of_mem hq
    simp only [State.modPort, List.length_modify] at hi
    simp only [State.modPort, List.getElem_modify]
    split
    next hp =>
      subst hp
      rw [← State.port_eq_getElem hi] at *
      exact hf (hgood _ (State.port_eq_getElem hi ▸ List.getElem_mem hi))
    · exact hgood _ (List.getElem_mem hi)
  edit _ _ hs _ := hs
  entryOut _ hs := hs
  entryIn _ hs _ _ _ := hs
  programmeOut _ hs := hs
  programmeEdit _ _ hs := hs
  programmeIn _ hs _ _ := hs
  ended _ hs _ := hs
  heldEdit _ _ hs := hs
  heldOut hs := hs
  heldIn _ _ hs _ _ := hs
  heldClear hs := hs
  mode _ hs _ _ _ := hs
  store y hs _ hlen hp _ := ⟨hs.1, hlen.trans hs.2.1, fun d hd => (hp d hd).elim (hs.2.2.1 d) id, hs.2.2.2⟩
  force l hs _ hl := by
    obtain ⟨hlen, hstore, hprio, hgood⟩ := hs
    have hl24 : l.length = 24 := by
      rcases hl with rfl | rfl
      · exact hstore
      · exact (length_unverifiedRecords _).trans hstore
    exact ⟨by simp [takeRoles, hlen, hl24], hstore, hprio,
      forall_mem_zipWith fun q hq d _ => Port.good_takeRole (hgood q hq) d⟩
  leave {s} p l hs _ _ := by
    obtain ⟨hlen, hstore, hprio, hgood⟩ := hs
    obtain ⟨hl, hmem⟩ := leavePorts_eq p 0 s.ports s.store.ports
    refine ⟨by simp [hl, hlen, hstore], hstore, hprio, fun q hq => ?_⟩
    obtain ⟨r, hr, d, hd, b, rfl⟩ := hmem q hq
    exact Port.good_leave (hgood r hr) (hprio d hd) b
  reset _ hs := ⟨(List.length_map ..).trans hs.2.1, hs.2.1, hs.2.2.1, fun q hq => by
    obtain ⟨d, hd, rfl⟩ := List.mem_map.mp hq
    exact Port.good_afterReset (hs.2.2.1 d hd)⟩

theorem State.portLaw_release : ReleaseKept State.portLaw := fun _ _ _ _ hs => hs

theorem State.portLaw_tick {s : State} (hs : s.portLaw) : s.tick.portLaw := by
  unfold State.tick
  split
  · exact hs
  · refine ⟨(List.length_map ..).trans hs.1, hs.2.1, hs.2.2.1, fun q hq => ?_⟩
    obtain ⟨r, hr, rfl⟩ := List.mem_map.mp hq
    obtain ⟨hi, hn, hp, ha, hu⟩ := hs.2.2.2 r hr
    exact ⟨hi, hn, hp, by simpa [fall] using ha, hu⟩

/-! ### The held change queue (R40) -/

theorem State.heldLaw_kept : Upheld State.heldLaw where
  other hs ht := by
    unfold State.heldLaw
    rw [(State.tables_eq.mp ht).2.2.2.1]
    exact hs
  port _ _ hs _ := hs
  edit _ _ hs _ := hs
  entryOut _ hs := hs
  entryIn _ hs _ _ _ := hs
  programmeOut _ hs := hs
  programmeEdit _ _ hs := hs
  programmeIn _ hs _ _ := hs
  ended _ hs _ := hs
  heldEdit i f hs := by
    unfold State.heldLaw State.modHeld
    rw [List.map_map]
    refine (congrArg List.Nodup (List.map_congr_left fun x _ => ?_)).mpr hs
    simp only [Function.comp_apply]
    split <;> rfl
  heldOut hs := by
    unfold State.heldLaw
    rw [List.map_drop]
    exact hs.sublist (List.drop_sublist 1 _)
  heldIn i c hs _ hnone := by
    unfold State.heldLaw
    rw [List.map_append]
    refine List.nodup_append.mpr ⟨hs, List.nodup_singleton _, fun x hx y hy hxy => ?_⟩
    obtain ⟨e, he, rfl⟩ := List.mem_map.mp hx
    rw [List.map_singleton, List.mem_singleton] at hy
    exact State.heldFor_eq_none.mp hnone e he (hxy.trans hy)
  heldClear _ := List.nodup_nil
  mode _ hs _ _ _ := hs
  store _ hs _ _ _ _ := hs
  force _ hs _ _ := hs
  leave _ _ hs _ _ := hs
  reset _ _ := List.nodup_nil

/-! ### The live records (R3) -/

theorem State.app_isSome_iff {s : State} {a : Nat} : (s.app a).isSome = true ↔ a ∈ s.apps.map AppLive.number := by
  simp [State.app, List.find?_isSome]

theorem State.recordLaw_iff {s : State} : s.recordLaw ↔
    ∀ d ∈ (if s.mode = .restarting then s.store else s.force).apparatus, d.number ∈ s.apps.map AppLive.number := by
  simp only [State.recordLaw, State.app_isSome_iff]

theorem State.recordLaw_of {s t : State} (hs : s.recordLaw) (hm : t.mode = s.mode) (hf : t.force = s.force)
    (hstore : t.store = s.store) (ha : t.apps.map AppLive.number = s.apps.map AppLive.number) : t.recordLaw := by
  rw [State.recordLaw_iff] at hs ⊢
  rwa [hm, hf, hstore, ha]

theorem State.recordLaw_kept : Upheld State.recordLaw where
  other hs ht := by
    obtain ⟨-, -, -, -, -, hmode, hforce, hstore, happs⟩ := State.tables_eq.mp ht
    exact State.recordLaw_of hs hmode hforce hstore happs
  port _ _ hs _ := hs
  edit _ _ hs _ := hs
  entryOut _ hs := hs
  entryIn _ hs _ _ _ := hs
  programmeOut _ hs := hs
  programmeEdit _ _ hs := hs
  programmeIn _ hs _ _ := hs
  ended _ hs _ := hs
  heldEdit _ _ hs := hs
  heldOut hs := hs
  heldIn _ _ hs _ _ := hs
  heldClear hs := hs
  mode m hs hr hf _ := by
    rw [State.recordLaw_iff] at hs ⊢
    rw [if_neg hr]
    split at hs
    next hm =>
      rw [← hf hm] at hs
      exact hs
    · exact hs
  store y hs hm _ _ _ := by
    simp only [State.recordLaw_iff, hm, reduceCtorEq, if_false] at hs ⊢
    exact hs
  force l hs hm _ := by
    rw [State.recordLaw_iff] at hs ⊢
    rw [if_pos hm] at hs ⊢
    exact hs
  leave p l _ hm hl := by
    rw [State.recordLaw_iff]
    rw [if_neg (fun hr => by rw [hm] at hr; cases hr), hl]
    exact fun d hd => List.mem_map_of_mem hd
  reset {s} c _ := State.recordLaw_iff.mpr fun d hd => by
    have hd : d ∈ s.store.apparatus := hd
    show d.number ∈ (s.appsOf s.store (c != .powerOn)).map AppLive.number
    rw [s.appsOf_numbers]
    exact List.mem_map_of_mem hd

theorem State.recordLaw_tick {s : State} (hs : s.recordLaw) : s.tick.recordLaw := by
  unfold State.tick
  split <;> exact hs

/-! ### What O57 states of these -/

theorem portAndTableLawKept (s t : State) (hs : s.portLaw ∧ s.tableLaw) (ht : step s = .next t) : t.portLaw ∧ t.tableLaw :=
  ⟨State.portLaw_kept.step State.portLaw_release State.portLaw_tick hs.1 ht,
    State.tableLaw_kept.step State.tableLaw_release State.tableLaw_tick hs.2 ht⟩

theorem heldLawKept (s t : State) (hs : s.heldLaw) (ht : step s = .next t) : t.heldLaw :=
  State.heldLaw_kept.step (fun _ _ _ _ hu => hu) (fun {u} hu => by unfold State.tick; split <;> exact hu) hs ht

end Sys2Proof.Machine
end

section
/-! The laws of the movements taken together: what they read of the state, and the updates of one entry. -/

namespace Sys2Proof.Machine

/-! ### The laws, and what they read -/

/-- The six laws of O57 that speak of entries, queues, programmes and reservations, in terms of membership. -/
structure State.Core (s : State) : Prop where
  sorted : (s.entries.map Entry.ticket).Pairwise (· < ·)
  counter : 1 ≤ s.ticketCounter ∧ s.ticketCounter ≤ 65535
  short : ∀ q ∈ s.ports, q.queue.length ≤ 4
  queued : ∀ e ∈ s.entries, e.state.held = false → e.coupled = false → e.ticket ∈ (s.port e.owner).queue
  coupled : ∀ e ∈ s.entries, e.coupled = true → e.programme.isSome = true
  apart : (s.entries.map Entry.apparatus).Nodup
  recorded : ∀ e ∈ s.entries, (s.app e.apparatus).map AppLive.ticket = some (some e.ticket)
  steps : ∀ g ∈ s.programmes, ∀ x ∈ g.steps, (s.appDesc x.apparatus).isSome = true
  evaluating : ∀ t, s.evaluation.map Evaluation.ticket = some t → ∃ e ∈ s.entries, e.ticket = t ∧ e.state = .evaluating
  named : (s.programmes.map Programme.ticket).Nodup
  owners : ∀ g ∈ s.programmes, g.owner < s.ports.length
  waits : ∀ g ∈ s.programmes, (g.waiting.isSome = true → g.state = .waiting) ∧ (g.state = .waiting → g.movement = none)
  moves : ∀ e ∈ s.entries, e.state ≠ .settling → ∀ t k, e.programme = some (t, k) →
    ∃ g ∈ s.programmes, g.ticket = t ∧ g.movement = some e.ticket ∧ g.owner = e.owner
  carries : ∀ g ∈ s.programmes, g.carry.isSome = true → (g.movement = none ∧ g.state ≠ .waiting) ∨
    ∃ e ∈ s.entries, g.movement = some e.ticket ∧ e.coupled = true ∧ e.state.held = false ∧
      ∃ k, e.programme = some (g.ticket, k)
  reserved : s.reservationLaw

theorem State.distinct_of_sorted {s : State} (h : (s.entries.map Entry.ticket).Pairwise (· < ·)) : s.distinct :=
  h.imp fun hlt => Nat.ne_of_lt hlt

theorem State.Core.distinct {s : State} (h : s.Core) : s.distinct := State.distinct_of_sorted h.sorted

/-- Where tickets are distinct, an entry is named by its ticket. -/
theorem State.entry_eq_some_iff {s : State} (h : s.distinct) {t : Nat} {e : Entry} :
    s.entry t = some e ↔ e ∈ s.entries ∧ e.ticket = t :=
  ⟨State.entry_mem, fun ⟨he, ht⟩ => ht ▸ h.entry he⟩

theorem State.programme_eq_some_iff {s : State} (h : (s.programmes.map Programme.ticket).Nodup) {t : Nat} {g : Programme} :
    s.programme t = some g ↔ g ∈ s.programmes ∧ g.ticket = t :=
  ⟨State.programme_mem, fun ⟨hg, ht⟩ => ht ▸ State.programme_of_nodup h hg⟩

theorem State.core_iff {s : State} : s.Core ↔
    s.ticketLaw ∧ s.queueLaw ∧ s.apparatusLaw ∧ s.evaluationLaw ∧ s.programmeLaw ∧ s.reservationLaw := by
  constructor
  · intro h
    refine ⟨⟨h.sorted, h.counter⟩, ⟨h.short, h.queued, h.coupled⟩, ⟨h.apart, h.recorded, h.steps⟩, fun v hv => ?_,
      ⟨h.named, h.owners, h.waits, fun e he hs t k hp => ?_, h.carries⟩, h.reserved⟩
    · obtain ⟨e, he, ht, hst⟩ := h.evaluating v.ticket (by rw [hv]; rfl)
      exact ⟨e, (State.entry_eq_some_iff h.distinct).mpr ⟨he, ht⟩, hst⟩
    · obtain ⟨g, hg, ht, hrest⟩ := h.moves e he hs t k hp
      exact ⟨g, (State.programme_eq_some_iff h.named).mpr ⟨hg, ht⟩, hrest⟩
  · rintro ⟨⟨hsorted, hcounter⟩, ⟨hshort, hqueued, hcoupled⟩, ⟨hapart, hrecorded, hsteps⟩, heval,
      ⟨hnamed, howners, hwaits, hmoves, hcarries⟩, hreserved⟩
    refine ⟨hsorted, hcounter, hshort, hqueued, hcoupled, hapart, hrecorded, hsteps, fun t ht => ?_, hnamed, howners, hwaits,
      fun e he hs t k hp => ?_, hcarries, hreserved⟩
    · obtain ⟨v, hv, rfl⟩ := Option.map_eq_some_iff.mp ht
      obtain ⟨e, he, hst⟩ := heval v hv
      exact ⟨e, (State.entry_mem he).1, (State.entry_mem he).2, hst⟩
    · obtain ⟨g, hg, hrest⟩ := hmoves e he hs t k hp
      exact ⟨g, (State.programme_mem hg).1, (State.programme_mem hg).2, hrest⟩

theorem State.port_queue (s : State) (p : Nat) : (s.port p).queue = (s.ports.map Port.queue).getD p [] := by
  unfold State.port
  rw [List.getD_eq_getElem?_getD, List.getD_eq_getElem?_getD, List.getElem?_map]
  cases s.ports[p]? <;> rfl

theorem State.app_ticket (s : State) (a : Nat) : (s.app a).map AppLive.ticket =
    ((s.apps.map (fun r => (r.number, r.ticket))).find? (fun r => r.1 == a)).map Prod.snd := by
  unfold State.app
  induction s.apps with
  | nil => rfl
  | cons r l ih =>
    simp only [List.map_cons, List.find?_cons]
    split
    · rfl
    · exact ih

theorem State.port_queue_congr {s t : State} (h : t.ports.map Port.queue = s.ports.map Port.queue) (p : Nat) :
    (t.port p).queue = (s.port p).queue := by rw [State.port_queue, State.port_queue, h]

theorem State.app_ticket_congr {s t : State}
    (h : t.apps.map (fun r => (r.number, r.ticket)) = s.apps.map (fun r => (r.number, r.ticket))) (a : Nat) :
    (t.app a).map AppLive.ticket = (s.app a).map AppLive.ticket := by rw [State.app_ticket, State.app_ticket, h]

theorem State.short_congr {s t : State} (h : t.ports.map Port.queue = s.ports.map Port.queue)
    (hs : ∀ q ∈ s.ports, q.queue.length ≤ 4) : ∀ q ∈ t.ports, q.queue.length ≤ 4 := fun q hq => by
  have hm : q.queue ∈ s.ports.map Port.queue := h ▸ List.mem_map_of_mem hq
  obtain ⟨r, hr, hrq⟩ := List.mem_map.mp hm
  exact hrq ▸ hs r hr

/-- The laws read only the view. -/
theorem State.Core.of_view {s t : State} (h : s.Core) (hv : t.view = s.view) : t.Core := by
  obtain ⟨hentries, hprog, hports, happs, heval, hcounter, hforce⟩ := State.view_eq.mp hv
  have hlen : t.ports.length = s.ports.length := by simpa using congrArg List.length hports
  have hdesc : ∀ a, t.appDesc a = s.appDesc a := fun a => by rw [State.appDesc, State.appDesc, hforce]
  refine ⟨hentries ▸ h.sorted, hcounter ▸ h.counter, State.short_congr hports h.short, ?_, hentries ▸ h.coupled,
    hentries ▸ h.apart, ?_, ?_, ?_, hprog ▸ h.named, ?_, hprog ▸ h.waits, ?_, ?_, ?_⟩
  · simp only [hentries, State.port_queue_congr hports]
    exact h.queued
  · simp only [hentries, State.app_ticket_congr happs]
    exact h.recorded
  · simp only [hprog, hdesc]
    exact h.steps
  · simp only [hentries, heval]
    exact h.evaluating
  · simp only [hprog, hlen]
    exact h.owners
  · simp only [hentries, hprog]
    exact h.moves
  · simp only [hentries, hprog]
    exact h.carries
  · have hr := h.reserved
    unfold State.reservationLaw State.entryReservations State.carryReservations at hr ⊢
    rwa [hentries, hprog]

/-! ### Updates that leave the view -/

theorem State.map_modPort {α : Type} (s : State) (p : Nat) (f : Port → Port) (g : Port → α) (hf : ∀ q, g (f q) = g q) :
    (s.modPort p f).ports.map g = s.ports.map g := by
  refine List.ext_getElem (by simp [State.modPort]) fun i h1 h2 => ?_
  simp only [State.modPort, List.getElem_map, List.getElem_modify]
  split
  · exact hf _
  · rfl

theorem State.view_modPort (s : State) (p : Nat) (f : Port → Port) (hf : ∀ q, (f q).queue = q.queue) :
    (s.modPort p f).view = s.view :=
  State.view_eq.mpr ⟨rfl, rfl, s.map_modPort p f _ hf, rfl, rfl, rfl, rfl⟩

theorem State.view_notify (s : State) (p : Nat) (n : Notice) : (s.notify p n).view = s.view := by
  rcases s.notify_eq p n with he | ⟨_, _, he⟩ <;> rw [he]
  exact State.view_modPort s p _ fun _ => rfl

theorem State.view_broadcast (s : State) (n : Notice) : (s.broadcast n).view = s.view := by
  unfold State.broadcast
  induction List.range Config.nPorts generalizing s with
  | nil => rfl
  | cons p l ih =>
    rw [List.foldl_cons]
    split
    · exact (ih _).trans (s.view_notify p n)
    · exact ih s

theorem State.view_changeMode (s : State) (m : Mode) : (s.changeMode m).view = s.view := State.view_broadcast _ _

theorem State.view_sendRevoke (s : State) (e : Entry) : (s.sendRevoke e).view = s.view := by
  unfold State.sendRevoke
  split
  · exact s.view_notify _ _
  · rfl

theorem State.view_placeInspect (s : State) (a : Nat) : (s.placeInspect a).1.view = s.view := by
  unfold State.placeInspect
  split
  · rfl
  · split_ifs
    · rfl
    · split <;> rfl
    · exact s.view_modApp a (fun r => { r with overflow := true }) (fun _ => rfl) fun _ => rfl

theorem State.view_judge (s : State) (a : Nat) (x y : Pos) : (s.judge a x y).1.view = s.view := by
  cases hd : s.appDesc a with
  | none => simp only [State.judge, hd]
  | some d =>
    by_cases hb : isUnbidden d.kind x y
    · simpa only [State.judge, hd, hb, if_true] using s.view_broadcast _
    · by_cases htr : isTrip d.kind x y
      · simpa only [State.judge, hd, hb, htr, Bool.false_eq_true, if_true, if_false] using
          s.view_modApp a (fun r => { r with lastOutcome := some .tripped }) (fun _ => rfl) fun _ => rfl
      · simp only [State.judge, hd, hb, htr, Bool.false_eq_true, if_false]

theorem State.view_testFrozen (s : State) : s.testFrozen.view = s.view := by
  unfold State.testFrozen
  split
  · exact s.view_changeMode _
  · rfl

/-! ### Updates of entries -/

/-- Entry `e` may become `x`: it takes no reservation, a ticket that waits keeps its place, a SETTLING entry stays so, and so
does the entry of the evaluation in flight. -/
structure State.MayBecome (s : State) (e x : Entry) : Prop where
  ticket : x.ticket = e.ticket
  owner : x.owner = e.owner
  apparatus : x.apparatus = e.apparatus
  programme : x.programme = e.programme
  coupled : x.coupled = e.coupled
  held : x.state.held = true → e.state.held = true ∧ x.footprint = e.footprint ∧ x.reach = e.reach
  waits : x.state.held = false → x.coupled = false → e.state.held = false ∨ e.ticket ∈ (s.port e.owner).queue
  settling : e.state = .settling → x.state = .settling
  evaluating : e.state = .evaluating → x.state = .evaluating ∨ s.evaluation.map Evaluation.ticket ≠ some e.ticket

theorem State.MayBecome.refl (s : State) (e : Entry) : s.MayBecome e e :=
  ⟨rfl, rfl, rfl, rfl, rfl, fun h => ⟨h, rfl, rfl⟩, fun h _ => .inl h, id, .inl⟩

/-- The reservation of an entry (R88). -/
def Entry.reservation (e : Entry) : Reservation := { footprint := e.footprint, reach := e.reach.getD [] }

theorem State.entryReservations_eq (s : State) :
    s.entryReservations = (s.entries.filter (fun e => e.state.held)).map Entry.reservation := rfl

theorem State.mapped_reservations {s : State} {f : Entry → Entry} {l : List Entry} (hf : ∀ e ∈ l, s.MayBecome e (f e)) :
    (((l.map f).filter (fun e => e.state.held)).map Entry.reservation).Sublist
      ((l.filter (fun e => e.state.held)).map Entry.reservation) := by
  induction l with
  | nil => exact List.Sublist.refl _
  | cons e l ih =>
    have hrest := ih fun x hx => hf x (List.mem_cons_of_mem e hx)
    rw [List.map_cons, List.filter_cons, List.filter_cons]
    cases hh : (f e).state.held with
    | false =>
      rw [if_neg Bool.false_ne_true]
      split
      · exact hrest.cons _
      · exact hrest
    | true =>
      obtain ⟨he, hfoot, hreach⟩ := (hf e List.mem_cons_self).held hh
      have hr : (f e).reservation = e.reservation := by rw [Entry.reservation, Entry.reservation, hfoot, hreach]
      rw [if_pos he, if_pos rfl, List.map_cons, List.map_cons, hr]
      exact hrest.cons_cons _

theorem State.Core.mapEntries {s : State} (h : s.Core) (f : Entry → Entry) (hf : ∀ e ∈ s.entries, s.MayBecome e (f e)) :
    State.Core { s with entries := s.entries.map f } := by
  have hmap : ∀ {β : Type} (k : Entry → β), (∀ e ∈ s.entries, k (f e) = k e) → (s.entries.map f).map k = s.entries.map k :=
    fun k hk => by
      rw [List.map_map]
      exact List.map_congr_left hk
  have hall : ∀ {p : Entry → Prop}, (∀ e ∈ s.entries, p (f e)) → ∀ x ∈ s.entries.map f, p x := fun hp x hx => by
    obtain ⟨e, he, rfl⟩ := List.mem_map.mp hx
    exact hp e he
  refine { h with sorted := ?_, queued := ?_, coupled := ?_, apart := ?_, recorded := ?_, evaluating := ?_, moves := ?_,
                  carries := ?_, reserved := ?_ }
  · exact (hmap _ fun e he => (hf e he).ticket).symm ▸ h.sorted
  · refine hall fun e he hh hc => ?_
    rw [(hf e he).ticket, (hf e he).owner]
    rcases (hf e he).waits hh hc with hw | hw
    · exact h.queued e he hw ((hf e he).coupled ▸ hc)
    · exact hw
  · refine hall fun e he hc => ?_
    rw [(hf e he).programme]
    exact h.coupled e he ((hf e he).coupled ▸ hc)
  · exact (hmap _ fun e he => (hf e he).apparatus).symm ▸ h.apart
  · refine hall fun e he => ?_
    rw [(hf e he).ticket, (hf e he).apparatus]
    exact h.recorded e he
  · intro t ht
    obtain ⟨e, he, hte, hst⟩ := h.evaluating t ht
    refine ⟨f e, List.mem_map_of_mem he, (hf e he).ticket.trans hte, ?_⟩
    exact ((hf e he).evaluating hst).resolve_right fun hn => hn (hte.symm ▸ ht)
  · refine hall fun e he hst t k hp => ?_
    rw [(hf e he).ticket, (hf e he).owner]
    exact h.moves e he (fun hset => hst ((hf e he).settling hset)) t k ((hf e he).programme ▸ hp)
  · intro g hg hc
    refine (h.carries g hg hc).imp_right fun ⟨e, he, hm, hcoupled, hh, k, hp⟩ => ?_
    refine ⟨f e, List.mem_map_of_mem he, by rw [hm, (hf e he).ticket], (hf e he).coupled.trans hcoupled, ?_, k,
      (hf e he).programme.trans hp⟩
    refine Bool.eq_false_iff.mpr fun hx => ?_
    rw [((hf e he).held hx).1] at hh
    cases hh
  · exact h.reserved.sublist ((State.mapped_reservations hf).append_right _)

theorem State.Core.modEntry {s : State} (h : s.Core) (t : Nat) (f : Entry → Entry)
    (hf : ∀ e ∈ s.entries, e.ticket = t → s.MayBecome e (f e)) : (s.modEntry t f).Core := by
  refine h.mapEntries _ fun e he => ?_
  split
  next ht => exact hf e he ht
  · exact State.MayBecome.refl s e

end Sys2Proof.Machine
end

section
/-! The laws of the movements: queues, retirement, the making of an entry, programmes and the release. -/

namespace Sys2Proof.Machine

/-! ### Lists with one record changed -/

/-- Where keys are distinct, an update by key changes one record. -/
theorem map_if_split {α : Type} (key : α → Nat) {l : List α} {e : α} (hn : (l.map key).Nodup) (he : e ∈ l) :
    ∃ l1 l2, l = l1 ++ e :: l2 ∧ ∀ f : α → α, l.map (fun x => if key x = key e then f x else x) = l1 ++ f e :: l2 := by
  obtain ⟨l1, l2, rfl⟩ := List.append_of_mem he
  refine ⟨l1, l2, rfl, fun f => ?_⟩
  rw [List.map_append, List.map_cons, List.nodup_append] at hn
  obtain ⟨_, hn2, hdisj⟩ := hn
  have hsame : ∀ m : List α, (∀ x ∈ m, key x ≠ key e) → m.map (fun x => if key x = key e then f x else x) = m :=
    fun m hm => (List.map_congr_left fun x hx => if_neg (hm x hx)).trans (List.map_id m)
  rw [List.map_append, List.map_cons, if_pos rfl, hsame l1 fun x hx => hdisj _ (List.mem_map_of_mem hx) _ List.mem_cons_self,
    hsame l2 fun x hx hxe => (List.nodup_cons.mp hn2).1 (hxe ▸ List.mem_map_of_mem hx)]

theorem meet_comm (x y : List Nat) : meet x y = meet y x :=
  Bool.eq_iff_iff.mpr (by rw [meet_iff, meet_iff]; exact ⟨fun ⟨n, h⟩ => ⟨n, h.symm⟩, fun ⟨n, h⟩ => ⟨n, h.symm⟩⟩)

theorem Reservation.conflicts_comm (x y : Reservation) : x.conflicts y = y.conflicts x := by
  unfold Reservation.conflicts
  rw [meet_comm x.footprint y.footprint, meet_comm x.footprint y.reach, meet_comm x.reach y.footprint]
  cases meet y.footprint x.footprint <;> cases meet y.reach x.footprint <;> cases meet y.footprint x.reach <;> rfl

/-- A reservation in conflict with none of a list joins it anywhere. -/
theorem pairwise_insert_middle {r : Reservation} {l1 l2 : List Reservation}
    (h : (l1 ++ l2).Pairwise (fun x y => x.conflicts y = false)) (hr : ∀ x ∈ l1 ++ l2, r.conflicts x = false) :
    (l1 ++ r :: l2).Pairwise (fun x y => x.conflicts y = false) := by
  rw [List.perm_middle.pairwise_iff fun {x y} hxy => (Reservation.conflicts_comm y x).trans hxy]
  exact List.pairwise_cons.mpr ⟨hr, h⟩

/-! ### Queues -/

theorem State.Core.queueLeave {s : State} (h : s.Core) (p t : Nat)
    (ht : ∀ e ∈ s.entries, e.ticket = t → e.state.held = true ∨ e.coupled = true) : (s.queueLeave p t).Core := by
  refine { h with short := fun q hq => ?_, queued := fun e he hh hc => ?_, owners := ?_ }
  · obtain ⟨i, hi, rfl⟩ := List.getElem_of_mem hq
    simp only [State.queueLeave, State.modPort, List.length_modify] at hi
    simp only [State.queueLeave, State.modPort, List.getElem_modify]
    have hs := h.short _ (List.getElem_mem hi)
    split
    · exact (List.length_filter_le ..).trans hs
    · exact hs
  · rw [State.queueLeave_queue]
    have hmem := h.queued e he hh hc
    split
    · refine List.mem_filter.mpr ⟨hmem, decide_eq_true fun hte => ?_⟩
      rcases ht e he hte with hx | hx
      · rw [hx] at hh
        cases hh
      · rw [hx] at hc
        cases hc
    · exact hmem
  · simpa [State.queueLeave] using h.owners

theorem State.Core.queueHead {s : State} (h : s.Core) (p t : Nat) (ht : t ∈ (s.port p).queue ∨ (s.port p).queue.length < 4) :
    (s.queueHead p t).Core := by
  refine { h with short := fun q hq => ?_, queued := fun e he hh hc => ?_, owners := ?_ }
  · obtain ⟨i, hi, rfl⟩ := List.getElem_of_mem hq
    simp only [State.queueHead, State.modPort, List.length_modify] at hi
    simp only [State.queueHead, State.modPort, List.getElem_modify]
    have hs := h.short _ (List.getElem_mem hi)
    split
    next hp =>
      subst hp
      rw [State.port_eq_getElem hi] at ht
      rw [List.length_cons]
      rcases ht with hmem | hlt
      · have := (List.length_filter_lt_length_iff_exists (p := fun x => decide (x ≠ t))).mpr ⟨t, hmem, by simp⟩
        omega
      · have := List.length_filter_le (fun x => decide (x ≠ t)) s.ports[p].queue
        omega
    · exact hs
  · have hmem := h.queued e he hh hc
    unfold State.queueHead
    rw [State.port_modPort]
    split
    · by_cases hte : e.ticket = t
      · exact hte ▸ List.mem_cons_self
      · exact List.mem_cons_of_mem _ (List.mem_filter.mpr ⟨hmem, decide_eq_true hte⟩)
    · exact hmem
  · simpa [State.queueHead] using h.owners

/-! ### Programmes -/

/-- Programme `g` may become `x` while the entries stay: its movement is that of its entry that is not SETTLING, and its carry
keeps to R130. -/
structure State.MayTurn (s : State) (g x : Programme) : Prop where
  ticket : x.ticket = g.ticket
  owner : x.owner = g.owner
  steps : x.steps = g.steps
  waits : (x.waiting.isSome = true → x.state = .waiting) ∧ (x.state = .waiting → x.movement = none)
  moves : ∀ e ∈ s.entries, e.state ≠ .settling → ∀ k, e.programme = some (g.ticket, k) → x.movement = g.movement
  carries : x.carry.isSome = true → (x.movement = none ∧ x.state ≠ .waiting) ∨
    ∃ e ∈ s.entries, x.movement = some e.ticket ∧ e.coupled = true ∧ e.state.held = false ∧
      ∃ k, e.programme = some (g.ticket, k)

theorem State.Core.mayTurn {s : State} (h : s.Core) {g : Programme} (hg : g ∈ s.programmes) : s.MayTurn g g :=
  ⟨rfl, rfl, rfl, h.waits g hg, fun _ _ _ _ _ => rfl, h.carries g hg⟩

theorem State.Core.mapProgrammes {s : State} (h : s.Core) (f : Programme → Programme)
    (hf : ∀ g ∈ s.programmes, s.MayTurn g (f g)) (hr : State.reservationLaw { s with programmes := s.programmes.map f }) :
    State.Core { s with programmes := s.programmes.map f } := by
  have hall : ∀ {p : Programme → Prop}, (∀ g ∈ s.programmes, p (f g)) → ∀ x ∈ s.programmes.map f, p x := fun hp x hx => by
    obtain ⟨g, hg, rfl⟩ := List.mem_map.mp hx
    exact hp g hg
  refine { h with steps := ?_, named := ?_, owners := ?_, waits := ?_, moves := ?_, carries := ?_, reserved := hr }
  · exact hall fun g hg => (hf g hg).steps ▸ h.steps g hg
  · rw [List.map_map, show s.programmes.map (Programme.ticket ∘ f) = s.programmes.map Programme.ticket from
      List.map_congr_left fun g hg => (hf g hg).ticket]
    exact h.named
  · exact hall fun g hg => (hf g hg).owner ▸ h.owners g hg
  · exact hall fun g hg => (hf g hg).waits
  · intro e he hst t k hp
    obtain ⟨g, hg, rfl, hm, ho⟩ := h.moves e he hst t k hp
    exact ⟨f g, List.mem_map_of_mem hg, (hf g hg).ticket, ((hf g hg).moves e he hst k hp).trans hm, (hf g hg).owner.trans ho⟩
  · refine hall fun g hg hc => ?_
    rw [(hf g hg).ticket]
    exact (hf g hg).carries hc

theorem State.carryReservations_none (s : State) : s.carryReservations none = s.programmes.filterMap Programme.carry :=
  congrArg (List.filterMap Programme.carry) (List.filter_eq_self.mpr fun _ _ => by simp)

/-- Carries that stay or are dropped. -/
theorem filterMap_sublist {f : Programme → Programme} {l : List Programme}
    (hf : ∀ g ∈ l, (f g).carry = none ∨ (f g).carry = g.carry) :
    ((l.map f).filterMap Programme.carry).Sublist (l.filterMap Programme.carry) := by
  induction l with
  | nil => exact List.Sublist.refl _
  | cons g l ih =>
    have hrest := ih fun x hx => hf x (List.mem_cons_of_mem g hx)
    rw [List.map_cons, List.filterMap_cons, List.filterMap_cons]
    rcases hf g List.mem_cons_self with hx | hx <;> rw [hx]
    · cases g.carry with
      | none => exact hrest
      | some r => exact hrest.cons r
    · cases g.carry with
      | none => exact hrest
      | some r => exact hrest.cons_cons r

/-- R88: a programme whose carry stays or is dropped takes no reservation. -/
theorem State.Core.modProgramme {s : State} (h : s.Core) {t : Nat} (f : Programme → Programme)
    (hf : ∀ g ∈ s.programmes, g.ticket = t → s.MayTurn g (f g) ∧ ((f g).carry = none ∨ (f g).carry = g.carry)) :
    (s.modProgramme t f).Core := by
  refine h.mapProgrammes _ (fun g hg => ?_) (h.reserved.sublist (List.Sublist.append_left ?_ _))
  · split
    next ht => exact (hf g hg ht).1
    · exact h.mayTurn hg
  · have hcarry : ∀ g ∈ s.programmes, (if g.ticket = t then f g else g).carry = none ∨
        (if g.ticket = t then f g else g).carry = g.carry := by
      intro g hg
      split
      next ht => exact (hf g hg ht).2
      · exact .inr rfl
    rw [State.carryReservations_none, State.carryReservations_none]
    exact filterMap_sublist hcarry

/-- R130: what the dropping of a carry at an entry's end comes to. -/
theorem State.dropCarry_cases (s : State) (e : Entry) :
    (s.dropCarry e = (s, false) ∧ ∀ pt k g, e.programme = some (pt, k) → s.programme pt = some g →
      e.coupled = true → g.movement = some e.ticket → g.carry = none) ∨
    ∃ pt k, e.programme = some (pt, k) ∧
      s.dropCarry e = (s.modProgramme pt (fun q => { q with carry := none }), true) := by
  unfold State.dropCarry
  split
  next hp => exact .inl ⟨rfl, fun pt k g hpt => by rw [hp] at hpt; cases hpt⟩
  next pt k hp =>
    split
    next hg => exact .inl ⟨rfl, fun pt' k' g hpt hg' => by
      rw [hp] at hpt
      cases hpt
      rw [hg] at hg'
      cases hg'⟩
    next g hg =>
      split
      · exact .inr ⟨pt, k, hp, rfl⟩
      next hn => exact .inl ⟨rfl, fun pt' k' g' hpt hg' hcoupled hm => by
        rw [hp] at hpt
        cases hpt
        rw [hg] at hg'
        cases hg'
        by_contra hc
        exact hn ⟨hcoupled, hm, Option.isSome_iff_ne_none.mpr hc⟩⟩

theorem State.Core.dropCarry {s : State} (h : s.Core) (e : Entry) : (s.dropCarry e).1.Core := by
  rcases s.dropCarry_cases e with ⟨hd, _⟩ | ⟨pt, k, _, hd⟩ <;> rw [hd]
  · exact h
  · exact h.modProgramme _ fun g hg _ =>
      ⟨⟨rfl, rfl, rfl, h.waits g hg, fun _ _ _ _ _ => rfl, fun hc => (nomatch hc)⟩, .inl rfl⟩

/-- R130: no carry is left for an entry that has lost its own. -/
theorem State.Core.dropCarry_none {s : State} (h : s.Core) {e : Entry} (he : e ∈ s.entries) :
    ∀ g ∈ (s.dropCarry e).1.programmes, g.movement = some e.ticket → g.carry = none := by
  have hlaw : ∀ g ∈ s.programmes, g.movement = some e.ticket → g.carry.isSome = true →
      e.coupled = true ∧ ∃ k, e.programme = some (g.ticket, k) := by
    intro g hg hm hc
    rcases h.carries g hg hc with ⟨hn, _⟩ | ⟨x, hx, hmx, hcoupled, _, hk⟩
    · rw [hn] at hm
      cases hm
    · have hxe : x = e := List.inj_on_of_nodup_map h.distinct hx he (Option.some.inj (hmx.symm.trans hm))
      exact hxe ▸ ⟨hcoupled, hk⟩
  rcases s.dropCarry_cases e with ⟨hd, hnone⟩ | ⟨pt, k, hp, hd⟩ <;> rw [hd]
  · intro g hg hm
    by_contra hc
    obtain ⟨hcoupled, k, hk⟩ := hlaw g hg hm (Option.isSome_iff_ne_none.mpr hc)
    exact hc (hnone g.ticket k g hk (State.programme_of_nodup h.named hg) hcoupled hm)
  · intro x hx hm
    obtain ⟨g, hg, rfl⟩ := List.mem_map.mp hx
    by_cases hne : g.ticket = pt
    · rw [if_pos hne]
    · rw [if_neg hne] at hm ⊢
      by_contra hc
      obtain ⟨_, k', hk⟩ := hlaw g hg hm (Option.isSome_iff_ne_none.mpr hc)
      rw [hp] at hk
      cases hk
      exact hne rfl

/-- R130: a held entry's programme has no carry. -/
theorem State.Core.carry_of_held {s : State} (h : s.Core) {e : Entry} (he : e ∈ s.entries) (hh : e.state.held = true) :
    ∀ g ∈ s.programmes, g.movement = some e.ticket → g.carry = none := by
  intro g hg hm
  by_contra hc
  rcases h.carries g hg (Option.isSome_iff_ne_none.mpr hc) with ⟨hn, _⟩ | ⟨x, hx, hmx, _, hx', _⟩
  · rw [hn] at hm
    cases hm
  · have hxe : x = e := List.inj_on_of_nodup_map h.distinct hx he (Option.some.inj (hmx.symm.trans hm))
    rw [hxe, hh] at hx'
    cases hx'

end Sys2Proof.Machine
end

section
/-! The laws of the movements: retirement, the end and the steps of a programme, and the release. -/

namespace Sys2Proof.Machine

/-! ### Retirement (R117) -/

/-- An entry that no carry waits for is taken out. -/
theorem State.Core.takeOut {s : State} (h : s.Core) {e : Entry} (he : e ∈ s.entries) (o : MoveOutcome)
    (hc : ∀ g ∈ s.programmes, g.movement = some e.ticket → g.carry = none) : (s.takeOut e o).Core := by
  have hmem : ∀ {x : Entry}, x ∈ (s.takeOut e o).entries ↔ x ∈ s.entries ∧ x.ticket ≠ e.ticket := fun {x} =>
    List.mem_filter.trans (and_congr_right fun _ => decide_eq_true_iff)
  have hsub : (s.takeOut e o).entries.Sublist s.entries := List.filter_sublist
  refine
    { sorted := h.sorted.sublist (hsub.map _), counter := h.counter, short := ?_, queued := fun x hx hh hcoupled => ?_,
      coupled := fun x hx => h.coupled x (hmem.mp hx).1, apart := h.apart.sublist (hsub.map _),
      recorded := fun x hx => ?_, steps := h.steps, evaluating := fun t ht => ?_, named := h.named, owners := ?_,
      waits := h.waits, moves := fun x hx => h.moves x (hmem.mp hx).1, carries := fun g hg hcarry => ?_,
      reserved := h.reserved.sublist (((hsub.filter _).map _).append_right _) }
  · intro q hq
    obtain ⟨i, hi, rfl⟩ := List.getElem_of_mem hq
    simp only [State.takeOut, State.modApp, State.queueLeave, State.modPort, List.length_modify] at hi
    simp only [State.takeOut, State.modApp, State.queueLeave, State.modPort, List.getElem_modify]
    have hs := h.short _ (List.getElem_mem hi)
    split
    · exact (List.length_filter_le ..).trans hs
    · exact hs
  · obtain ⟨hx, hne⟩ := hmem.mp hx
    have hq := h.queued x hx hh hcoupled
    rw [State.takeOut_port, State.queueLeave_queue]
    split
    · exact List.mem_filter.mpr ⟨hq, decide_eq_true hne⟩
    · exact hq
  · obtain ⟨hx, hne⟩ := hmem.mp hx
    have hne' : x.apparatus ≠ e.apparatus := fun ha => hne (List.inj_on_of_nodup_map h.apart hx he ha ▸ rfl)
    have happ := State.app_modApp (s.queueLeave e.owner e.ticket) e.apparatus x.apparatus
      (fun r => { r with ticket := none, lastOutcome := some (.movement o) }) fun _ => rfl
    refine (congrArg (Option.map AppLive.ticket) happ).trans ?_
    simp only [hne', if_false, Option.map_id']
    exact h.recorded x hx
  · have ht' : (match s.evaluation with
        | some v => if v.ticket = e.ticket then none else some v
        | none => none).map Evaluation.ticket = some t := ht
    split at ht'
    next v hv =>
      split at ht'
      · cases ht'
      next hne =>
        obtain ⟨x, hx, hxt, hst⟩ := h.evaluating t (by rw [hv]; exact ht')
        refine ⟨x, hmem.mpr ⟨hx, fun hxe => hne ?_⟩, hxt, hst⟩
        exact (Option.some.inj ht').trans (hxt.symm.trans hxe)
    · cases ht'
  · simpa [State.takeOut, State.queueLeave] using h.owners
  · refine (h.carries g hg hcarry).imp_right fun ⟨x, hx, hm, hrest⟩ => ⟨x, hmem.mpr ⟨hx, fun hxe => ?_⟩, hm, hrest⟩
    rw [hc g hg (hxe ▸ hm)] at hcarry
    cases hcarry

/-- The state that a retirement leaves, before what follows from it. -/
def State.without (s : State) (e : Entry) (o : MoveOutcome) : State :=
  (if e.state.held then s else (s.dropCarry e).1).takeOut e o

/-- The programme of a retiring entry is told (R127). -/
def Entry.informs (e : Entry) (o : MoveOutcome) : List Task :=
  match e.programme with
  | some (pt, _) => [.inform pt e.ticket o e.reservation]
  | none => []

theorem State.retire_none {s : State} {t : Nat} (ht : s.entry t = none) (o : MoveOutcome) : s.retire t o = (s, []) := by
  simp only [State.retire, ht]

theorem State.retire_eq {s : State} {t : Nat} {e : Entry} (he : s.entry t = some e) (o : MoveOutcome) :
    ∃ rest : List Task, (∀ u ∈ rest, u = .reoffer ∨ u = .testFrozen) ∧
      s.retire t o = ((s.without e o).notify e.owner (.movementEnded t o e.operatingTime),
        s.settlingJudgement e ++ e.informs o ++ rest) := by
  obtain rfl := (State.entry_mem he).2
  refine ⟨(if e.state.held && s.heldBack e then [.testFrozen] else []) ++
    (if (if e.state.held then (s, false) else s.dropCarry e).2 then [.reoffer] else []) ++ [.reoffer], fun u hu => ?_, ?_⟩
  · simp only [List.mem_append, List.mem_ite_nil_right, List.mem_singleton] at hu
    tauto
  · simp only [State.retire, he, State.without, Entry.informs, Entry.reservation, List.append_assoc]
    cases e.state.held <;> rfl

theorem State.without_entries (s : State) (e : Entry) (o : MoveOutcome) :
    (s.without e o).entries = s.entries.filter (fun x => x.ticket ≠ e.ticket) := by
  unfold State.without
  split
  · rfl
  · rcases s.dropCarry_cases e with ⟨hd, _⟩ | ⟨_, _, _, hd⟩ <;> rw [hd] <;> rfl

theorem State.Core.without {s : State} (h : s.Core) {e : Entry} (he : e ∈ s.entries) (o : MoveOutcome) : (s.without e o).Core := by
  unfold State.without
  split
  next hh => exact h.takeOut he o (h.carry_of_held he hh)
  · have hd : e ∈ (s.dropCarry e).1.entries := by
      rcases s.dropCarry_cases e with ⟨hd, _⟩ | ⟨_, _, _, hd⟩ <;> rw [hd] <;> exact he
    exact (h.dropCarry e).takeOut hd o (h.dropCarry_none he)

/-! ### The end of a programme (R120, R128, R134) -/

theorem State.Core.endProgramme {s : State} (h : s.Core) (p : Programme) (r : Option StopReason)
    (hp : ∀ e ∈ s.entries, e.state ≠ .settling → ∀ k, e.programme ≠ some (p.ticket, k)) : (s.endProgramme p r).1.Core := by
  have hmem : ∀ {g : Programme}, g ∈ s.programmes.filter (fun q => q.ticket ≠ p.ticket) ↔
      g ∈ s.programmes ∧ g.ticket ≠ p.ticket := fun {g} => List.mem_filter.trans (and_congr_right fun _ => decide_eq_true_iff)
  have hsub : (s.programmes.filter (fun q => q.ticket ≠ p.ticket)).Sublist s.programmes := List.filter_sublist
  have hout : State.Core { s with
      programmes := s.programmes.filter (fun q => q.ticket ≠ p.ticket)
      waitingOrder := s.waitingOrder.filter (· ≠ p.ticket) } :=
    { h with
      steps := fun g hg => h.steps g (hmem.mp hg).1, named := h.named.sublist (hsub.map _),
      owners := fun g hg => h.owners g (hmem.mp hg).1, waits := fun g hg => h.waits g (hmem.mp hg).1
      moves := fun e he hst t k hk => by
        obtain ⟨g, hg, hgt, hrest⟩ := h.moves e he hst t k hk
        exact ⟨g, hmem.mpr ⟨hg, fun hgp => hp e he hst k (by rw [hk, ← hgt, hgp])⟩, hgt, hrest⟩
      carries := fun g hg => h.carries g (hmem.mp hg).1
      reserved := h.reserved.sublist (((hsub.filter _).filterMap _).append_left _) }
  exact hout.of_view (State.view_notify _ _ _)

/-- An entry of a programme that waits for no movement, or for one that is gone, is SETTLING. -/
theorem State.Core.no_entry_of {s : State} (h : s.Core) {g : Programme} (hg : g ∈ s.programmes)
    (hm : ∀ t, g.movement = some t → ∀ x ∈ s.entries, x.ticket ≠ t) :
    ∀ e ∈ s.entries, e.state ≠ .settling → ∀ k, e.programme ≠ some (g.ticket, k) := by
  intro e he hst k hk
  obtain ⟨g', hg', hgt, hmove, _⟩ := h.moves e he hst _ k hk
  rw [List.inj_on_of_nodup_map h.named hg' hg hgt] at hmove
  exact hm _ hmove e he rfl

end Sys2Proof.Machine
end

section
/-! The laws of the movements: the making of an entry, the steps of a programme, and the release. -/

namespace Sys2Proof.Machine

/-! ### The making of an entry (R92, R97, R124, R129) -/

section
variable (s : State) (p a : Nat) (g : Target) (q : Option (Nat × Nat)) (c : Bool)

/-- The entry that is made. -/
def State.made : Entry := newEntry s.freeTicket p a g q c (s.footprintOf a)

/-- R97, R129: what the making of an entry writes, whether or not the entry needs a queue place. -/
theorem State.makeEntry_eq : s.makeEntry p a g q c =
    { s with
      ports := if c then s.ports else s.ports.modify p (fun x => { x with queue := x.queue ++ [s.freeTicket] })
      coupled := if c then s.coupled ++ [s.freeTicket] else s.coupled
      ticketCounter := nextTicket s.freeTicket
      apps := s.apps.map (fun x => if x.number = a then { x with ticket := some s.freeTicket } else x)
      entries := insertBy Entry.ticket (s.made p a g q c) s.entries } := by
  unfold State.makeEntry State.made
  generalize s.freeTicket = t
  cases c <;> simp only [State.ticketIssued, State.modApp, State.queueTail, State.modPort, Bool.false_eq_true, if_true, if_false]

/-- The queues after the making of an entry. -/
theorem State.makeEntry_queue (r : Nat) : ∃ l, ((s.makeEntry p a g q c).port r).queue = (s.port r).queue ++ l ∧
    (c = false → r = p → p < s.ports.length → s.freeTicket ∈ l) := by
  rw [State.makeEntry_eq]
  cases c
  · have hport := s.port_modPort p (fun x => { x with queue := x.queue ++ [s.freeTicket] }) r
    by_cases hr : p = r ∧ r < s.ports.length
    · rw [if_pos hr] at hport
      exact ⟨[s.freeTicket], congrArg Port.queue hport, fun _ _ _ => List.mem_singleton_self _⟩
    · rw [if_neg hr] at hport
      exact ⟨[], (congrArg Port.queue hport).trans (List.append_nil _).symm, fun _ hrp hlt => absurd ⟨hrp.symm, hrp ▸ hlt⟩ hr⟩
  · exact ⟨[], (List.append_nil _).symm, fun hc => (nomatch hc)⟩

end

theorem perm_insertBy {α : Type} (key : α → Nat) (x : α) (l : List α) : (insertBy key x l).Perm (x :: l) := by
  induction l with
  | nil => exact List.Perm.refl _
  | cons y l ih =>
    unfold insertBy
    split
    · exact List.Perm.refl _
    · exact (ih.cons y).trans (List.Perm.swap x y l)

theorem nextTicket_range {t : Nat} (h : 1 ≤ t) : 1 ≤ nextTicket t ∧ nextTicket t ≤ 65535 := by
  unfold nextTicket
  split <;> omega

/-- R94: the number issued next names no entry and no programme. -/
theorem State.Core.freeTicket_fresh {s : State} (h : s.Core) (ht : s.tableLaw) : (∀ e ∈ s.entries, e.ticket ≠ s.freeTicket) ∧
    (∀ g ∈ s.programmes, g.ticket ≠ s.freeTicket) ∧ 1 ≤ s.freeTicket := by
  obtain ⟨hunused, hlow, _⟩ := State.freeTicket_spec ht h.counter.1 h.counter.2
  have hother : ∀ t ∈ s.usedTickets, t ≠ s.freeTicket := fun t hmem hts => by
    rw [State.ticketUsed_iff.mpr (hts ▸ hmem)] at hunused
    cases hunused
  refine ⟨fun e he => hother _ ?_, fun g hg => hother _ ?_, hlow⟩
  · simp only [State.usedTickets, List.mem_append]
    exact .inl (List.mem_map_of_mem he)
  · simp only [State.usedTickets, List.mem_append]
    exact .inr (.inl (List.mem_map_of_mem hg))

/-- What makes room for an entry of port `p` and apparatus `a` (R96, R124, R129). -/
structure State.Room (s : State) (p a : Nat) (coupled : Bool) : Prop where
  tables : s.tableLaw
  port : p < s.ports.length
  record : (s.app a).isSome = true
  free : s.engaged a = false
  place : coupled = false → s.queueFull p = false

/-- The record of an apparatus takes a ticket. -/
theorem State.writeTicket_app (s : State) {a : Nat} (ha : (s.app a).isSome = true) (t b : Nat) :
    (State.app (s.modApp a (fun x => { x with ticket := some t })) b).map AppLive.ticket =
      if b = a then some (some t) else (s.app b).map AppLive.ticket := by
  rw [State.app_modApp s a b (fun x => { x with ticket := some t }) (fun _ => rfl), Option.map_map]
  split
  next hb =>
    subst hb
    obtain ⟨r, hr⟩ := Option.isSome_iff_exists.mp ha
    simp [hr]
  · simp [Function.comp_def]

/-- An entry is made, and the programmes `f` changes take it as the movement they wait for. -/
theorem State.Core.makeEntry {s : State} (h : s.Core) {p a : Nat} {coupled : Bool} (hroom : s.Room p a coupled) (g : Target)
    {prog : Option (Nat × Nat)} (hprog : coupled = true → prog.isSome = true) (f : Programme → Programme)
    (hsame : ∀ x, (f x).ticket = x.ticket ∧ (f x).owner = x.owner ∧ (f x).steps = x.steps ∧ (f x).carry = x.carry)
    (hwaits : ∀ x ∈ s.programmes, ((f x).waiting.isSome = true → (f x).state = .waiting) ∧
      ((f x).state = .waiting → (f x).movement = none))
    (hold : ∀ x ∈ s.programmes, f x = x ∨ (x.movement = none ∧ (f x).movement = some s.freeTicket ∧
      (∃ k, prog = some (x.ticket, k)) ∧ (x.carry.isSome = true → coupled = true)))
    (hnew : ∀ pt k, prog = some (pt, k) → ∃ x ∈ s.programmes, x.ticket = pt ∧ x.owner = p ∧
      (f x).movement = some s.freeTicket) :
    State.Core { s.makeEntry p a g prog coupled with programmes := s.programmes.map f } := by
  obtain ⟨hfresh, _, hlow⟩ := h.freeTicket_fresh hroom.tables
  have happart : ∀ e ∈ s.entries, e.apparatus ≠ a := fun e he ha => by
    have hr := h.recorded e he
    obtain ⟨r, happ, hrt⟩ := Option.map_eq_some_iff.mp hr
    have hfree := hroom.free
    rw [State.engaged, ← ha, happ] at hfree
    simp [hrt] at hfree
  have hmem : ∀ {x : Entry}, x ∈ insertBy Entry.ticket (s.made p a g prog coupled) s.entries ↔
      x = s.made p a g prog coupled ∨ x ∈ s.entries := fun {x} => mem_insertBy _ _ _ _
  have hall : ∀ {P : Entry → Prop}, P (s.made p a g prog coupled) → (∀ x ∈ s.entries, P x) →
      ∀ x ∈ insertBy Entry.ticket (s.made p a g prog coupled) s.entries, P x := fun h0 hP x hx =>
    (hmem.mp hx).elim (fun he => he ▸ h0) (hP x)
  have hmap : ∀ {P : Programme → Prop}, (∀ x ∈ s.programmes, P (f x)) → ∀ y ∈ s.programmes.map f, P y := fun hP y hy => by
    obtain ⟨x, hx, rfl⟩ := List.mem_map.mp hy
    exact hP x hx
  have hperm : (insertBy Entry.ticket (s.made p a g prog coupled) s.entries).Perm (s.made p a g prog coupled :: s.entries) :=
    perm_insertBy _ _ _
  have hqueue := s.makeEntry_queue p a g prog coupled
  have hrecord := s.writeTicket_app hroom.record s.freeTicket
  rw [State.makeEntry_eq] at hqueue ⊢
  refine
    { sorted := ?_, counter := nextTicket_range hlow, short := ?_, queued := ?_, coupled := ?_, apart := ?_, recorded := ?_,
      steps := ?_, evaluating := ?_, named := ?_, owners := ?_, waits := ?_, moves := ?_, carries := ?_, reserved := ?_ }
  · exact List.pairwise_map.mpr (pairwise_insertBy _ _ _ (List.pairwise_map.mp h.sorted) hfresh)
  · dsimp only
    split
    · exact h.short
    next hc =>
      intro q hq
      obtain ⟨i, hi, rfl⟩ := List.getElem_of_mem hq
      rw [List.length_modify] at hi
      rw [List.getElem_modify]
      split
      next hp =>
        subst hp
        have hlen := hroom.place (Bool.eq_false_iff.mpr hc)
        rw [State.queueFull, decide_eq_false_iff_not, State.port_eq_getElem hi] at hlen
        rw [List.length_append]
        exact Nat.succ_le_of_lt (Nat.lt_of_not_le hlen)
      · exact h.short _ (List.getElem_mem hi)
  · refine hall (fun _ hc => ?_) fun e he hh hc => ?_
    · obtain ⟨l, hl, hin⟩ := hqueue p
      exact (congrArg (s.freeTicket ∈ ·) hl).mpr (List.mem_append_right _ (hin hc rfl hroom.port))
    · obtain ⟨l, hl, _⟩ := hqueue e.owner
      exact (congrArg (e.ticket ∈ ·) hl).mpr (List.mem_append_left _ (h.queued e he hh hc))
  · exact hall hprog h.coupled
  · refine (hperm.map Entry.apparatus).nodup_iff.mpr (List.nodup_cons.mpr ⟨fun ha => ?_, h.apart⟩)
    obtain ⟨e, he, hea⟩ := List.mem_map.mp ha
    exact happart e he hea
  · refine hall ((hrecord a).trans (if_pos rfl)) fun e he => ?_
    exact (hrecord e.apparatus).trans ((if_neg (happart e he)).trans (h.recorded e he))
  · exact hmap fun x hx => (hsame x).2.2.1 ▸ h.steps x hx
  · intro t ht
    obtain ⟨e, he, hrest⟩ := h.evaluating t ht
    exact ⟨e, hmem.mpr (.inr he), hrest⟩
  · rw [List.map_map, show s.programmes.map (Programme.ticket ∘ f) = s.programmes.map Programme.ticket from
      List.map_congr_left fun x _ => (hsame x).1]
    exact h.named
  · refine hmap fun x hx => ?_
    rw [(hsame x).2.1]
    dsimp only
    split
    · exact h.owners x hx
    · exact (h.owners x hx).trans_eq (List.length_modify ..).symm
  · exact hmap hwaits
  · refine hall (fun _ pt k hp => ?_) fun e he hst pt k hp => ?_
    · obtain ⟨x, hx, hxt, hxo, hxm⟩ := hnew pt k hp
      exact ⟨f x, List.mem_map_of_mem hx, (hsame x).1.trans hxt, hxm, (hsame x).2.1.trans hxo⟩
    · obtain ⟨x, hx, hxt, hxm, hxo⟩ := h.moves e he hst pt k hp
      rcases hold x hx with hfx | ⟨hnone, _⟩
      · exact ⟨f x, List.mem_map_of_mem hx, hfx.symm ▸ hxt, hfx.symm ▸ hxm, hfx.symm ▸ hxo⟩
      · rw [hnone] at hxm
        cases hxm
  · refine hmap fun x hx hc => ?_
    rcases hold x hx with hfx | ⟨_, hm, ⟨k, hk⟩, hcarry⟩
    · rw [hfx] at hc ⊢
      exact (h.carries x hx hc).imp_right fun ⟨e, he, hrest⟩ => ⟨e, hmem.mpr (.inr he), hrest⟩
    · rw [(hsame x).2.2.2] at hc
      exact .inr ⟨_, hmem.mpr (.inl rfl), hm, hcarry hc, rfl, k, (hsame x).1.symm ▸ hk⟩
  · have hentries : ((insertBy Entry.ticket (s.made p a g prog coupled) s.entries).filter (fun e => e.state.held)).Perm
        (s.entries.filter (fun e => e.state.held)) := (hperm.filter _).trans (List.Perm.of_eq (List.filter_cons_of_neg (by
      simp [State.made, newEntry, EntryState.held])))
    have hcarry : (s.programmes.map f).filterMap Programme.carry = s.programmes.filterMap Programme.carry := by
      rw [List.filterMap_map]
      exact List.filterMap_congr fun x _ => (hsame x).2.2.2
    have hr := h.reserved
    unfold State.reservationLaw at hr ⊢
    rw [State.carryReservations_none, State.entryReservations_eq] at hr ⊢
    dsimp only
    rw [hcarry]
    exact (((hentries.map _).append_right _).pairwise_iff fun {x y} hxy =>
      (Reservation.conflicts_comm y x).trans hxy).mpr hr

end Sys2Proof.Machine
end

section
/-! The laws of the movements: the steps of a programme, its waiting, its carry, and the release. -/

namespace Sys2Proof.Machine

/-! ### Steps of programmes (R124, R125, R127, R129) -/

/-- A step's programme takes the movement that is made. -/
def Programme.stepping (t m : Nat) (q : Programme) : Programme :=
  if q.ticket = t then
    { q with movement := some m, waiting := none, state := if q.state = .stopping then .stopping else .running }
  else q

theorem State.makeStep_view (s : State) (g : Programme) (st : Step) : (s.makeStep g st).1.view =
    State.view { s.makeEntry g.owner st.apparatus st.target (some (g.ticket, g.current)) st.coupled with
      programmes := s.programmes.map (Programme.stepping g.ticket s.freeTicket) } := by
  unfold State.makeStep State.modProgramme Programme.stepping
  rw [State.makeEntry_eq]
  dsimp only
  split_ifs <;> rfl

/-- R124, R129: a step's movement is made for a programme that waits for none. -/
theorem State.Core.makeStep {s : State} (h : s.Core) {g : Programme} (hg : g ∈ s.programmes) (st : Step)
    (hroom : s.Room g.owner st.apparatus st.coupled) (hm : g.movement = none)
    (hcarry : g.carry.isSome = true → st.coupled = true) : (s.makeStep g st).1.Core := by
  have hmade := h.makeEntry hroom st.target (prog := some (g.ticket, g.current)) (fun _ => rfl)
    (Programme.stepping g.ticket s.freeTicket)
    (fun x => by unfold Programme.stepping; split <;> exact ⟨rfl, rfl, rfl, rfl⟩)
    (fun x hx => by
      unfold Programme.stepping
      split
      · refine ⟨fun hw => (nomatch hw), fun hw => ?_⟩
        dsimp only at hw
        split at hw <;> cases hw
      · exact h.waits x hx)
    (fun x hx => by
      unfold Programme.stepping
      by_cases ht : x.ticket = g.ticket
      · have hxg : x = g := List.inj_on_of_nodup_map h.named hx hg ht
        subst hxg
        rw [if_pos rfl]
        exact .inr ⟨hm, rfl, ⟨_, rfl⟩, hcarry⟩
      · exact .inl (if_neg ht))
    (fun pt k hp => by
      cases hp
      exact ⟨g, hg, rfl, rfl, by rw [Programme.stepping, if_pos rfl]⟩)
  exact hmade.of_view (s.makeStep_view g st)

/-- R125: a programme that waits for no movement and holds no carry may wait for room. -/
theorem State.Core.enterWaiting {s : State} (h : s.Core) {g : Programme} (hg : g ∈ s.programmes) (hm : g.movement = none)
    (hc : g.carry = none) : (s.enterWaiting g).1.Core := by
  unfold State.enterWaiting
  split_ifs with hw hlimit
  · exact h
  · refine h.endProgramme g _ (h.no_entry_of hg fun t ht => ?_)
    rw [hm] at ht
    cases ht
  · refine State.Core.of_view (h.modProgramme (t := g.ticket) (fun q => { q with
        state := .waiting, waiting := some (q.waiting.getD s.force.settings.deferralLimit) }) fun x hx ht => ?_) rfl
    have hxg : x = g := List.inj_on_of_nodup_map h.named hx hg ht
    subst hxg
    refine ⟨⟨rfl, rfl, rfl, ⟨fun _ => rfl, fun _ => hm⟩, fun _ _ _ _ _ => rfl, fun hcarry => ?_⟩, .inr rfl⟩
    have hcarry : x.carry.isSome = true := hcarry
    rw [hc] at hcarry
    cases hcarry

/-- R127, R129: a programme goes on to its next step, with a carry or without. -/
def Programme.advanced (r : Option Reservation) (q : Programme) : Programme :=
  { q with current := q.current + 1, movement := none, carry := r }

/-- R129: a programme goes on from a completed movement and takes a reservation that is free as its carry. -/
theorem State.Core.takeCarry {s : State} (h : s.Core) {g : Programme} (hg : g ∈ s.programmes) (hc : g.carry = none)
    (hno : ∀ e ∈ s.entries, e.state ≠ .settling → ∀ k, e.programme ≠ some (g.ticket, k)) (hw : g.state ≠ .waiting)
    (r : Option Reservation)
    (hr : ∀ x, r = some x → ∀ y ∈ s.entryReservations ++ s.carryReservations none, x.conflicts y = false) :
    (s.modProgramme g.ticket (Programme.advanced r)).Core := by
  refine h.mapProgrammes _ (fun x hx => ?_) ?_
  · split
    next ht =>
      have hxg : x = g := List.inj_on_of_nodup_map h.named hx hg ht
      subst hxg
      refine ⟨rfl, rfl, rfl, ⟨(h.waits x hg).1, fun _ => rfl⟩, fun e he hst k hk => absurd hk (hno e he hst k),
        fun _ => .inl ⟨rfl, hw⟩⟩
    · exact h.mayTurn hx
  · obtain ⟨l1, l2, hl, hmap⟩ := map_if_split Programme.ticket h.named hg
    have hres := h.reserved
    unfold State.reservationLaw at hres ⊢
    rw [State.carryReservations_none] at hres hr ⊢
    dsimp only
    rw [hmap]
    rw [hl, List.filterMap_append, List.filterMap_cons, hc] at hres hr
    rw [List.filterMap_append, List.filterMap_cons]
    cases r with
    | none => exact hres
    | some x =>
      rw [← List.append_assoc] at hres ⊢
      refine pairwise_insert_middle hres fun y hy => hr x rfl y ?_
      rwa [List.append_assoc] at hy

/-! ### The release (R84, R90, R99) -/

/-- R83, R90: an entry in conflict with no reservation takes its own. -/
theorem State.Core.hold {s : State} (h : s.Core) {e : Entry} (he : e ∈ s.entries) (f : Entry → Entry)
    (hsame : (f e).ticket = e.ticket ∧ (f e).owner = e.owner ∧ (f e).apparatus = e.apparatus ∧
      (f e).programme = e.programme ∧ (f e).coupled = e.coupled)
    (hwaits : e.state.held = false) (hheld : (f e).state.held = true)
    (heval : s.evaluation.map Evaluation.ticket ≠ some e.ticket)
    (hc : ∀ g ∈ s.programmes, g.movement = some e.ticket → g.carry = none)
    (hr : ∀ y ∈ s.entryReservations ++ s.carryReservations none, (f e).reservation.conflicts y = false) :
    (s.modEntry e.ticket f).Core := by
  obtain ⟨hticket, howner, happ, hprog, hcoupled⟩ := hsame
  have huniq : ∀ x ∈ s.entries, x.ticket = e.ticket → x = e := fun x hx hxe => List.inj_on_of_nodup_map h.distinct hx he hxe
  have hall : ∀ {P : Entry → Prop}, P (f e) → (∀ x ∈ s.entries, x.ticket ≠ e.ticket → P x) →
      ∀ y ∈ (s.modEntry e.ticket f).entries, P y := fun h0 hP y hy => by
    obtain ⟨x, hx, ⟨hxe, rfl⟩ | ⟨hne, rfl⟩⟩ := mem_modEntry hy
    · exact huniq x hx hxe ▸ h0
    · exact hP y hx hne
  have hstay : ∀ x ∈ s.entries, x.ticket ≠ e.ticket → x ∈ (s.modEntry e.ticket f).entries := fun x hx hne =>
    List.mem_map.mpr ⟨x, hx, if_neg hne⟩
  have hmap : ∀ {β : Type} (k : Entry → β), k (f e) = k e → (s.modEntry e.ticket f).entries.map k = s.entries.map k :=
    fun k hk => by
      rw [State.modEntry, List.map_map]
      refine List.map_congr_left fun x hx => ?_
      simp only [Function.comp_apply]
      split
      next hxe => exact huniq x hx hxe ▸ hk
      · rfl
  refine { h with sorted := ?_, queued := ?_, coupled := ?_, apart := ?_, recorded := ?_, evaluating := ?_, moves := ?_,
                  carries := ?_, reserved := ?_ }
  · exact (hmap _ hticket).symm ▸ h.sorted
  · refine hall (fun hh => ?_) fun x hx _ => h.queued x hx
    rw [hheld] at hh
    cases hh
  · exact hall (fun hx => hprog ▸ h.coupled e he (hcoupled ▸ hx)) fun x hx _ => h.coupled x hx
  · exact (hmap _ happ).symm ▸ h.apart
  · refine hall ?_ fun x hx _ => h.recorded x hx
    rw [hticket, happ]
    exact h.recorded e he
  · intro t ht
    obtain ⟨x, hx, hxt, hst⟩ := h.evaluating t ht
    exact ⟨x, hstay x hx fun hxe => heval (ht.trans (by rw [← hxt, hxe])), hxt, hst⟩
  · refine hall (fun _ t k hp => ?_) fun x hx _ => h.moves x hx
    rw [hticket, howner]
    exact h.moves e he (fun hset => by rw [hset] at hwaits; cases hwaits) t k (hprog ▸ hp)
  · intro g hg hcarry
    refine (h.carries g hg hcarry).imp_right fun ⟨x, hx, hm, hrest⟩ => ⟨x, hstay x hx fun hxe => ?_, hm, hrest⟩
    rw [hc g hg (hxe ▸ hm)] at hcarry
    cases hcarry
  · obtain ⟨l1, l2, hl, hsplit⟩ := map_if_split Entry.ticket h.distinct he
    have hres := h.reserved
    have hnew : (s.modEntry e.ticket f).entries = l1 ++ f e :: l2 := hsplit f
    unfold State.reservationLaw at hres ⊢
    rw [State.entryReservations_eq, hl, List.filter_append, List.filter_cons_of_neg (by simp [hwaits]), List.map_append,
      List.append_assoc] at hres hr
    rw [State.entryReservations_eq, hnew, List.filter_append, List.filter_cons_of_pos (by simp [hheld]), List.map_append,
      List.append_assoc, List.map_cons, List.cons_append]
    exact pairwise_insert_middle hres hr

end Sys2Proof.Machine
end

section
/-! The laws of the movements under the tasks of an event: what a task needs, and what each task leaves of what the others
need. -/

namespace Sys2Proof.Machine

/-! ### What a task needs -/

/-- No entry of programme `pt` is one that the programme waits for. -/
def State.Freed (s : State) (pt : Nat) : Prop := ∀ e ∈ s.entries, e.state ≠ .settling → ∀ k, e.programme ≠ some (pt, k)

/-- An entry with ticket `t` waits for a release, and is not the one evaluated. -/
def State.Waits (s : State) (t : Nat) : Prop :=
  (∀ e ∈ s.entries, e.ticket = t → e.state.held = false) ∧ s.evaluation.map Evaluation.ticket ≠ some t

/-- A reservation in conflict with none that is held (R83, R88). -/
def State.Open (s : State) (r : Reservation) : Prop :=
  ∀ y ∈ s.entryReservations ++ s.carryReservations none, r.conflicts y = false

/-- What a task further down the list needs; the other tasks before it leave it so. -/
def Task.Steady (s : State) : Task → Prop
  | .retire t o => o = .completed → ∃ e ∈ s.entries, e.ticket = t ∧ e.state = .settling
  | .stop pt _ => (∀ g ∈ s.programmes, g.ticket = pt → (s.port g.owner).state = .lost) ∧ s.Freed pt
  | .enqueue t => s.Waits t
  | .inform .. | .start _ | .startCoupled _ => False
  | _ => True

/-- What a task needs when it is taken. -/
def Task.Ready (s : State) : Task → Prop
  | .stop pt _ => s.Freed pt
  | .inform _ t o r => (∀ e ∈ s.entries, e.ticket ≠ t) ∧ (o = .completed → s.Open r)
  | .start pt => ∀ g ∈ s.programmes, g.ticket = pt →
      g.movement = none ∧ g.carry = none ∧ (s.port g.owner).state ≠ .lost
  | .startCoupled pt => ∀ g ∈ s.programmes, g.ticket = pt →
      g.movement = none ∧ (∀ st, g.step = some st → st.coupled = true) ∧ (s.port g.owner).state ≠ .lost
  | u => u.Steady s

/-- A task that leaves what the laws read: a judgement or an INSPECT of an apparatus without a RELEASED entry. -/
def Task.Quiet (s : State) : Task → Prop
  | .judge a _ _ | .inspect a => ∀ e ∈ s.entries, e.apparatus = a → e.state ≠ .released
  | _ => False

/-- A task that leaves every held entry in the table. -/
def Task.Gentle (s : State) : Task → Prop
  | .retire t _ => ∀ e ∈ s.entries, e.ticket = t → e.state.held = false
  | .judge .. | .inspect _ | .blockEnd _ => False
  | _ => True

/-- The retirement that a task brings about completes no entry. -/
def Task.Light (s : State) : Task → Prop
  | .retire t o => o ≠ .completed ∧ ∀ e ∈ s.entries, e.ticket = t → e.state ≠ .settling
  | _ => True

/-- The ticket that a task retires. -/
def Task.retires : Task → Option Nat
  | .retire t _ => some t
  | _ => none

/-- No entry is retired before it completes. -/
def Task.Before (u v : Task) : Prop := ∀ t, u.retires = some t → v ≠ .retire t .completed

theorem Task.Steady.ready {s : State} {u : Task} (h : u.Steady s) : u.Ready s := by
  cases u with
  | stop => exact h.2
  | inform => exact h.elim
  | start => exact h.elim
  | startCoupled => exact h.elim
  | _ => exact h

/-- A list of tasks of which each has what it needs when its turn comes. -/
inductive State.Chain (s : State) : List Task → Prop
  | steady {l : List Task} (h : ∀ u ∈ l, u.Steady s) : s.Chain l
  | ready {u : Task} {l : List Task} (h : u.Ready s) (hl : ∀ v ∈ l, v.Steady s) : s.Chain (u :: l)
  | quiet {u : Task} {l : List Task} (h : u.Quiet s) (hl : s.Chain l) : s.Chain (u :: l)

theorem State.Chain.append {s : State} {l m : List Task} (h : s.Chain l) (hm : ∀ v ∈ m, v.Steady s) : s.Chain (l ++ m) := by
  induction h with
  | steady h => exact .steady fun u hu => (List.mem_append.mp hu).elim (h u) (hm u)
  | ready h hl => exact .ready h fun v hv => (List.mem_append.mp hv).elim (hl v) (hm v)
  | quiet h _ ih => exact .quiet h ih

theorem State.Chain.single {s : State} {u : Task} (h : u.Ready s) : s.Chain [u] := .ready h fun _ hv => (nomatch hv)

theorem State.Chain.nil (s : State) : s.Chain [] := .steady fun _ hu => (nomatch hu)

/-! ### What a task leaves -/

/-- Entry `x` comes of an entry of `s` that waited for a release, or was made for a programme whose owner port is not LOST. -/
def State.Descends (s : State) (x : Entry) : Prop :=
  (∃ e ∈ s.entries, e.ticket = x.ticket ∧ e.state.held = false ∧ e.programme = x.programme ∧ e.owner = x.owner) ∨
  ∃ pt k, x.programme = some (pt, k) ∧
    ∃ g ∈ s.programmes, g.ticket = pt ∧ g.owner = x.owner ∧ (s.port g.owner).state ≠ .lost

/-- `t` follows on `s` by a task that retires the entry with ticket `out`, if any. -/
structure State.Follows (s : State) (out : Option Nat) (t : State) : Prop where
  evaluation : ∀ n, t.evaluation.map Evaluation.ticket = some n → s.evaluation.map Evaluation.ticket = some n
  programmes : ∀ g ∈ t.programmes, ∃ x ∈ s.programmes, x.ticket = g.ticket ∧ x.owner = g.owner
  entries : ∀ x ∈ t.entries, x ∈ s.entries ∨
    (x.state.held = false ∧ t.evaluation.map Evaluation.ticket ≠ some x.ticket ∧ s.Descends x)
  held : ∀ e ∈ s.entries, e.state.held = true → out ≠ some e.ticket → e ∈ t.entries

theorem State.Follows.of_view {s t : State} (h : t.view = s.view) (out : Option Nat) : s.Follows out t := by
  obtain ⟨hentries, hprog, -, -, heval, -, -⟩ := State.view_eq.mp h
  exact ⟨fun _ hn => heval ▸ hn, fun g hg => ⟨g, hprog ▸ hg, rfl, rfl⟩, fun x hx => .inl (hentries ▸ hx),
    fun e he _ _ => hentries ▸ he⟩

theorem State.Within.portState {s t : State} (h : s.Within t) (p : Nat) : (t.port p).state = (s.port p).state := by
  have e := congrArg Port.state (h.port p)
  exact e

theorem Task.Steady.follows {s t : State} {u : Task} {out : Option Nat} (h : u.Steady s) (hf : s.Follows out t)
    (hp : ∀ p, (t.port p).state = (s.port p).state) (hout : ∀ n, out = some n → u ≠ .retire n .completed) : u.Steady t := by
  cases u with
  | retire n o =>
    rintro rfl
    obtain ⟨e, he, rfl, hst⟩ := h rfl
    exact ⟨e, hf.held e he (by rw [hst]; rfl) fun ho => hout _ ho rfl, rfl, hst⟩
  | stop pt r =>
    refine ⟨fun g hg ht => ?_, fun x hx hst k hk => ?_⟩
    · obtain ⟨y, hy, hyt, hyo⟩ := hf.programmes g hg
      rw [hp, ← hyo]
      exact h.1 y hy (hyt.trans ht)
    · rcases hf.entries x hx with hx | ⟨_, _, ⟨e, he, _, hh, hprog, _⟩ | ⟨pt', k', hpk, g, hg, hgt, _, hlost⟩⟩
      · exact h.2 x hx hst k hk
      · exact h.2 e he (fun hset => by rw [hset] at hh; cases hh) k (hprog.trans hk)
      · rw [hk] at hpk
        cases hpk
        exact hlost (h.1 g hg hgt)
  | enqueue n =>
    refine ⟨fun x hx hxt => ?_, fun hn => h.2 (hf.evaluation n hn)⟩
    rcases hf.entries x hx with hx | ⟨hh, _⟩
    · exact h.1 x hx hxt
    · exact hh
  | inform => exact h.elim
  | start => exact h.elim
  | startCoupled => exact h.elim
  | _ => trivial

theorem Task.Gentle.follows {s t : State} {u : Task} {out : Option Nat} (h : u.Gentle s) (hf : s.Follows out t) : u.Gentle t := by
  cases u with
  | retire n o =>
    intro x hx hxt
    rcases hf.entries x hx with hx | ⟨hh, _⟩
    · exact h x hx hxt
    · exact hh
  | judge => exact h
  | inspect => exact h
  | blockEnd => exact h
  | _ => trivial

/-- What is true of a task before one that leaves what the laws read, and the ports' states, is true after it. -/
theorem Task.Steady.of_view {s t : State} {u : Task} (h : u.Steady s) (hv : t.view = s.view)
    (hp : ∀ p, (t.port p).state = (s.port p).state) : u.Steady t :=
  h.follows (State.Follows.of_view hv none) hp fun _ hn => (nomatch hn)

theorem State.Open.of_view {s t : State} {r : Reservation} (h : s.Open r) (hv : t.view = s.view) : t.Open r := by
  obtain ⟨hentries, hprog, -⟩ := State.view_eq.mp hv
  unfold State.Open State.entryReservations State.carryReservations at h ⊢
  rwa [hentries, hprog]

theorem Task.Ready.of_view {s t : State} {u : Task} (h : u.Ready s) (hv : t.view = s.view)
    (hp : ∀ p, (t.port p).state = (s.port p).state) : u.Ready t := by
  obtain ⟨hentries, hprog, -⟩ := State.view_eq.mp hv
  cases u with
  | stop pt =>
    unfold Task.Ready State.Freed at h ⊢
    rwa [hentries]
  | inform p n o r => exact ⟨hentries ▸ h.1, fun ho => (h.2 ho).of_view hv⟩
  | start p =>
    simp only [Task.Ready, hprog, hp] at h ⊢
    exact h
  | startCoupled p =>
    simp only [Task.Ready, hprog, hp] at h ⊢
    exact h
  | retire n o => exact Task.Steady.of_view (u := .retire n o) h hv hp
  | enqueue n => exact Task.Steady.of_view (u := .enqueue n) h hv hp
  | _ => trivial

theorem Task.Quiet.of_view {s t : State} {u : Task} (h : u.Quiet s) (hv : t.view = s.view) : u.Quiet t := by
  obtain ⟨hentries, -⟩ := State.view_eq.mp hv
  cases u with
  | judge a =>
    unfold Task.Quiet at h ⊢
    rwa [hentries]
  | inspect a =>
    unfold Task.Quiet at h ⊢
    rwa [hentries]
  | _ => exact h

theorem State.Chain.of_view {s t : State} {l : List Task} (h : s.Chain l) (hv : t.view = s.view)
    (hp : ∀ p, (t.port p).state = (s.port p).state) : t.Chain l := by
  induction h with
  | steady h => exact .steady fun u hu => (h u hu).of_view hv hp
  | ready h hl => exact .ready (h.of_view hv hp) fun v hv' => (hl v hv').of_view hv hp
  | quiet h _ ih => exact .quiet (h.of_view hv) ih

end Sys2Proof.Machine
end

section
/-! The laws of the movements under each task of an event. -/

namespace Sys2Proof.Machine

/-! ### The laws kept update by update, on which the others build -/

theorem Upheld.and {P Q : State → Prop} (h : Upheld P) (k : Upheld Q) : Upheld (fun s => P s ∧ Q s) where
  other hs ht := ⟨h.other hs.1 ht, k.other hs.2 ht⟩
  port p _ hs hf := ⟨h.port p hs.1 hf, k.port p hs.2 hf⟩
  edit t _ hs hf := ⟨h.edit t hs.1 hf, k.edit t hs.2 hf⟩
  entryOut t hs := ⟨h.entryOut t hs.1, k.entryOut t hs.2⟩
  entryIn e hs hl hq hm := ⟨h.entryIn e hs.1 hl hq hm, k.entryIn e hs.2 hl hq hm⟩
  programmeOut t hs := ⟨h.programmeOut t hs.1, k.programmeOut t hs.2⟩
  programmeEdit t f hs := ⟨h.programmeEdit t f hs.1, k.programmeEdit t f hs.2⟩
  programmeIn g hs hl hm := ⟨h.programmeIn g hs.1 hl hm, k.programmeIn g hs.2 hl hm⟩
  ended l hs hl := ⟨h.ended l hs.1 hl, k.ended l hs.2 hl⟩
  heldEdit i f hs := ⟨h.heldEdit i f hs.1, k.heldEdit i f hs.2⟩
  heldOut hs := ⟨h.heldOut hs.1, k.heldOut hs.2⟩
  heldIn i c hs hl hn := ⟨h.heldIn i c hs.1 hl hn, k.heldIn i c hs.2 hl hn⟩
  heldClear hs := ⟨h.heldClear hs.1, k.heldClear hs.2⟩
  mode m hs hr hf hi := ⟨h.mode m hs.1 hr hf hi, k.mode m hs.2 hr hf hi⟩
  store y hs hm hl hp ha := ⟨h.store y hs.1 hm hl hp ha, k.store y hs.2 hm hl hp ha⟩
  force l hs hm hl := ⟨h.force l hs.1 hm hl, k.force l hs.2 hm hl⟩
  leave p l hs hm hl := ⟨h.leave p l hs.1 hm hl, k.leave p l hs.2 hm hl⟩
  reset c hs := ⟨h.reset c hs.1, k.reset c hs.2⟩

/-- The laws that each update keeps: the idle modes, the places of the tables, the records. -/
def State.Ground (s : State) : Prop := s.idleLaw ∧ s.tableLaw ∧ s.recordLaw

theorem State.ground_kept : Upheld State.Ground := State.idleLaw_kept.and (State.tableLaw_kept.and State.recordLaw_kept)

theorem State.ground_release : ReleaseKept State.Ground := fun t reach now w hs =>
  ⟨State.idleLaw_release t reach now w hs.1, State.tableLaw_release t reach now w hs.2.1, hs.2.2⟩

theorem State.ground_tick {s : State} (hs : s.Ground) : s.tick.Ground :=
  ⟨State.idleLaw_tick hs.1, State.tableLaw_tick hs.2.1, State.recordLaw_tick hs.2.2⟩

/-- R3: out of RESTARTING, a described apparatus has its record. -/
theorem State.Ground.record {s : State} (h : s.Ground) (hm : s.mode ≠ .restarting) {a : Nat} (ha : (s.appDesc a).isSome = true) :
    (s.app a).isSome = true := by
  obtain ⟨d, hd⟩ := Option.isSome_iff_exists.mp ha
  have hn : d.number = a := by simpa using List.find?_some hd
  have hr := h.2.2 d
  rw [if_neg hm] at hr
  exact hn ▸ hr (State.appDesc_mem hd)

/-! ### What one task comes to -/

/-- A task, taken whole in state `s`, leaves the laws, and leaves the tasks it brings about what they need. -/
structure State.Proceeds (s : State) (u : Task) (r : State × List Task) : Prop where
  core : r.1.Core
  follows : s.Follows u.retires r.1
  chain : r.1.Chain r.2
  light : ∀ v ∈ r.2, v.Light r.1
  gentle : u.Gentle s → ∀ v ∈ r.2, v.Gentle r.1

/-- A task that brings about no retirement and is no trouble to those that follow. -/
def Task.Plain : Task → Prop
  | .reoffer | .testFrozen | .requeue _ | .retry _ => True
  | _ => False

theorem Task.Plain.light {s : State} {u : Task} (h : u.Plain) : u.Light s := by cases u <;> trivial
theorem Task.Plain.gentle {s : State} {u : Task} (h : u.Plain) : u.Gentle s := by cases u <;> trivial
theorem Task.Plain.steady {s : State} {u : Task} (h : u.Plain) : u.Steady s := by
  cases u <;> trivial

/-- A task that leaves what the laws read and brings about plain tasks. -/
theorem State.Core.proceeds_plain {s t : State} (h : s.Core) (hv : t.view = s.view) {l : List Task} (hl : ∀ v ∈ l, v.Plain)
    (u : Task) : s.Proceeds u (t, l) where
  core := h.of_view hv
  follows := State.Follows.of_view hv _
  chain := .steady fun v hv => (hl v hv).steady
  light := fun v hv => (hl v hv).light
  gentle := fun _ v hv => (hl v hv).gentle

theorem State.Core.proceeds_none {s : State} (h : s.Core) (u : Task) : s.Proceeds u (s, []) :=
  h.proceeds_plain (l := []) rfl (fun _ hv => (nomatch hv)) u

/-! ### Retirement -/

theorem State.settlingJudgement_cases (s : State) (e : Entry) : s.settlingJudgement e = [] ∨
    (e.state = .settling ∧ ∃ x y, s.settlingJudgement e = [.judge e.apparatus x y]) := by
  unfold State.settlingJudgement
  split
  next hst =>
    split
    · split
      · exact .inl rfl
      · exact .inr ⟨hst, _, _, rfl⟩
    · exact .inl rfl
  · exact .inl rfl

theorem Entry.informs_cases (e : Entry) (o : MoveOutcome) : e.informs o = [] ∨
    ∃ pt, e.informs o = [.inform pt e.ticket o e.reservation] := by
  unfold Entry.informs
  split
  · exact .inr ⟨_, rfl⟩
  · exact .inl rfl

theorem State.without_programmes {s : State} {e : Entry} {o : MoveOutcome} :
    ∀ g ∈ (s.without e o).programmes, ∃ x ∈ s.programmes, x.ticket = g.ticket ∧ x.owner = g.owner := by
  have hsame : ∀ g ∈ s.programmes, ∃ x ∈ s.programmes, x.ticket = g.ticket ∧ x.owner = g.owner := fun g hg => ⟨g, hg, rfl, rfl⟩
  unfold State.without
  split
  · exact hsame
  · rcases s.dropCarry_cases e with ⟨hd, _⟩ | ⟨pt, k, _, hd⟩ <;> rw [hd]
    · exact hsame
    · intro g hg
      obtain ⟨x, hx, rfl⟩ := List.mem_map.mp hg
      exact ⟨x, hx, by split <;> rfl, by split <;> rfl⟩

theorem State.takeOut_evaluation {s : State} {e : Entry} {o : MoveOutcome} {n : Nat}
    (h : (s.takeOut e o).evaluation.map Evaluation.ticket = some n) : s.evaluation.map Evaluation.ticket = some n := by
  have h' : (match s.evaluation with
      | some v => if v.ticket = e.ticket then none else some v
      | none => none).map Evaluation.ticket = some n := h
  split at h'
  next v hv =>
    split at h'
    · cases h'
    · exact hv ▸ h'
  · cases h'

theorem State.without_evaluation {s : State} {e : Entry} {o : MoveOutcome} {n : Nat}
    (h : (s.without e o).evaluation.map Evaluation.ticket = some n) : s.evaluation.map Evaluation.ticket = some n := by
  unfold State.without at h
  split at h
  · exact State.takeOut_evaluation h
  · have h' := State.takeOut_evaluation h
    rcases s.dropCarry_cases e with ⟨hd, _⟩ | ⟨_, _, _, hd⟩ <;> rw [hd] at h' <;> exact h'

theorem State.mem_without {s : State} {e x : Entry} {o : MoveOutcome} :
    x ∈ (s.without e o).entries ↔ x ∈ s.entries ∧ x.ticket ≠ e.ticket := by
  rw [State.without_entries]
  exact List.mem_filter.trans (and_congr_right fun _ => decide_eq_true_iff)

/-- R88: the reservation of a held entry that leaves the table is free. -/
theorem State.Core.open_without {s : State} (h : s.Core) {e : Entry} (he : e ∈ s.entries) (hh : e.state.held = true)
    (o : MoveOutcome) : (s.without e o).Open e.reservation := by
  have hcarry : (s.without e o).carryReservations none = s.carryReservations none := by
    unfold State.without
    rw [if_pos hh]
    rfl
  intro y hy
  rw [hcarry, State.entryReservations_eq, List.mem_append, List.mem_map] at hy
  obtain ⟨l1, l2, hl⟩ := List.append_of_mem he
  have hres := h.reserved
  unfold State.reservationLaw at hres
  rw [State.entryReservations_eq, hl, List.filter_append, List.filter_cons_of_pos (by simpa using hh), List.map_append,
    List.map_cons, List.append_assoc, List.cons_append,
    List.perm_middle.pairwise_iff fun {x y} hxy => (Reservation.conflicts_comm y x).trans hxy] at hres
  refine (List.pairwise_cons.mp hres).1 y ?_
  simp only [List.mem_append, List.mem_map, List.mem_filter]
  rcases hy with ⟨x, hx, rfl⟩ | hy
  · obtain ⟨hx, hxh⟩ := List.mem_filter.mp hx
    obtain ⟨hx, hne⟩ := State.mem_without.mp hx
    rw [hl, List.mem_append, List.mem_cons] at hx
    rcases hx with hx | rfl | hx
    · exact .inl ⟨x, ⟨hx, hxh⟩, rfl⟩
    · exact absurd rfl hne
    · exact .inr (.inl ⟨x, ⟨hx, hxh⟩, rfl⟩)
  · exact .inr (.inr hy)

theorem State.Follows.view_right {s t u : State} {out : Option Nat} (h : s.Follows out t) (hv : u.view = t.view) :
    s.Follows out u := by
  obtain ⟨hentries, hprog, -, -, heval, -, -⟩ := State.view_eq.mp hv
  obtain ⟨h1, h2, h3, h4⟩ := h
  exact ⟨heval ▸ h1, hprog ▸ h2, by rwa [hentries, heval], hentries ▸ h4⟩

/-- R117: the tasks that follow the retirement of an entry of `s` are ready in a state that has what the retirement leaves. -/
theorem State.Core.retired_chain {s t w : State} (h : s.Core) {e : Entry} (he : e ∈ s.entries) {o : MoveOutcome}
    (ho : o = .completed → e.state = .settling) (hv : t.view = (s.without e o).view) {rest : List Task}
    (hrest : ∀ u ∈ rest, u = .reoffer ∨ u = .testFrozen) : t.Chain (w.settlingJudgement e ++ e.informs o ++ rest) := by
  have hentries : t.entries = (s.without e o).entries := (State.view_eq.mp hv).1
  have hinform : t.Chain (e.informs o) := by
    rcases Entry.informs_cases e o with hi | ⟨pt, hi⟩ <;> rw [hi]
    · exact .nil t
    · refine .single ⟨fun x hx => (State.mem_without.mp (hentries ▸ hx)).2, fun hc => ?_⟩
      exact (h.open_without he (by rw [ho hc]; rfl) o).of_view hv
  refine State.Chain.append ?_ fun v hv => ?_
  · rcases w.settlingJudgement_cases e with hj | ⟨_, x, y, hj⟩ <;> rw [hj]
    · exact hinform
    · refine .quiet (fun z hz hza => ?_) hinform
      obtain ⟨hz, hne⟩ := State.mem_without.mp (hentries ▸ hz)
      exact absurd (List.inj_on_of_nodup_map h.apart hz he hza ▸ rfl) hne
  · rcases hrest v hv with rfl | rfl <;> trivial

theorem State.Core.retire {s : State} (h : s.Core) {t : Nat} {o : MoveOutcome} (hu : (Task.retire t o).Steady s) :
    s.Proceeds (.retire t o) (s.retire t o) := by
  cases hentry : s.entry t with
  | none =>
    rw [State.retire_none hentry]
    exact h.proceeds_none _
  | some e =>
    obtain ⟨he, rfl⟩ := State.entry_mem hentry
    obtain ⟨rest, hrest, heq⟩ := State.retire_eq hentry o
    have hsettling : o = .completed → e.state = .settling := fun ho => by
      obtain ⟨x, hx, hxt, hst⟩ := hu ho
      exact List.inj_on_of_nodup_map h.distinct hx he hxt ▸ hst
    have hplain : ∀ u ∈ rest, u.Plain := fun u hu => by rcases hrest u hu with rfl | rfl <;> trivial
    have hv := State.view_notify (s.without e o) e.owner (.movementEnded e.ticket o e.operatingTime)
    rw [heq]
    refine ⟨(h.without he o).of_view hv, State.Follows.view_right ?_ hv, h.retired_chain he hsettling hv hrest, ?_, ?_⟩
    · exact ⟨fun n => State.without_evaluation, State.without_programmes, fun x hx => .inl (State.mem_without.mp hx).1,
        fun x hx _ hne => State.mem_without.mpr ⟨hx, fun hxe => hne (congrArg some hxe.symm)⟩⟩
    · refine List.forall_mem_append.mpr ⟨List.forall_mem_append.mpr ⟨?_, ?_⟩, fun v hv => (hplain v hv).light⟩
      · rcases s.settlingJudgement_cases e with hj | ⟨_, x, y, hj⟩ <;> rw [hj] <;> simp [Task.Light]
      · rcases Entry.informs_cases e o with hi | ⟨pt, hi⟩ <;> rw [hi] <;> simp [Task.Light]
    · intro hg
      refine List.forall_mem_append.mpr ⟨List.forall_mem_append.mpr ⟨?_, ?_⟩, fun v hv => (hplain v hv).gentle⟩
      · rcases s.settlingJudgement_cases e with hj | ⟨hst, _⟩
        · simp [hj]
        · have hwaits := hg e he rfl
          rw [hst] at hwaits
          cases hwaits
      · rcases Entry.informs_cases e o with hi | ⟨pt, hi⟩ <;> rw [hi] <;> simp [Task.Gentle]

end Sys2Proof.Machine
end

section
/-! The laws of the movements under each task of an event: waiting entries and programmes. -/

namespace Sys2Proof.Machine

/-- Entry `x` is entry `e` in a state in which it waits. -/
structure Entry.StillWaits (e x : Entry) : Prop where
  ticket : x.ticket = e.ticket
  owner : x.owner = e.owner
  apparatus : x.apparatus = e.apparatus
  programme : x.programme = e.programme
  coupled : x.coupled = e.coupled
  held : x.state.held = false

/-- State `t` has the laws, and the held entries of `s` as they were. -/
structure State.Spares (s t : State) : Prop where
  core : t.Core
  held : ∀ e ∈ s.entries, e.state.held = true → e ∈ t.entries

theorem State.Spares.trans {s t u : State} (h : s.Spares t) (k : t.Spares u) : s.Spares u :=
  ⟨k.core, fun e he hh => k.held e (h.held e he hh) hh⟩

theorem State.Core.spares {s : State} (h : s.Core) : s.Spares s := ⟨h, fun _ he _ => he⟩

/-! ### Judgements, INSPECTs and revocations -/

section
variable {s : State} (h : s.Core)
include h

/-- A task that leaves what the laws read. -/
theorem State.Core.proceeds_view {u : Task} {r : State × List Task} (hv : r.1.view = s.view) (hc : r.1.Chain r.2)
    (hl : ∀ v ∈ r.2, v.Light r.1) (hg : u.Gentle s → ∀ v ∈ r.2, v.Gentle r.1) : s.Proceeds u r :=
  ⟨h.of_view hv, State.Follows.of_view hv _, hc, hl, hg⟩

theorem State.Core.judge (a : Nat) (x y : Pos) : s.Proceeds (.judge a x y) (s.judge a x y) := by
  have htasks : (s.judge a x y).2 = [] ∨ (s.judge a x y).2 = [.inspect a] := by
    unfold State.judge
    split
    · exact .inl rfl
    · split_ifs <;> simp
  refine h.proceeds_view (s.view_judge a x y) ?_ ?_ fun hg => hg.elim
  · rcases htasks with ht | ht <;> rw [ht]
    · exact .nil _
    · exact .single trivial
  · rcases htasks with ht | ht <;> rw [ht] <;> simp [Task.Light]

theorem State.Core.inspect (a : Nat) : s.Proceeds (.inspect a) (s.inspect a) := by
  have htasks : ∀ v ∈ (s.inspect a).2, ∃ t, v = .blockEnd t := by
    unfold State.inspect
    dsimp only
    split
    · intro v hv
      obtain ⟨t, _, rfl⟩ := List.mem_map.mp hv
      exact ⟨t, rfl⟩
    · exact fun _ hv => (nomatch hv)
  refine h.proceeds_view (s.view_placeInspect a) (.steady fun v hv => ?_) (fun v hv => ?_) fun hg => hg.elim
  · obtain ⟨t, rfl⟩ := htasks v hv
    trivial
  · obtain ⟨t, rfl⟩ := htasks v hv
    trivial

theorem State.Core.blockEnd (t : Nat) : s.Proceeds (.blockEnd t) (s.blockEnd t) := by
  cases he : s.entry t with
  | none =>
    simp only [State.blockEnd, he]
    exact h.proceeds_none _
  | some e =>
    by_cases hst : e.state = .released
    · simp only [State.blockEnd, he, hst, if_true]
      have hentries := (State.view_eq.mp (s.view_sendRevoke e)).1
      refine h.proceeds_view (s.view_sendRevoke e) (.single fun ho => (nomatch ho)) ?_ fun hg => hg.elim
      refine List.forall_mem_singleton.mpr ⟨fun ho => (nomatch ho), fun x hx hxt => ?_⟩
      obtain ⟨hmem, het⟩ := State.entry_mem he
      rw [List.inj_on_of_nodup_map h.distinct (hentries ▸ hx) hmem (hxt.trans het.symm), hst]
      exact fun hs => (nomatch hs)
    · simp only [State.blockEnd, he, hst, if_false]
      exact h.proceeds_none _

/-! ### Becoming QUEUED -/

/-- An entry that waits changes, and waits still. -/
theorem State.Core.editWaiting {t : Nat} (hw : s.Waits t) (f : Entry → Entry)
    (hf : ∀ e ∈ s.entries, e.ticket = t → e.StillWaits (f e)) :
    s.Spares (s.modEntry t f) ∧ (s.modEntry t f).Waits t := by
  refine ⟨⟨h.modEntry t f fun e he het => ?_, ?_⟩, fun x hx hxt => ?_, hw.2⟩
  · obtain ⟨hticket, howner, happ, hprog, hcoupled, hheld⟩ := hf e he het
    have hwaits := hw.1 e he het
    refine ⟨hticket, howner, happ, hprog, hcoupled, fun hh => ?_, fun _ _ => .inl hwaits, fun hset => ?_,
      fun _ => .inr (het ▸ hw.2)⟩
    · rw [hheld] at hh
      cases hh
    · rw [hset] at hwaits
      cases hwaits
  · intro e he hh
    refine List.mem_map.mpr ⟨e, he, if_neg fun het => ?_⟩
    rw [hw.1 e he het] at hh
    cases hh
  · obtain ⟨e, he, ⟨het, rfl⟩ | ⟨_, rfl⟩⟩ := mem_modEntry hx
    · exact (hf e he het).held
    · exact hw.1 _ he hxt

omit h in
theorem State.follows_waiting {t : Nat} (hw : s.Waits t) (f : Entry → Entry)
    (hf : ∀ e ∈ s.entries, e.ticket = t → e.StillWaits (f e)) (out : Option Nat) : s.Follows out (s.modEntry t f) := by
  refine ⟨fun _ hn => hn, fun g hg => ⟨g, hg, rfl, rfl⟩, fun x hx => ?_, fun e he hh _ => ?_⟩
  · obtain ⟨e, he, ⟨het, rfl⟩ | ⟨_, rfl⟩⟩ := mem_modEntry hx
    · obtain ⟨hticket, howner, _, hprog, _, hheld⟩ := hf e he het
      exact .inr ⟨hheld, by rw [hticket, het]; exact hw.2, .inl ⟨e, he, hticket.symm, hw.1 e he het, hprog.symm, howner.symm⟩⟩
    · exact .inl he
  · refine List.mem_map.mpr ⟨e, he, if_neg fun het => ?_⟩
    rw [hw.1 e he het] at hh
    cases hh

theorem State.Core.enqueue {t : Nat} (hw : s.Waits t) : s.Proceeds (.enqueue t) (s.enqueue t) := by
  have hedit : ∀ st : EntryState, st.held = false →
      s.Proceeds (.enqueue t) (s.modEntry t (fun x => { x with state := st }), []) := fun st hst => by
    have hstill : ∀ e ∈ s.entries, e.ticket = t → e.StillWaits { e with state := st } := fun _ _ _ =>
      ⟨rfl, rfl, rfl, rfl, rfl, hst⟩
    exact ⟨(h.editWaiting hw (fun x => { x with state := st }) hstill).1.core,
      State.follows_waiting hw (fun x => { x with state := st }) hstill _, .nil _, fun _ hv => (nomatch hv),
      fun _ _ hv => (nomatch hv)⟩
  unfold State.enqueue
  split
  · exact h.proceeds_none _
  · split_ifs
    · refine h.proceeds_view rfl (.single fun ho => (nomatch ho)) ?_ fun _ => List.forall_mem_singleton.mpr hw.1
      refine List.forall_mem_singleton.mpr ⟨fun ho => (nomatch ho), fun x hx hxt hst => ?_⟩
      have hwaits := hw.1 x hx hxt
      rw [hst] at hwaits
      cases hwaits
    · exact hedit _ rfl
    · exact hedit _ rfl

theorem State.Core.waits_of_state {e : Entry} (he : e ∈ s.entries) (hh : e.state.held = false) (hev : e.state ≠ .evaluating) :
    s.Waits e.ticket := by
  have huniq : ∀ x ∈ s.entries, x.ticket = e.ticket → x = e := fun x hx hxe => List.inj_on_of_nodup_map h.distinct hx he hxe
  refine ⟨fun x hx hxe => huniq x hx hxe ▸ hh, fun hv => ?_⟩
  obtain ⟨x, hx, hxe, hst⟩ := h.evaluating _ hv
  exact hev (huniq x hx hxe ▸ hst)

theorem State.Core.requeue (t : Nat) : s.Proceeds (.requeue t) (s.requeue t) := by
  unfold State.requeue
  split
  next e hentry =>
    obtain ⟨he, rfl⟩ := State.entry_mem hentry
    split
    next hst =>
      obtain ⟨hcore, hfollows, hchain, hlight, hgentle⟩ :=
        h.enqueue (h.waits_of_state he (by rw [hst]; rfl) (by rw [hst]; exact fun hx => (nomatch hx)))
      exact ⟨hcore, hfollows, hchain, hlight, fun _ => hgentle trivial⟩
    · exact h.proceeds_none _
  · exact h.proceeds_none _

/-! ### Re-offers and retries -/

theorem State.Core.reoffer : s.Proceeds .reoffer s.reoffer := by
  have hv : s.reoffer.1.view = s.view := State.view_eq.mpr ⟨rfl, rfl, rfl, rfl, by
    unfold State.reoffer
    cases s.evaluation <;> rfl, rfl, rfl⟩
  refine h.proceeds_plain (t := s.reoffer.1) (l := s.reoffer.2) hv (fun v hv => ?_) _
  · rcases List.mem_append.mp hv with hv | hv <;> obtain ⟨t, _, rfl⟩ := List.mem_map.mp hv <;> trivial

theorem State.Core.retry (pt : Nat) : s.Proceeds (.retry pt) (s.retry pt) := by
  unfold State.retry
  split
  next g hprog =>
    obtain ⟨hg, rfl⟩ := State.programme_mem hprog
    split
    next hw =>
      obtain ⟨hwaiting, hlost⟩ := hw
      refine h.proceeds_view rfl (.single fun x hx hxg => ?_) (by simp [Task.Light]) fun _ => by simp [Task.Gentle]
      obtain rfl := List.inj_on_of_nodup_map h.named hx hg hxg
      have hmove := (h.waits x hg).2 hwaiting
      refine ⟨hmove, ?_, hlost⟩
      by_contra hc
      rcases h.carries x hg (Option.isSome_iff_ne_none.mpr hc) with ⟨_, hn⟩ | ⟨e, _, hm, _⟩
      · exact hn hwaiting
      · rw [hmove] at hm
        cases hm
    · exact h.proceeds_none _
  · exact h.proceeds_none _

/-! ### The end of a programme -/

theorem State.Core.endsProgramme {g : Programme} (hfreed : s.Freed g.ticket) (r : Option StopReason) (u : Task) :
    s.Proceeds u (s.endProgramme g r) := by
  have htasks : (s.endProgramme g r).2 = [] ∨ (s.endProgramme g r).2 = [.reoffer] := by
    unfold State.endProgramme
    dsimp only
    split <;> simp
  have hplain : ∀ v ∈ (s.endProgramme g r).2, v.Plain := by
    rcases htasks with ht | ht <;> rw [ht] <;> simp [Task.Plain]
  refine ⟨h.endProgramme g r hfreed, State.Follows.view_right ?_ (State.view_notify _ _ _),
    .steady fun v hv => (hplain v hv).steady, fun v hv => (hplain v hv).light, fun _ v hv => (hplain v hv).gentle⟩
  exact ⟨fun _ hn => hn, fun x hx => ⟨x, List.mem_of_mem_filter hx, rfl, rfl⟩, fun x hx => .inl hx, fun e he _ _ => he⟩

theorem State.Core.stop {pt : Nat} {r : StopReason} (hfreed : s.Freed pt) : s.Proceeds (.stop pt r) (s.stopProgramme pt r) := by
  unfold State.stopProgramme
  split
  next g hg => exact h.endsProgramme ((State.programme_mem hg).2 ▸ hfreed) _ _
  · exact h.proceeds_none _

/-- A programme that waits for a movement that is gone is to wait for no entry, and holds no carry. -/
theorem State.Core.freed_of_gone {g : Programme} (hg : g ∈ s.programmes) {t : Nat} (hm : g.movement = some t)
    (hgone : ∀ e ∈ s.entries, e.ticket ≠ t) : s.Freed g.ticket ∧ g.carry = none := by
  refine ⟨h.no_entry_of hg fun n hn x hx => ?_, ?_⟩
  · rw [hm] at hn
    cases hn
    exact hgone x hx
  · by_contra hc
    rcases h.carries g hg (Option.isSome_iff_ne_none.mpr hc) with ⟨hn, _⟩ | ⟨e, he, hme, _⟩
    · rw [hm] at hn
      cases hn
    · rw [hm] at hme
      exact hgone e he (Option.some.inj hme).symm

omit h in
theorem State.follows_modProgramme (t : Nat) (f : Programme → Programme)
    (hf : ∀ g, (f g).ticket = g.ticket ∧ (f g).owner = g.owner) (out : Option Nat) : s.Follows out (s.modProgramme t f) := by
  refine ⟨fun _ hn => hn, fun x hx => ?_, fun x hx => .inl hx, fun e he _ _ => he⟩
  obtain ⟨g, hg, rfl⟩ := List.mem_map.mp hx
  refine ⟨g, hg, ?_⟩
  split
  · exact ⟨(hf g).1.symm, (hf g).2.symm⟩
  · exact ⟨rfl, rfl⟩

/-- The one programme that an update by ticket changes. -/
theorem State.Core.mem_modProgramme {g : Programme} (hg : g ∈ s.programmes) {f : Programme → Programme}
    {x : Programme} (hx : x ∈ (s.modProgramme g.ticket f).programmes)
    (ht : x.ticket = g.ticket) : x = f g := by
  obtain ⟨y, hy, rfl⟩ := List.mem_map.mp hx
  by_cases hyg : y.ticket = g.ticket
  · rw [if_pos hyg, List.inj_on_of_nodup_map h.named hy hg hyg]
  · rw [if_neg hyg] at ht
    exact absurd ht hyg

theorem State.Core.modProgramme_congr {g : Programme} (hg : g ∈ s.programmes) {f k : Programme → Programme} (hfk : f g = k g) :
    s.modProgramme g.ticket f = s.modProgramme g.ticket k := by
  unfold State.modProgramme
  congr 1
  refine List.map_congr_left fun x hx => ?_
  split
  next hxg => rw [List.inj_on_of_nodup_map h.named hx hg hxg, hfk]
  · rfl

/-- R127, R129: a programme goes on to its next step. -/
theorem State.Core.goesOn {g : Programme} (hg : g ∈ s.programmes) (hcarry : g.carry = none) (hfreed : s.Freed g.ticket)
    (hw : g.state ≠ .waiting) (hlost : (s.port g.owner).state ≠ .lost) {next : Step} (hnext : g.steps[g.current]? = some next)
    {c : Option Reservation} (hopen : ∀ x, c = some x → s.Open x) (hc : next.coupled = false → c = none) (u : Task) :
    s.Proceeds u (s.modProgramme g.ticket (Programme.advanced c),
      if next.coupled then [.startCoupled g.ticket] else [.start g.ticket]) := by
  refine ⟨h.takeCarry hg hcarry hfreed hw c hopen,
    s.follows_modProgramme g.ticket (Programme.advanced c) (fun _ => ⟨rfl, rfl⟩) _, ?_,
    by dsimp only; split <;> simp [Task.Light], fun _ => by dsimp only; split <;> simp [Task.Gentle]⟩
  dsimp only
  split
  next hco =>
    refine .single fun x hx hxg => ?_
    obtain rfl := h.mem_modProgramme hg hx hxg
    refine ⟨rfl, fun st hst => ?_, hlost⟩
    have hst : g.steps[g.current]? = some st := hst
    rw [hnext] at hst
    cases hst
    exact hco
  next hco =>
    refine .single fun x hx hxg => ?_
    obtain rfl := h.mem_modProgramme hg hx hxg
    exact ⟨rfl, hc (Bool.eq_false_iff.mpr hco), hlost⟩

theorem State.Core.inform {pt t : Nat} {o : MoveOutcome} {r : Reservation} (hu : (Task.inform pt t o r).Ready s) :
    s.Proceeds (.inform pt t o r) (s.inform pt t o r) := by
  obtain ⟨hgone, hopen⟩ := hu
  unfold State.inform
  split
  · exact h.proceeds_none _
  next g hprog =>
    obtain ⟨hg, rfl⟩ := State.programme_mem hprog
    split
    · exact h.proceeds_none _
    next hm =>
      obtain ⟨hfreed, hcarry⟩ := h.freed_of_gone hg (not_not.mp hm) hgone
      have hwaiting : g.state ≠ .waiting := fun hw => by
        rw [(h.waits g hg).2 hw] at hm
        exact hm fun hx => (nomatch hx)
      split_ifs with hlost hstop hdone
      · refine ⟨h.modProgramme _ fun x hx hxg => ?_, State.follows_modProgramme _ (fun q => { q with movement := none }) (fun _ => ⟨rfl, rfl⟩) _, .nil _,
          fun _ hv => (nomatch hv), fun _ _ hv => (nomatch hv)⟩
        obtain rfl := List.inj_on_of_nodup_map h.named hx hg hxg
        exact ⟨⟨rfl, rfl, rfl, ⟨(h.waits x hg).1, fun _ => rfl⟩, fun e he hst k hk => absurd hk (hfreed e he hst k),
          fun _ => .inl ⟨rfl, hwaiting⟩⟩, .inr rfl⟩
      · exact h.endsProgramme hfreed _ _
      · split
        · exact h.endsProgramme hfreed _ _
        next next hnext =>
          have hsame : (Programme.advanced (if next.coupled ∧ o = .completed then some r else none)) g =
              { g with current := g.current + 1, movement := none
                       carry := if next.coupled ∧ o = .completed then some r else g.carry } := by rw [hcarry]; rfl
          rw [← h.modProgramme_congr hg hsame]
          refine h.goesOn hg hcarry hfreed hwaiting hlost hnext (fun x hx => ?_) (fun hco => if_neg fun hx => ?_) _
          · split at hx
            next hc =>
              cases hx
              exact hopen hc.2
            · cases hx
          · rw [hco] at hx
            exact nomatch hx.1
      · exact h.endsProgramme hfreed _ _

end

end Sys2Proof.Machine
end

section
/-! The laws of the movements under each task of an event: the steps of programmes, and a run of tasks. -/

namespace Sys2Proof.Machine

/-! ### The start of a step (R124, R125, R129) -/

theorem State.makeStep_tasks (s : State) (g : Programme) (st : Step) :
    (∃ o, o ≠ .completed ∧ (s.makeStep g st).2 = [.retire s.freeTicket o]) ∨ (s.makeStep g st).2 = [.enqueue s.freeTicket] := by
  unfold State.makeStep
  dsimp only
  split
  · exact .inl ⟨.refused .portMuted, fun ho => (nomatch ho), rfl⟩
  · split
    · exact .inl ⟨.skipped, fun ho => (nomatch ho), rfl⟩
    · exact .inr rfl

section
variable {s : State} (h : s.Core) (hg : s.Ground)
include h hg

/-- A number that is issued next names no entry, and no evaluation. -/
theorem State.Core.fresh : (∀ e ∈ s.entries, e.ticket ≠ s.freeTicket) ∧
    s.evaluation.map Evaluation.ticket ≠ some s.freeTicket := by
  have hfresh := (h.freeTicket_fresh hg.2.1).1
  refine ⟨hfresh, fun hv => ?_⟩
  obtain ⟨e, he, ht, _⟩ := h.evaluating _ hv
  exact hfresh e he ht

/-- What the start of a step finds. -/
theorem State.Core.stepRoom {g : Programme} (hmem : g ∈ s.programmes) {st : Step} (hst : g.step = some st)
    (hfree : s.engaged st.apparatus = false) (hplace : st.coupled = false → s.queueFull g.owner = false) :
    s.Room g.owner st.apparatus st.coupled where
  tables := hg.2.1
  port := h.owners g hmem
  record := hg.record (fun hm => List.ne_nil_of_mem hmem (hg.1 (.inl hm)).2) (h.steps g hmem st (List.mem_of_getElem? hst))
  free := hfree
  place := hplace

/-- R124, R129: the movement of a step, made for a programme, waits. -/
theorem State.Core.madeStep {g : Programme} (hmem : g ∈ s.programmes) {st : Step} (hroom : s.Room g.owner st.apparatus st.coupled)
    (hm : g.movement = none) (hcarry : g.carry.isSome = true → st.coupled = true) :
    (s.makeStep g st).1.Core ∧ (s.makeStep g st).1.Chain (s.makeStep g st).2 ∧
    (∀ v ∈ (s.makeStep g st).2, v.Light (s.makeStep g st).1 ∧ v.Gentle (s.makeStep g st).1) ∧
    ((s.port g.owner).state ≠ .lost → s.Follows none (s.makeStep g st).1) := by
  obtain ⟨hfresh, heval⟩ := h.fresh hg
  obtain ⟨hentries, hprog, -, -, hevaluation, -, -⟩ := State.view_eq.mp (s.makeStep_view g st)
  rw [State.makeEntry_eq] at hentries hevaluation
  have hevaluation : (s.makeStep g st).1.evaluation.map Evaluation.ticket = s.evaluation.map Evaluation.ticket := hevaluation
  have hnew : ∀ x ∈ (s.makeStep g st).1.entries, x ∈ s.entries ∨
      x = s.made g.owner st.apparatus st.target (some (g.ticket, g.current)) st.coupled := fun x hx =>
    ((mem_insertBy _ _ _ _).mp (hentries ▸ hx)).symm
  have hwaits : (s.makeStep g st).1.Waits s.freeTicket := by
    refine ⟨fun x hx hxt => ?_, hevaluation ▸ heval⟩
    rcases hnew x hx with hx | rfl
    · exact absurd hxt (hfresh x hx)
    · rfl
  refine ⟨h.makeStep hmem st hroom hm hcarry, ?_, ?_, fun hlost => ?_⟩
  · rcases s.makeStep_tasks g st with ⟨o, ho, ht⟩ | ht <;> rw [ht]
    · exact .single fun hc => absurd hc ho
    · exact .single hwaits
  · rcases s.makeStep_tasks g st with ⟨o, ho, ht⟩ | ht <;> rw [ht]
    · refine List.forall_mem_singleton.mpr ⟨⟨ho, fun x hx hxt hst => ?_⟩, hwaits.1⟩
      have hx := hwaits.1 x hx hxt
      rw [hst] at hx
      cases hx
    · exact List.forall_mem_singleton.mpr ⟨trivial, trivial⟩
  · refine ⟨fun n hn => hevaluation ▸ hn, fun x hx => ?_, fun x hx => (hnew x hx).imp_right ?_, fun e he _ _ => ?_⟩
    · rw [hprog] at hx
      obtain ⟨y, hy, rfl⟩ := List.mem_map.mp hx
      refine ⟨y, hy, ?_⟩
      unfold Programme.stepping
      split <;> exact ⟨rfl, rfl⟩
    · rintro rfl
      exact ⟨rfl, hevaluation ▸ heval, .inr ⟨g.ticket, g.current, rfl, g, hmem, rfl, rfl, hlost⟩⟩
    · exact hentries ▸ (mem_insertBy _ _ _ _).mpr (.inr he)

omit hg in
theorem State.Core.waitsForRoom {g : Programme} (hmem : g ∈ s.programmes) (hm : g.movement = none) (hcarry : g.carry = none)
    (u : Task) : s.Proceeds u (s.enterWaiting g) := by
  have hfreed : s.Freed g.ticket := h.no_entry_of hmem fun t ht => by
    rw [hm] at ht
    cases ht
  have hcore := h.enterWaiting hmem hm hcarry
  unfold State.enterWaiting at hcore ⊢
  split_ifs at hcore ⊢
  · exact h.proceeds_none _
  · exact h.endsProgramme hfreed _ _
  · exact ⟨hcore, (s.follows_modProgramme g.ticket (fun q => { q with
      state := .waiting, waiting := some (q.waiting.getD s.force.settings.deferralLimit) }) (fun _ => ⟨rfl, rfl⟩) _).view_right rfl,
      .nil _, fun _ hv => (nomatch hv), fun _ _ hv => (nomatch hv)⟩

omit h hg in
/-- R124, R125: what the start of a step comes to. -/
theorem State.startStep_cases (s : State) (pt : Nat) : s.startStep pt = (s, []) ∨
    ∃ g st, g ∈ s.programmes ∧ g.ticket = pt ∧ g.step = some st ∧ ((∃ r, s.startStep pt = s.endProgramme g r) ∨
      s.startStep pt = s.enterWaiting g ∨
      (s.engaged st.apparatus = false ∧ s.queueFull g.owner = false ∧ s.startStep pt = s.makeStep g st)) := by
  unfold State.startStep
  split
  · exact .inl rfl
  next g hprog =>
    obtain ⟨hmem, ht⟩ := State.programme_mem hprog
    split
    · exact .inl rfl
    next st hst =>
      refine .inr ⟨g, st, hmem, ht, hst, ?_⟩
      split_ifs with hsub hfull
      · exact .inl ⟨_, rfl⟩
      · exact .inr (.inl rfl)
      · simp only [Bool.or_eq_true, not_or, Bool.not_eq_true] at hfull
        exact .inr (.inr ⟨hfull.1.1, hfull.1.2, rfl⟩)

theorem State.Core.startStep {pt : Nat} (hu : (Task.start pt).Ready s) : s.Proceeds (.start pt) (s.startStep pt) := by
  rcases s.startStep_cases pt with heq | ⟨g, st, hmem, rfl, hst, hcases⟩
  · rw [heq]
    exact h.proceeds_none _
  · obtain ⟨hm, hcarry, hlost⟩ := hu g hmem rfl
    rcases hcases with ⟨r, heq⟩ | heq | ⟨hfree, hplace, heq⟩ <;> rw [heq]
    · exact h.endsProgramme (h.no_entry_of hmem fun t ht => by rw [hm] at ht; cases ht) _ _
    · exact h.waitsForRoom hmem hm hcarry _
    · obtain ⟨hcore, hchain, htasks, hfollows⟩ := h.madeStep hg hmem (h.stepRoom hg hmem hst hfree fun _ => hplace) hm
        fun hc => by rw [hcarry] at hc; cases hc
      exact ⟨hcore, hfollows hlost, hchain, fun v hv => (htasks v hv).1, fun _ v hv => (htasks v hv).2⟩

theorem State.Core.startCoupled {pt : Nat} (hu : (Task.startCoupled pt).Ready s) :
    s.Proceeds (.startCoupled pt) (s.startCoupled pt) := by
  unfold State.startCoupled
  split
  · exact h.proceeds_none _
  next g hprog =>
    obtain ⟨hmem, ht⟩ := State.programme_mem hprog
    obtain ⟨hm, hstep, hlost⟩ := hu g hmem ht
    have hfreed : s.Freed g.ticket := h.no_entry_of hmem fun t ht => by rw [hm] at ht; cases ht
    split
    · exact h.proceeds_none _
    next st hst =>
      have hcoupled := hstep st hst
      split_ifs with hsub hfree hfull
      · exact h.endsProgramme hfreed _ _
      · exact h.endsProgramme hfreed _ _
      · exact h.endsProgramme hfreed _ _
      · obtain ⟨hcore, hchain, htasks, hfollows⟩ := h.madeStep hg hmem (h.stepRoom hg hmem hst (Bool.eq_false_iff.mpr hfree)
          fun hc => by rw [hcoupled] at hc; cases hc) hm fun _ => hcoupled
        exact ⟨hcore, hfollows hlost, hchain, fun v hv => (htasks v hv).1, fun _ v hv => (htasks v hv).2⟩

/-! ### Any task -/

theorem State.Core.runTask {u : Task} (hu : u.Ready s) : s.Proceeds u (s.runTask u) := by
  cases u with
  | retire t o => exact h.retire hu
  | judge a x y => exact h.judge a x y
  | inspect a => exact h.inspect a
  | blockEnd t => exact h.blockEnd t
  | inform p t o r => exact h.inform hu
  | stop p r => exact h.stop hu
  | start p => exact h.startStep hg hu
  | startCoupled p => exact h.startCoupled hg hu
  | enqueue t => exact h.enqueue hu
  | reoffer => exact h.reoffer
  | requeue t => exact h.requeue t
  | retry p => exact h.retry p
  | testFrozen => exact h.proceeds_plain (l := []) s.view_testFrozen (fun _ hv => (nomatch hv)) _

omit h hg in
theorem State.quiet_runTask {u : Task} (hu : u.Quiet s) : (s.runTask u).1.view = s.view ∧
    ∀ v ∈ (s.runTask u).2, v.Quiet (s.runTask u).1 := by
  cases u with
  | judge a x y =>
    refine ⟨s.view_judge a x y, fun v hv => ?_⟩
    have htasks : v = .inspect a := by
      simp only [State.runTask, State.judge] at hv
      split at hv
      · cases hv
      · split_ifs at hv
        · exact List.mem_singleton.mp hv
        · cases hv
        · cases hv
    subst htasks
    exact Task.Quiet.of_view (u := .inspect a) hu (s.view_judge a x y)
  | inspect a =>
    have hv := s.view_placeInspect a
    refine ⟨hv, fun v hmem => ?_⟩
    simp only [State.runTask, State.inspect] at hmem
    split at hmem
    · obtain ⟨t, ht, _⟩ := List.mem_map.mp hmem
      obtain ⟨e, he, _⟩ := List.mem_map.mp ht
      obtain ⟨he, hst⟩ := List.mem_filter.mp he
      simp only [Bool.and_eq_true, beq_iff_eq] at hst
      rw [(State.view_eq.mp hv).1] at he
      exact absurd hst.1 (hu e he hst.2)
    · cases hmem
  | _ => exact hu.elim

end

end Sys2Proof.Machine
end

section
/-! The laws of the movements under a run of tasks. -/

namespace Sys2Proof.Machine

/-- Tasks of which each has what it needs when its turn comes, and none retires an entry before it completes. -/
structure State.Orderly (s : State) (ts : List Task) : Prop where
  chain : s.Chain ts
  order : ts.Pairwise Task.Before

theorem Task.Before.of_other {u v : Task} (h : ∀ t, v ≠ .retire t .completed) : u.Before v := fun t _ => h t

theorem State.Orderly.single {s : State} {u : Task} (h : u.Ready s) : s.Orderly [u] := ⟨.single h, List.pairwise_singleton _ _⟩

theorem State.Orderly.of_other {s : State} {ts : List Task} (h : s.Chain ts) (hts : ∀ v ∈ ts, ∀ t, v ≠ .retire t .completed) :
    s.Orderly ts := ⟨h, List.pairwise_of_forall_mem_list fun _ _ v hv => .of_other (hts v hv)⟩

/-- What a run leaves of state `s`: the states of the ports, and no entry of a LOST port but those it had. -/
structure State.Leaves (s t : State) : Prop where
  ports : ∀ p, (t.port p).state = (s.port p).state
  lost : ∀ x ∈ t.entries, x.state ≠ .settling → (s.port x.owner).state = .lost →
    ∃ e ∈ s.entries, e.ticket = x.ticket ∧ e.owner = x.owner ∧ e.state ≠ .settling

theorem State.Leaves.refl (s : State) : s.Leaves s := ⟨fun _ => rfl, fun x hx hst _ => ⟨x, hx, rfl, rfl, hst⟩⟩

theorem State.Leaves.trans {s t u : State} (h : s.Leaves t) (k : t.Leaves u) : s.Leaves u := by
  refine ⟨fun p => (k.ports p).trans (h.ports p), fun x hx hst hlost => ?_⟩
  obtain ⟨y, hy, hyt, hyo, hyst⟩ := k.lost x hx hst ((h.ports _).trans hlost)
  obtain ⟨e, he, het, heo, hest⟩ := h.lost y hy hyst (hyo ▸ hlost)
  exact ⟨e, he, het.trans hyt, heo.trans hyo, hest⟩

theorem State.Follows.leaves {s t : State} {out : Option Nat} (h : s.Follows out t)
    (hp : ∀ p, (t.port p).state = (s.port p).state) : s.Leaves t := by
  refine ⟨hp, fun x hx hst hlost => ?_⟩
  rcases h.entries x hx with hx | ⟨_, _, ⟨e, he, het, hh, _, heo⟩ | ⟨_, _, _, g, _, _, hgo, hg⟩⟩
  · exact ⟨x, hx, rfl, rfl, hst⟩
  · exact ⟨e, he, het, heo, fun hset => by rw [hset] at hh; cases hh⟩
  · exact absurd (hgo ▸ hlost) hg

/-- What a run of tasks comes to. -/
structure State.RunsTo (s : State) (ts : List Task) (t : State) : Prop where
  core : t.Core
  leaves : s.Leaves t
  held : (∀ v ∈ ts, v.Gentle s) → ∀ e ∈ s.entries, e.state.held = true → e ∈ t.entries

theorem Task.Gentle.retires {s : State} {u : Task} (h : u.Gentle s) {e : Entry} (he : e ∈ s.entries) (hh : e.state.held = true) :
    u.retires ≠ some e.ticket := by
  intro ht
  cases u with
  | retire t o =>
    cases ht
    rw [h e he rfl] at hh
    cases hh
  | _ => cases ht

section
variable {s : State} {u : Task} {ts : List Task} (h : s.Core) (hg : s.Ground)
include h hg

/-- A task that has what it needs leaves the tasks after it what they need. -/
theorem State.Core.orderly_ready (hu : u.Ready s) (hts : ∀ v ∈ ts, v.Steady s) (hlater : ∀ v ∈ ts, u.Before v)
    (horder : ts.Pairwise Task.Before) : (s.runTask u).1.Orderly ((s.runTask u).2 ++ ts) := by
  have hnext := h.runTask hg hu
  have hsteady : ∀ v ∈ ts, v.Steady (s.runTask u).1 := fun v hv =>
    (hts v hv).follows hnext.follows (s.runTask_within u).portState fun n hn => hlater v hv n hn
  have hother : ∀ v ∈ (s.runTask u).2, ∀ t, v ≠ .retire t .completed := by
    rintro v hv t rfl
    exact (hnext.light _ hv).1 rfl
  refine ⟨hnext.chain.append hsteady, List.pairwise_append.mpr ⟨?_, horder, fun a ha b hb t hat => ?_⟩⟩
  · exact List.pairwise_of_forall_mem_list fun _ _ v hv => .of_other (hother v hv)
  · rintro rfl
    cases a with
    | retire n o =>
      cases hat
      obtain ⟨e, he, het, hst⟩ := hsteady _ hb rfl
      exact (hnext.light _ ha).2 e he het hst
    | _ => cases hat

omit h hg in
theorem State.orderly_quiet (hu : u.Quiet s) (hts : s.Chain ts) (horder : ts.Pairwise Task.Before) :
    (s.runTask u).1.Orderly ((s.runTask u).2 ++ ts) := by
  obtain ⟨hv, hquiet⟩ := State.quiet_runTask hu
  have htail := hts.of_view hv (s.runTask_within u).portState
  generalize (s.runTask u).2 = new at hquiet ⊢
  induction new with
  | nil => exact ⟨htail, horder⟩
  | cons v l ih =>
    obtain ⟨hc, ho⟩ := ih fun w hw => hquiet w (List.mem_cons_of_mem v hw)
    have hvq := hquiet v List.mem_cons_self
    refine ⟨.quiet hvq hc, List.pairwise_cons.mpr ⟨fun w _ t hvt => ?_, ho⟩⟩
    cases v with
    | retire n o => exact hvq.elim
    | _ => cases hvt

omit h hg in
/-- A run of tasks, after its first. -/
theorem State.RunsTo.step {t : State} (hf : s.Follows u.retires (s.runTask u).1)
    (hgentle : u.Gentle s → ∀ v ∈ (s.runTask u).2, v.Gentle (s.runTask u).1)
    (hr : (s.runTask u).1.RunsTo ((s.runTask u).2 ++ ts) t) : s.RunsTo (u :: ts) t where
  core := hr.core
  leaves := (hf.leaves (s.runTask_within u).portState).trans hr.leaves
  held := fun hts e he hh => by
    have hu := hts u List.mem_cons_self
    refine hr.held (List.forall_mem_append.mpr ⟨hgentle hu, fun v hv => ?_⟩) e
      (hf.held e he hh (hu.retires he hh)) hh
    exact (hts v (List.mem_cons_of_mem u hv)).follows hf

theorem State.Core.runTasks (ho : s.Orderly ts) (n : Nat) : s.RunsTo ts (Machine.runTasks n ts s) := by
  induction n generalizing s ts with
  | zero => exact ⟨h, State.Leaves.refl s, fun _ e he _ => he⟩
  | succ n ih =>
    obtain ⟨hchain, horder⟩ := ho
    cases ts with
    | nil => exact ⟨h, State.Leaves.refl s, fun _ e he _ => he⟩
    | cons u ts =>
      obtain ⟨hlater, horder⟩ := List.pairwise_cons.mp horder
      have hground := State.ground_kept.runTask hg u
      have ready : u.Ready s → (∀ v ∈ ts, v.Steady s) → s.RunsTo (u :: ts) (Machine.runTasks (n + 1) (u :: ts) s) :=
        fun hu hts => by
          have hnext := h.runTask hg hu
          exact .step hnext.follows hnext.gentle (ih hnext.core hground (h.orderly_ready hg hu hts hlater horder))
      cases hchain with
      | steady hall => exact ready (hall u List.mem_cons_self).ready fun v hv => hall v (List.mem_cons_of_mem u hv)
      | ready hu hts => exact ready hu hts
      | quiet hu hts =>
        have hv := (State.quiet_runTask hu).1
        refine .step (State.Follows.of_view hv _) (fun hgentle => ?_) (ih (h.of_view hv) hground (State.orderly_quiet hu hts horder))
        cases u with
        | judge => exact hgentle.elim
        | inspect => exact hgentle.elim
        | _ => exact hu.elim

theorem State.Core.run (ho : s.Orderly ts) : s.RunsTo ts (s.run ts) := h.runTasks hg ho _

/-- A run of one task. -/
theorem State.Core.run_single (hu : u.Ready s) : (s.run [u]).Core := (h.run hg (.single hu)).core

/-- R117: a retirement that completes no entry. -/
theorem State.Core.run_retire (t : Nat) {o : MoveOutcome} (ho : o ≠ .completed) : (s.run [.retire t o]).Core :=
  h.run_single hg (u := .retire t o) fun hc => absurd hc ho

/-- Tasks that need nothing. -/
theorem State.Core.run_steady (hts : ∀ v ∈ ts, v.Steady s ∧ ∀ t, v ≠ .retire t .completed) : (s.run ts).Core :=
  (h.run hg (.of_other (.steady fun v hv => (hts v hv).1) fun v hv => (hts v hv).2)).core

end

end Sys2Proof.Machine
end

section
/-! The laws of the movements under the evaluator: the grant, the ends of an evaluation, and the release. -/

namespace Sys2Proof.Machine

theorem State.RunsTo.spares {s t : State} {ts : List Task} (h : s.RunsTo ts t) (hts : ∀ v ∈ ts, v.Gentle s) : s.Spares t :=
  ⟨h.core, h.held hts⟩

section
variable {s : State} (h : s.Core)
include h

/-- The evaluator is free. -/
theorem State.Core.freeEvaluator : State.Core { s with evaluation := none } :=
  { h with evaluating := fun _ ht => (nomatch ht) }

end

/-- The entry whose evaluation has ended waits. -/
theorem State.Core.waits_of_evaluation {s : State} (h : s.Core) {v : Evaluation} (hv : s.evaluation = some v) {e : Entry}
    (he : s.entry v.ticket = some e) : State.Waits { s with evaluation := none } e.ticket := by
  obtain ⟨hmem, het⟩ := State.entry_mem he
  obtain ⟨x, hx, hxt, hst⟩ := h.evaluating v.ticket (by rw [hv]; rfl)
  refine ⟨fun y hy hye => ?_, fun hn => (nomatch hn)⟩
  rw [List.inj_on_of_nodup_map h.distinct hy hx (hye.trans (het.trans hxt.symm)), hst]
  rfl

section
variable {s : State} (h : s.Core) (hg : s.Ground)
include h hg

/-- A retirement, other than a completion, of an entry that waits. -/
theorem State.Core.spares_retire {t : Nat} (hw : s.Waits t) {o : MoveOutcome} (ho : o ≠ .completed) : s.Spares (s.run [.retire t o]) :=
  (h.run hg (.single (u := .retire t o) fun hc => absurd hc ho)).spares (List.forall_mem_singleton.mpr hw.1)

theorem State.Core.spares_enqueue {t : Nat} (hw : s.Waits t) : s.Spares (s.run [.enqueue t]) :=
  (h.run hg (.single (u := .enqueue t) hw)).spares (List.forall_mem_singleton.mpr trivial)

/-! ### Deferrals and voids (R75, R79, R85 to R87, R152) -/

theorem State.Core.defer {e : Entry} (hw : s.Waits e.ticket) (c : DeferralCause) (r : Bool) : s.Spares (s.defer e c r) := by
  unfold State.defer
  split
  · exact h.spares_retire hg hw fun ho => (nomatch ho)
  · obtain ⟨hspares, hstill⟩ := h.editWaiting hw (fun x => { x with
        cause := some c
        deadline := some (x.deadline.getD s.force.settings.deferralLimit)
        state := if s.mode.isFreeze && s.heldBack e then .suspended else .deferred })
      fun x _ _ => ⟨rfl, rfl, rfl, rfl, rfl, by dsimp only; split <;> rfl⟩
    dsimp only
    split
    · refine hspares.trans (hspares.core.spares_enqueue ?_ hstill)
      exact State.ground_kept.edit e.ticket hg fun _ => .other rfl (by dsimp only; split <;> simp) (by dsimp only; split <;> simp)
    · exact hspares

theorem State.Core.endDeferred {e : Entry} (hw : s.Waits e.ticket) (v : Evaluation) (c : DeferralCause) :
    s.Spares (s.endDeferred e v c) := by
  unfold State.endDeferred
  split_ifs
  · exact h.spares_retire hg hw fun ho => (nomatch ho)
  · exact h.spares_retire hg hw fun ho => (nomatch ho)
  · exact h.defer hg hw _ _

theorem State.Core.endRefused {e : Entry} (hw : s.Waits e.ticket) (r : Reason) : s.Spares (s.endRefused e r) := by
  unfold State.endRefused
  split <;> exact h.spares_retire hg hw fun ho => (nomatch ho)

omit hg in
/-- R73: the ticket of an entry that waits, and needs a place, stands in its queue. -/
theorem State.Core.headWaiting {e : Entry} (he : e ∈ s.entries) (hh : e.state.held = false) (hc : e.coupled = false) :
    s.Spares (s.queueHead e.owner e.ticket) :=
  ⟨h.queueHead _ _ (.inl (h.queued e he hh hc)), fun _ hx _ => hx⟩

theorem State.Core.endVoided {e : Entry} (he : e ∈ s.entries) (hw : s.Waits e.ticket) (v : Evaluation) :
    s.Spares (s.endVoided e v) := by
  obtain ⟨hspares, hstill⟩ := h.editWaiting hw (fun x => { x with voidCount := min 3 (e.voidCount + 1) })
    fun x hx hxt => ⟨rfl, rfl, rfl, rfl, rfl, hw.1 x hx hxt⟩
  have hground : State.Ground (s.modEntry e.ticket (fun x => { x with voidCount := min 3 (e.voidCount + 1) })) :=
    State.ground_kept.edit e.ticket hg fun _ => .same rfl rfl rfl
  have hcore := hspares.core
  unfold State.endVoided
  dsimp only
  split
  · exact hspares.trans (hcore.spares_retire hground hstill fun ho => (nomatch ho))
  · split
    · exact hspares.trans (hcore.spares_retire hground hstill fun ho => (nomatch ho))
    · split
      · split
        · exact hspares.trans (hcore.spares_enqueue hground hstill)
        next hc =>
          have hin : { e with voidCount := min 3 (e.voidCount + 1) } ∈
              (s.modEntry e.ticket (fun x => { x with voidCount := min 3 (e.voidCount + 1) })).entries :=
            List.mem_map.mpr ⟨e, he, if_pos rfl⟩
          have hhead := hcore.headWaiting hin (hw.1 e he rfl) (Bool.eq_false_iff.mpr hc)
          exact hspares.trans (hhead.trans (hhead.core.spares_enqueue (State.ground_kept.queueHead hground _ _) hstill))
      · exact hspares.trans (hcore.defer hground (e := { e with voidCount := min 3 (e.voidCount + 1) }) hstill _ _)

/-- An evaluation that ends without a permit. -/
theorem State.Core.endEvaluation {x : Verdict} (hx : ∀ r, x ≠ .permit r) : s.Spares (s.endEvaluation x) := by
  have hfree : s.Spares { s with evaluation := none } := ⟨h.freeEvaluator, fun _ he _ => he⟩
  have hground : State.Ground { s with evaluation := none } := hg
  unfold State.endEvaluation
  split
  · exact h.spares
  next v hv =>
    dsimp only
    split
    · exact hfree
    next e he =>
      have hw := h.waits_of_evaluation hv he
      have hmem := (State.entry_mem he).1
      refine hfree.trans ?_
      split
      · exact hfree.core.spares_retire hground hw fun ho => (nomatch ho)
      · cases x with
        | permit r => exact absurd rfl (hx r)
        | defer c => exact hfree.core.endDeferred hground hw _ _
        | refuse r => exact hfree.core.endRefused hground hw _
        | void => exact hfree.core.endVoided hground hmem hw _

theorem State.Core.evaluatorSees (i : RecordId) : s.Spares (s.evaluatorSees i) := by
  unfold State.evaluatorSees
  split
  · exact h.spares
  · split
    · exact h.spares
    · split
      · exact h.endEvaluation hg fun _ => Verdict.noConfusion
      · exact h.spares

/-! ### The checks and searches of an evaluation (R55, R65, R66) -/

theorem State.Core.takeResult {v : Evaluation} (hv : s.evaluation = some v) (r : StepResult) : (s.takeResult v r).Core := by
  cases r with
  | stage st =>
    refine h.of_view (State.view_eq.mpr ⟨rfl, rfl, rfl, rfl, ?_, rfl, rfl⟩)
    rw [hv]
    rfl
  | refuse e => exact (h.endEvaluation hg (x := .refuse e) fun _ => Verdict.noConfusion).core

theorem State.Core.predicateCheck : s.predicateCheck.Core := by
  unfold State.predicateCheck
  split
  next hf =>
    split
    · exact h.takeResult hg (State.inFlight_some hf).1 _
    · exact h
  · exact h

theorem State.Core.bypassSearch : s.bypassSearch.Core := by
  unfold State.bypassSearch
  split
  next hf =>
    split
    · exact h.takeResult hg (State.inFlight_some hf).1 _
    · exact h
  · exact h

theorem State.Core.stubSearch : s.stubSearch.Core := by
  unfold State.stubSearch
  split
  next hf =>
    split
    · exact h.takeResult hg (State.inFlight_some hf).1 _
    · exact h
  · exact h

end

end Sys2Proof.Machine
end

section
/-! The laws of the movements under the grant and the release. -/

namespace Sys2Proof.Machine

/-! ### The grant (R76 to R78) -/

theorem State.Core.grant {s : State} (h : s.Core) : s.grant.Core := by
  unfold State.grant
  split
  · exact h
  next hnone =>
    split
    · exact h
    next t hcand =>
      split
      · exact h
      next e hentry =>
        obtain ⟨he, rfl⟩ := State.entry_mem hentry
        have hst : e.state = .queued := by
          have hel := State.candidate_eligible hcand
          rw [State.eligibleTicket, hentry] at hel
          simp only [State.eligible, Bool.and_eq_true, beq_iff_eq] at hel
          exact hel.1.1
        have hw := h.waits_of_state he (by rw [hst]; rfl) (by rw [hst]; exact fun hx => (nomatch hx))
        have hcore := (h.editWaiting hw (fun x => { x with state := .evaluating })
          fun _ _ _ => ⟨rfl, rfl, rfl, rfl, rfl, rfl⟩).1.core
        refine { hcore with evaluating := fun t ht => ?_ }
        cases ht
        exact ⟨{ e with state := .evaluating }, List.mem_map.mpr ⟨e, he, if_pos rfl⟩, rfl, rfl⟩

/-! ### The release (R84, R88, R90, R99, R130) -/

theorem State.closingVerdict_reach {s : State} {v : Evaluation} {e : Entry} {reach r : List Nat}
    (h : s.closingVerdict v e reach = .permit r) : r = reach := by
  unfold State.closingVerdict at h
  split_ifs at h
  cases h
  rfl

theorem State.dropCarry_leaves (s : State) (e : Entry) :
    (s.dropCarry e).1.entries = s.entries ∧ (s.dropCarry e).1.evaluation = s.evaluation := by
  rcases s.dropCarry_cases e with ⟨hd, _⟩ | ⟨_, _, _, hd⟩ <;> rw [hd] <;> exact ⟨rfl, rfl⟩

/-- What the dropping of a carry leaves of the programmes. -/
theorem State.dropCarry_programmes {s : State} {e : Entry} {g : Programme} (hg : g ∈ (s.dropCarry e).1.programmes)
    (hc : g.carry.isSome = true) : g ∈ s.programmes := by
  rcases s.dropCarry_cases e with ⟨hd, _⟩ | ⟨pt, k, _, hd⟩ <;> rw [hd] at hg
  · exact hg
  · obtain ⟨x, hx, rfl⟩ := List.mem_map.mp hg
    split at hc
    · cases hc
    next hne => rwa [if_neg hne]

section
variable {s : State} (h : s.Core)
include h

/-- R83, R90: an entry in conflict with none of the reservations but its programme's carry, once that is dropped, is free to
take its own. -/
theorem State.Core.open_dropped {e : Entry} (he : e ∈ s.entries) (hh : e.state.held = false) {reach : List Nat}
    (hc : s.conflict e reach = false) : (s.dropCarry e).1.Open ⟨e.footprint, reach⟩ := by
  have hentries := (s.dropCarry_leaves e).1
  have hnone : ∀ y ∈ s.entryReservations ++ s.carryReservations (e.programme.map Prod.fst),
      Reservation.conflicts ⟨e.footprint, reach⟩ y = false := by
    simpa [State.conflict, or_imp, forall_and] using hc
  intro y hy
  rw [State.entryReservations_eq, hentries, ← State.entryReservations_eq, State.carryReservations_none] at hy
  refine hnone y (List.mem_append.mpr ((List.mem_append.mp hy).imp_right fun hy => ?_))
  obtain ⟨g, hg, hcarry⟩ := List.mem_filterMap.mp hy
  have hsome : g.carry.isSome = true := by rw [hcarry]; rfl
  have hmem := State.dropCarry_programmes hg hsome
  refine List.mem_filterMap.mpr ⟨g, List.mem_filter.mpr ⟨hmem, ?_⟩, hcarry⟩
  cases hp : e.programme with
  | none => rfl
  | some q =>
    obtain ⟨pt, k⟩ := q
    refine bne_iff_ne.mpr fun ht => ?_
    have ht : g.ticket = pt := Option.some.inj ht
    obtain ⟨x, hx, hxt, hm, _⟩ := h.moves e he (fun hset => by rw [hset] at hh; cases hh) pt k hp
    obtain rfl := List.inj_on_of_nodup_map h.named hx hmem (hxt.trans ht.symm)
    rw [h.dropCarry_none he x hg hm] at hcarry
    cases hcarry

theorem State.Core.release (hg : s.Ground) {e : Entry} (he : e ∈ s.entries) (hh : e.state.held = false)
    (hv : s.evaluation = none) {reach : List Nat} (hc : s.conflict e reach = false) : (s.release e reach).Core := by
  unfold State.release
  split
  · exact h
  next d _ =>
    obtain ⟨hentries, heval⟩ := s.dropCarry_leaves e
    rw [hv] at heval
    have hheld := (h.dropCarry e).hold (hentries ▸ he) (fun x => x.released reach s.now d.startWindow)
      ⟨rfl, rfl, rfl, rfl, rfl⟩ hh rfl (by rw [heval]; exact fun hn => (nomatch hn)) (h.dropCarry_none he)
      (h.open_dropped he hh hc)
    have hleft := hheld.queueLeave e.owner e.ticket fun x hx hxt => by
      obtain ⟨y, _, ⟨_, rfl⟩ | ⟨hne, rfl⟩⟩ := mem_modEntry hx
      · exact .inl rfl
      · exact absurd hxt hne
    have hground := State.ground_kept.queueLeave (State.ground_release e.ticket reach s.now d.startWindow
      (State.ground_kept.dropCarry hg e)) e.owner e.ticket
    dsimp only
    refine (hleft.of_view (State.view_notify _ _ _)).run_steady (State.ground_kept.notify hground _ _) ?_
    refine List.forall_mem_append.mpr ⟨?_, ?_⟩
    · split
      · simp [Task.Steady]
      · simp
    · split
      · exact fun _ hx => (nomatch hx)
      · refine List.forall_mem_map.mpr fun t _ => ⟨trivial, fun _ hx => (nomatch hx)⟩

/-- R82, R84: the closing event. -/
theorem State.Core.closing (hg : s.Ground) : s.closing.Core := by
  unfold State.closing
  split
  next v e d hf =>
    obtain ⟨hv, hentry, _⟩ := State.inFlight_some hf
    split
    next reach _ =>
      cases hx : s.closingVerdict v e reach with
      | permit r =>
        obtain rfl := State.closingVerdict_reach hx
        obtain ⟨_, hconflict, _⟩ := State.closingVerdict_passed hx
        have hfree := h.freeEvaluator
        have hground : State.Ground { s with evaluation := none } := hg
        have hw := h.waits_of_evaluation hv hentry
        have he := (State.entry_mem hentry).1
        simp only [State.endEvaluation, hv, hentry]
        split
        · exact (hfree.spares_retire hground hw (o := .cancelled) fun ho => (nomatch ho)).core
        · unfold State.endPermitted
          split
          · split
            · exact (hfree.spares_retire hground hw (o := .refused e.causeReason) fun ho => (nomatch ho)).core
            · exact (hfree.editWaiting hw (fun x => { x with state := .suspended })
                fun _ _ _ => ⟨rfl, rfl, rfl, rfl, rfl, rfl⟩).1.core
          · exact hfree.release hground he (hw.1 e he rfl) rfl hconflict
      | defer c => exact (h.endEvaluation hg (x := .defer c) fun _ => Verdict.noConfusion).core
      | refuse r => exact (h.endEvaluation hg (x := .refuse r) fun _ => Verdict.noConfusion).core
      | void => exact (h.endEvaluation hg (x := .void) fun _ => Verdict.noConfusion).core
    · exact h
  · exact h

end

end Sys2Proof.Machine
end

section
/-! The laws of the movements under the topology unit and the movement supervisor. -/

namespace Sys2Proof.Machine

/-! ### Updates that leave what the laws read -/

theorem State.view_publish (s : State) (w : Pass) : (s.publish w).view = s.view := by
  refine State.view_eq.mpr ⟨rfl, rfl, rfl, ?_, rfl, rfl, rfl⟩
  simp only [State.publish, List.map_map]
  refine List.map_congr_left fun r _ => ?_
  simp only [Function.comp_apply]
  split <;> rfl

theorem State.view_takeUp (s : State) : s.takeUp.view = s.view := by
  unfold State.takeUp
  split
  · rfl
  · split <;> rfl

theorem State.view_endGathering (s : State) : s.endGathering.view = s.view := State.view_changeMode _ _

section
variable {s : State} (h : s.Core) (hg : s.Ground)
include h hg

/-! ### Publications (R45, R107) -/

theorem State.Core.handOn (known : Bool) {l : List Nat} (hl : ∀ t ∈ l, ∃ e ∈ s.entries, e.ticket = t ∧ e.state = .settling)
    (hn : l.Nodup) : (s.handOn known l).Core := by
  have horderly : s.Orderly (.reoffer :: l.map (fun t => .retire t .completed)) := by
    refine ⟨.steady (List.forall_mem_cons.mpr ⟨trivial, List.forall_mem_map.mpr fun t ht _ => hl t ht⟩),
      List.pairwise_cons.mpr ⟨fun v _ t ht => (nomatch ht), List.pairwise_map.mpr (hn.imp fun {a b} hab t hat hbt => ?_)⟩⟩
    cases hat
    cases hbt
    exact hab rfl
  have hrun := (h.run hg horderly).core
  unfold State.handOn
  dsimp only
  split
  · exact hrun.of_view (State.view_endGathering _)
  · exact hrun

theorem State.Core.publishAndHandOn (w : Pass) : (s.publishAndHandOn w).Core := by
  have hp := h.of_view (s.view_publish w)
  have hground := State.ground_kept.publish hg w
  refine hp.handOn hground _ (fun t ht => ?_) ((h.distinct).sublist (List.filter_sublist.map _))
  obtain ⟨e, he, rfl⟩ := List.mem_map.mp ht
  obtain ⟨he, hst⟩ := List.mem_filter.mp he
  simp only [Bool.and_eq_true, beq_iff_eq] at hst
  exact ⟨e, he, rfl, hst.1.1⟩

theorem State.Core.ordinaryPublication : s.ordinaryPublication.Core := by
  unfold State.ordinaryPublication
  split
  · split
    · exact (h.publishAndHandOn hg _).of_view (State.view_startIfMarked _)
    · exact h
  · exact h

/-! ### The movement supervisor (R101 to R104, R111, R116) -/

omit hg in
/-- A held entry stays held. -/
theorem State.Core.editHeld {e : Entry} (he : e ∈ s.entries) (hh : e.state.held = true) (f : Entry → Entry)
    (hsame : (f e).ticket = e.ticket ∧ (f e).owner = e.owner ∧ (f e).apparatus = e.apparatus ∧
      (f e).programme = e.programme ∧ (f e).coupled = e.coupled ∧ (f e).footprint = e.footprint ∧ (f e).reach = e.reach)
    (hheld : (f e).state.held = true) (hset : e.state = .settling → (f e).state = .settling) : (s.modEntry e.ticket f).Core := by
  refine h.modEntry _ f fun x hx hxt => ?_
  obtain rfl := List.inj_on_of_nodup_map h.distinct hx he hxt
  obtain ⟨hticket, howner, happ, hprog, hcoupled, hfoot, hreach⟩ := hsame
  refine ⟨hticket, howner, happ, hprog, hcoupled, fun _ => ⟨hh, hfoot, hreach⟩, fun hn => ?_, hset, fun hev => ?_⟩
  · rw [hheld] at hn
    cases hn
  · rw [hev] at hh
    cases hh

omit hg in
theorem State.Core.travel {e : Entry} (he : e ∈ s.entries) (hh : e.state.held = true) (hset : e.state ≠ .settling) :
    (s.travel e).Core := by
  unfold State.travel
  split
  · exact h
  next d _ =>
    exact h.editHeld he hh (fun x => { x with state := .travelling, flavour := none, deadline := some d.travelLimit })
      ⟨rfl, rfl, rfl, rfl, rfl, rfl, rfl⟩ rfl fun hx => absurd hx hset

omit hg in
theorem State.Core.settle {e : Entry} (he : e ∈ s.entries) (hh : e.state.held = true) : (s.settle e).Core :=
  (h.editHeld he hh (fun x => { x with
      state := .settling, flavour := none, deadline := none, operatingTime := some (operatingTime s.now e) })
    ⟨rfl, rfl, rfl, rfl, rfl, rfl, rfl⟩ rfl fun _ => rfl).of_view
  (State.view_modApp _ _ (fun r => { r with lastOperatingTime := some (operatingTime s.now e) }) (fun _ => rfl) fun _ => rfl)

theorem State.Core.retireAndInspect (t a : Nat) {o : MoveOutcome} (ho : o ≠ .completed) :
    (s.run [.retire t o, .inspect a]).Core :=
  h.run_steady hg (List.forall_mem_cons.mpr ⟨⟨fun hc => absurd hc ho, fun n hn => by cases hn; exact ho rfl⟩,
    List.forall_mem_singleton.mpr ⟨trivial, fun _ hn => (nomatch hn)⟩⟩)

/-- A held entry is supervised by the state in which it was when the change was taken. -/
theorem State.Core.supervise {e : Entry} (he : e.state.held = true → e ∈ s.entries) (src : Source) (after : Pos) :
    (s.supervise e src after).Core := by
  have hfaulted : (s.faulted e).Core := h.retireAndInspect hg e.ticket e.apparatus (o := .faulted) fun ho => (nomatch ho)
  have started : e.state.held = true → e.state ≠ .settling → (if after = .travelling then s.travel e
      else if after = e.target.pos then s.settle e
      else if after = .faulty then s.faulted e
      else if after = .unknown ∧ src ≠ .portLoss then s.faulted e else s).Core := fun hh hset => by
    split_ifs
    · exact h.travel (he hh) hh hset
    · exact h.settle (he hh) hh
    · exact hfaulted
    · exact hfaulted
    · exact h
  unfold State.supervise
  split
  next hst => exact started (by rw [hst]; rfl) (by rw [hst]; exact fun hx => (nomatch hx))
  next hst => exact started (by rw [hst]; rfl) (by rw [hst]; exact fun hx => (nomatch hx))
  next hst =>
    have hh : e.state.held = true := by rw [hst]; rfl
    split_ifs
    · exact h.settle (he hh) hh
    · exact h.run_retire hg e.ticket (o := .returned) fun ho => (nomatch ho)
    · exact hfaulted
    · exact hfaulted
    · exact h
  · exact h

/-- A record is marked, and the topology unit and the evaluator see it. -/
theorem State.Core.noticed (wake : Bool) (i : RecordId) : s.Spares (((s.setMarker i).topologySees wake i).evaluatorSees i) := by
  have hv : ((s.setMarker i).topologySees wake i).view = s.view := (State.view_topologySees _ _ _).trans (s.view_setMarker i)
  have hground := State.ground_kept.topologySees (State.ground_kept.setMarker hg i) wake i
  exact State.Spares.trans ⟨h.of_view hv, fun e he _ => (State.view_eq.mp hv).1 ▸ he⟩ ((h.of_view hv).evaluatorSees hground i)

theorem State.Core.appChanged (wake : Bool) (src : Source) (a : Nat) (x y : Pos) : (s.appChanged wake src a x y).Core := by
  have hnoticed := h.noticed hg wake (.apparatus a)
  have hground := State.ground_kept.noticed hg wake (.apparatus a)
  have hsup : ∀ e, s.entryOf a = some e →
      ((((s.setMarker (.apparatus a)).topologySees wake (.apparatus a)).evaluatorSees (.apparatus a)).supervise e src y).Core :=
    fun e he => hnoticed.core.supervise hground (fun hh => hnoticed.held e (List.mem_of_find?_eq_some he) hh) src y
  have judged : ∀ {u : State}, u.Core → u.Ground → (u.run [.judge a x y]).Core := fun hc hu =>
    hc.run_single hu (u := .judge a x y) trivial
  unfold State.appChanged
  dsimp only
  cases he : s.entryOf a with
  | none =>
    dsimp only
    split
    · exact judged hnoticed.core hground
    · exact hnoticed.core
  | some e =>
    dsimp only
    split
    · exact judged (hsup e he) (State.ground_kept.supervise hground e src y)
    · exact hsup e he

end

end Sys2Proof.Machine
end

section
/-! The laws of the movements under the return of a revoked entry, a port's loss and a muted port. -/

namespace Sys2Proof.Machine

/-! ### Runs taken step by step -/

/-- A run takes at least two tasks where it finds them. -/
theorem State.run_cons (s : State) (u : Task) (ts : List Task) : ∃ n, s.run (u :: ts) = Machine.runTasks (n + 2) (u :: ts) s := by
  obtain ⟨n, hn⟩ : ∃ n, taskBound s (u :: ts) = n + 2 := by
    refine ⟨taskBound s (u :: ts) - 2, ?_⟩
    have hc : 1 ≤ s.entries.length + (s.programmes.map (fun p => p.steps.length + 1)).sum + (u :: ts).length + 1 := by omega
    have hb : 32 * 1 * 1 ≤ taskBound s (u :: ts) := Nat.mul_le_mul (Nat.mul_le_mul_left 32 hc) hc
    omega
  refine ⟨n, ?_⟩
  unfold State.run
  rw [hn]

theorem Task.Plain.other {u : Task} (h : u.Plain) (t : Nat) : u ≠ .retire t .completed := by
  rintro rfl
  exact h

theorem State.modPort_missing {s : State} {p : Nat} (hp : s.ports.length ≤ p) {f : Port → Port} : s.modPort p f = s := by
  unfold State.modPort
  rw [List.modify_eq_self hp]

theorem State.dropCarry_uncoupled (s : State) {e : Entry} (hc : e.coupled = false) : s.dropCarry e = (s, false) := by
  unfold State.dropCarry
  split
  · rfl
  · split
    · rfl
    · exact if_neg fun hx => by rw [hc] at hx; cases hx.1

/-! ### The return of a revoked entry (R112, R154) -/

section
variable {s : State} (h : s.Core) (hg : s.Ground)
include h hg

omit hg in
theorem State.Core.entry_returned {e : Entry} (he : e ∈ s.entries) :
    (s.modEntry e.ticket Entry.returned).entry e.ticket = some e.returned := by
  have hd : (s.modEntry e.ticket Entry.returned).distinct := by
    unfold State.distinct State.modEntry
    rw [List.map_map, show s.entries.map (Entry.ticket ∘ fun x => if x.ticket = e.ticket then x.returned else x) =
      s.entries.map Entry.ticket from List.map_congr_left fun x _ => by
        simp only [Function.comp_apply]
        split <;> rfl]
    exact h.distinct
  exact (State.entry_eq_some_iff hd).mpr ⟨List.mem_map.mpr ⟨e, he, if_pos rfl⟩, rfl⟩

omit hg in
/-- R75: an entry of a port that the engine does not have finds it muted. -/
theorem State.Core.enqueue_returned {e : Entry} (he : e ∈ s.entries) (hp : s.ports.length ≤ e.owner) :
    (s.modEntry e.ticket Entry.returned).enqueue e.ticket =
      (s.modEntry e.ticket Entry.returned, [.retire e.ticket (.refused .portMuted)]) := by
  have hport : (s.modEntry e.ticket Entry.returned).port e.owner = Port.missing := List.getD_eq_default _ _ hp
  have hmuted : (s.modEntry e.ticket Entry.returned).muted e.owner = true := by
    rw [State.muted, hport]
    rfl
  unfold State.enqueue
  rw [h.entry_returned he]
  exact if_pos hmuted

/-- A REVOKING entry that returned, and finds no place, ends. -/
theorem State.Core.returnedRetire {e : Entry} (he : e ∈ s.entries) (hst : e.state = .revoking) (hc : e.coupled = false)
    {o : MoveOutcome} (ho : o ≠ .completed) {tail : List Task} (htail : ∀ v ∈ tail, v.Plain) (n : Nat) :
    (Machine.runTasks (n + 1) (.retire e.ticket o :: tail) (s.modEntry e.ticket Entry.returned)).Core := by
  have hh : e.state.held = true := by rw [hst]; rfl
  have hentry := h.entry_returned he
  obtain ⟨rest, hrest, heq⟩ := State.retire_eq hentry o
  have hview : (State.without (s.modEntry e.ticket Entry.returned) e.returned o).view = (s.without e o).view := by
    have hdrop := State.dropCarry_uncoupled (s.modEntry e.ticket Entry.returned) (e := e.returned) hc
    have hfilter : (s.modEntry e.ticket Entry.returned).entries.filter (fun x => x.ticket ≠ e.ticket) =
        s.entries.filter (fun x => x.ticket ≠ e.ticket) := by
      unfold State.modEntry
      rw [List.filter_map, List.filter_congr (q := fun x => decide (x.ticket ≠ e.ticket)) fun x _ => by
        simp only [Function.comp_apply]
        split <;> rfl]
      refine (List.map_congr_left fun x hx => ?_).trans (List.map_id _)
      exact if_neg (by simpa using (List.mem_filter.mp hx).2)
    unfold State.without
    rw [hdrop, if_pos hh, if_neg (by simp [Entry.returned, EntryState.held])]
    exact State.view_eq.mpr ⟨hfilter, rfl, rfl, rfl, rfl, rfl, rfl⟩
  have hv := (State.view_notify (State.without (s.modEntry e.ticket Entry.returned) e.returned o) e.returned.owner
    (.movementEnded e.ticket o e.returned.operatingTime)).trans hview
  have hplain : ∀ v ∈ rest ++ tail, v.Plain := List.forall_mem_append.mpr
    ⟨fun v hv => by rcases hrest v hv with rfl | rfl <;> trivial, htail⟩
  have hground := State.ground_kept.retire (State.ground_kept.edit e.ticket hg (f := Entry.returned) fun _ =>
    .other rfl (by simp [Entry.returned]) (by simp [Entry.returned])) e.ticket o
  show (Machine.runTasks n ((State.retire (s.modEntry e.ticket Entry.returned) e.ticket o).2 ++ tail)
    (State.retire (s.modEntry e.ticket Entry.returned) e.ticket o).1).Core
  rw [heq] at hground ⊢
  have hjudge : State.settlingJudgement (s.modEntry e.ticket Entry.returned) e.returned = [] := rfl
  dsimp only at hground ⊢
  rw [hjudge, List.nil_append, List.append_assoc]
  refine (State.Core.runTasks ((h.without he o).of_view hv) hground (.of_other ?_ ?_) n).core
  · rcases Entry.informs_cases e.returned o with hi | ⟨pt, hi⟩ <;> rw [hi]
    · exact .steady fun v hv => (hplain v hv).steady
    · refine .ready ⟨fun x hx => ?_, fun hc => absurd hc ho⟩ fun v hv => (hplain v hv).steady
      exact ((State.mem_without (s := s) (e := e) (o := o)).mp ((State.view_eq.mp hv).1 ▸ hx)).2
  · refine List.forall_mem_append.mpr ⟨?_, fun v hv => (hplain v hv).other⟩
    rcases Entry.informs_cases e.returned o with hi | ⟨pt, hi⟩ <;> rw [hi]
    · exact fun _ hv => (nomatch hv)
    · exact List.forall_mem_singleton.mpr fun _ hv => (nomatch hv)

omit hg in
/-- A REVOKING entry that returns without a queue place of its own, or with one, waits. -/
theorem State.Core.returned {e : Entry} (he : e ∈ s.entries) (hst : e.state = .revoking)
    (hplace : e.coupled = true ∨ e.ticket ∈ (s.port e.owner).queue) :
    (s.modEntry e.ticket Entry.returned).Core ∧ (s.modEntry e.ticket Entry.returned).Waits e.ticket := by
  have huniq : ∀ x ∈ s.entries, x.ticket = e.ticket → x = e := fun x hx hxe => List.inj_on_of_nodup_map h.distinct hx he hxe
  refine ⟨h.modEntry _ _ fun x hx hxt => ?_, fun x hx hxt => ?_, fun hv => ?_⟩
  · obtain rfl := huniq x hx hxt
    refine ⟨rfl, rfl, rfl, rfl, rfl, fun hh => (nomatch hh), fun _ hc => .inr (hplace.resolve_left fun hx => ?_),
      fun hset => ?_, fun hev => ?_⟩
    · have hc : x.coupled = false := hc
      rw [hx] at hc
      cases hc
    · rw [hst] at hset
      cases hset
    · rw [hst] at hev
      cases hev
  · obtain ⟨y, _, ⟨_, rfl⟩ | ⟨hne, rfl⟩⟩ := mem_modEntry hx
    · rfl
    · exact absurd hxt hne
  · obtain ⟨x, hx, hxt, hev⟩ := h.evaluating _ hv
    rw [huniq x hx hxt, hst] at hev
    cases hev

/-- R154: what follows the return of an entry. -/
def State.afterReturn (s : State) (e : Entry) : List Task := (if s.heldBack e then [.testFrozen] else []) ++ [.reoffer]

omit h hg in
theorem State.afterReturn_plain (s : State) (e : Entry) : ∀ v ∈ s.afterReturn e, v.Plain := by
  refine List.forall_mem_append.mpr ⟨?_, List.forall_mem_singleton.mpr trivial⟩
  split
  · exact List.forall_mem_singleton.mpr trivial
  · exact fun _ hv => (nomatch hv)

theorem State.Core.run_enqueue {t : Nat} (hw : s.Waits t) {tail : List Task} (htail : ∀ v ∈ tail, v.Plain) :
    (s.run (.enqueue t :: tail)).Core :=
  (h.run hg (.of_other (.ready (u := .enqueue t) hw fun v hv => (htail v hv).steady)
    (List.forall_mem_cons.mpr ⟨fun _ => Task.noConfusion, fun v hv => (htail v hv).other⟩))).core

/-- The owner of an entry that returns is a port that the engine does not have. -/
theorem State.Core.returnedMissing {e : Entry} (he : e ∈ s.entries) (hst : e.state = .revoking) (hc : e.coupled = false)
    (hp : s.ports.length ≤ e.owner) {tail : List Task} (htail : ∀ v ∈ tail, v.Plain) :
    (State.run ((s.modEntry e.ticket Entry.returned).queueHead e.owner e.ticket) (.enqueue e.ticket :: tail)).Core := by
  rw [State.queueHead, State.modPort_missing (s := s.modEntry e.ticket Entry.returned) hp]
  obtain ⟨n, hn⟩ := State.run_cons (s.modEntry e.ticket Entry.returned) (.enqueue e.ticket) tail
  have hfirst := congrArg (fun r : State × List Task => (Machine.runTasks (n + 1) (r.2 ++ tail) r.1).Core)
    (h.enqueue_returned he hp)
  exact (congrArg State.Core hn).mpr (hfirst.mpr (h.returnedRetire hg he hst hc (o := .refused .portMuted)
    (fun ho => (nomatch ho)) htail n))

theorem State.Core.freezeReturn {e : Entry} (he : e ∈ s.entries) (hst : e.state = .revoking) : (s.freezeReturn e).Core := by
  have hground : State.Ground (s.modEntry e.ticket Entry.returned) := State.ground_kept.edit e.ticket hg (f := Entry.returned)
    fun _ => .other rfl (by simp [Entry.returned]) (by simp [Entry.returned])
  have hplain := s.afterReturn_plain e
  unfold State.freezeReturn
  dsimp only
  split
  next hc =>
    obtain ⟨hcore, hw⟩ := h.returned he hst (.inl hc)
    exact hcore.run_enqueue hground hw hplain
  next hc =>
    have hc : e.coupled = false := Bool.eq_false_iff.mpr hc
    split
    · obtain ⟨n, hn⟩ := State.run_cons (s.modEntry e.ticket Entry.returned) (.retire e.ticket (.refused .queueFull))
        (s.afterReturn e)
      exact (congrArg State.Core hn).mpr (h.returnedRetire hg he hst hc
        (o := .refused .queueFull) (fun ho => (nomatch ho)) hplain (n + 1))
    next hroom =>
      by_cases howner : e.owner < s.ports.length
      · have hlen : (s.port e.owner).queue.length < 4 := by
          simpa [State.queueFull, Config.maxQueue] using hroom
        have hhead := h.queueHead e.owner e.ticket (.inr hlen)
        have hin : e.ticket ∈ ((s.queueHead e.owner e.ticket).port e.owner).queue := by
          unfold State.queueHead
          rw [State.port_modPort, if_pos ⟨rfl, howner⟩]
          exact List.mem_cons_self
        obtain ⟨hcore, hw⟩ := hhead.returned he hst (.inr hin)
        exact hcore.run_enqueue (State.ground_kept.queueHead hground _ _) hw hplain
      · exact h.returnedMissing hg he hst hc (Nat.le_of_not_lt howner) hplain

end

end Sys2Proof.Machine
end

section
/-! The laws of the movements under a port's loss and a muted port. -/

namespace Sys2Proof.Machine

section
variable {s : State} (h : s.Core) (hg : s.Ground)
include h hg

/-! ### The loss of an owner port (R115, R134) -/

omit hg h in
theorem State.Within.leaves {s t : State} (hw : s.Within t) (hv : t.view = s.view) : s.Leaves t :=
  (State.Follows.of_view hv none).leaves hw.portState

/-- An entry that is retired is gone, and a LOST port has no new one. -/
theorem State.Core.run_retire_lost (t : Nat) {o : MoveOutcome} (ho : o ≠ .completed) :
    s.Leaves (s.run [.retire t o]) ∧ ∀ x ∈ (s.run [.retire t o]).entries, x.state ≠ .settling →
      (s.port x.owner).state = .lost → x.ticket ≠ t := by
  have hready : (Task.retire t o).Ready s := fun hc => absurd hc ho
  obtain ⟨n, hn⟩ := s.run_cons (.retire t o) []
  have hnext := h.runTask hg hready
  have hports := (s.runTask_within (.retire t o)).portState
  have hrun := (hnext.core.runTasks (State.ground_kept.runTask hg _)
    (h.orderly_ready (ts := []) hg hready (fun _ hv => (nomatch hv)) (fun _ hv => (nomatch hv)) List.Pairwise.nil) (n + 1)).leaves
  have hrun : (s.runTask (.retire t o)).1.Leaves (s.run [.retire t o]) := hn ▸ hrun
  refine ⟨(hnext.follows.leaves hports).trans hrun, fun x hx hst hlost hxt => ?_⟩
  obtain ⟨y, hy, hyt, _⟩ := hrun.lost x hx hst ((hports _).trans hlost)
  have hgone : ∀ z ∈ (s.retire t o).1.entries, z.ticket ≠ t := by
    cases hentry : s.entry t with
    | none =>
      rw [State.retire_none hentry]
      intro z hz hzt
      exact absurd ((State.entry_eq_some_iff h.distinct).mpr ⟨hz, hzt⟩) (by simp [hentry])
    | some e =>
      obtain ⟨rest, _, heq⟩ := State.retire_eq hentry o
      intro z hz
      rw [heq] at hz
      have hz := (State.view_eq.mp (State.view_notify _ _ _)).1 ▸ hz
      exact (State.entry_mem hentry).2 ▸ (State.mem_without.mp hz).2
  exact hgone y hy (hyt.trans hxt)

/-- The entries of a LOST port end one by one. -/
theorem State.Core.loseEntries {p : Nat} (hlost : (s.port p).state = .lost) (l : List Entry)
    (hl : ∀ x ∈ s.entries, x.owner = p → x.state ≠ .settling → ∃ e ∈ l, e.ticket = x.ticket) :
    (l.foldl (fun acc e => acc.loseEntry p e) s).Core ∧ (l.foldl (fun acc e => acc.loseEntry p e) s).Ground ∧
    ((l.foldl (fun acc e => acc.loseEntry p e) s).port p).state = .lost ∧
    ∀ x ∈ (l.foldl (fun acc e => acc.loseEntry p e) s).entries, x.owner = p → x.state = .settling := by
  induction l generalizing s with
  | nil =>
    refine ⟨h, hg, hlost, fun x hx hxo => ?_⟩
    by_contra hst
    obtain ⟨_, he, _⟩ := hl x hx hxo hst
    cases he
  | cons e l ih =>
    have hrevoke : ∃ u : State, u.Core ∧ u.Ground ∧ s.Leaves u ∧ s.loseEntry p e = u.run [.retire e.ticket .portLost] := by
      unfold State.loseEntry
      split
      · exact ⟨_, h.of_view (s.view_sendRevoke e), State.ground_kept.sendRevoke hg e,
          (s.sendRevoke_within e).leaves (s.view_sendRevoke e), rfl⟩
      · exact ⟨s, h, hg, .refl s, rfl⟩
    obtain ⟨u, hu, hgu, hleaves, heq⟩ := hrevoke
    have hports := hleaves.ports
    obtain ⟨hrun, hgone⟩ := hu.run_retire_lost hgu e.ticket (o := .portLost) fun ho => (nomatch ho)
    rw [List.foldl_cons, heq]
    refine ih (hu.run_retire hgu e.ticket fun ho => (nomatch ho)) (State.ground_kept.run hgu _)
      ((hrun.ports p).trans ((hports p).trans hlost)) fun x hx hxo hst => ?_
    have hlostx : (s.port x.owner).state = .lost := hxo ▸ hlost
    obtain ⟨y, hy, hyt, hyo, hyst⟩ := (hleaves.trans hrun).lost x hx hst hlostx
    obtain ⟨z, hz, hzt⟩ := hl y hy (hyo.trans hxo) hyst
    rcases List.mem_cons.mp hz with rfl | hz
    · exact absurd (hzt.trans hyt).symm (hgone x hx hst ((hports _).trans hlostx))
    · exact ⟨z, hz, hzt.trans hyt⟩

theorem State.Core.loseOwner {p : Nat} (hlost : (s.port p).state = .lost) : (s.loseOwner p).Core := by
  obtain ⟨hcore, hground, hlost', hnone⟩ := h.loseEntries hg hlost (s.lostEntries p) fun x hx hxo hst =>
    ⟨x, List.mem_filter.mpr ⟨hx, by simp [hxo, hst]⟩, rfl⟩
  unfold State.loseOwner
  dsimp only
  generalize (s.lostEntries p).foldl (fun acc e => acc.loseEntry p e) s = u at hcore hground hlost' hnone
  refine hcore.run_steady hground (List.forall_mem_map.mpr fun t ht => ⟨?_, fun _ => Task.noConfusion⟩)
  obtain ⟨g, hg, rfl⟩ := List.mem_map.mp ht
  obtain ⟨hg, hgo⟩ := List.mem_filter.mp hg
  have hgo : g.owner = p := beq_iff_eq.mp hgo
  refine ⟨fun x hx hxg => ?_, fun e he hst k hk => ?_⟩
  · rw [List.inj_on_of_nodup_map hcore.named hx hg hxg, hgo]
    exact hlost'
  · obtain ⟨x, hx, hxg, _, hxo⟩ := hcore.moves e he hst _ k hk
    rw [List.inj_on_of_nodup_map hcore.named hx hg hxg] at hxo
    exact hst (hnone e he (hxo.symm.trans hgo))

/-! ### A muted port (R75, R133) -/

omit h hg in
theorem Task.steady_of_refusals {s : State} {l : List Task} (hl : ∀ v ∈ l, ∃ t r, v = .retire t (.refused r)) :
    ∀ v ∈ l, v.Steady s ∧ ∀ t, v ≠ .retire t .completed := fun v hv => by
  obtain ⟨t, r, rfl⟩ := hl v hv
  exact ⟨fun hc => (nomatch hc), fun n hn => (nomatch hn)⟩

/-- R133: WAITING programmes stop, which brings about nothing more, before the entries end. -/
theorem State.Core.stopWaiting (l : List Nat) (hl : ∀ g ∈ s.programmes, g.ticket ∈ l → g.state = .waiting) (r : StopReason)
    {ts : List Task} (hts : ∀ v ∈ ts, ∃ t r, v = .retire t (.refused r)) (n : Nat) :
    (Machine.runTasks n (l.map (fun t => .stop t r) ++ ts) s).Core := by
  induction l generalizing s n with
  | nil =>
    have hs := Task.steady_of_refusals (s := s) hts
    exact (h.runTasks hg (.of_other (.steady fun v hv => (hs v hv).1) fun v hv => (hs v hv).2) n).core
  | cons t l ih =>
    cases n with
    | zero => exact h
    | succ n =>
      have hfreed : s.Freed t := fun e he hst k hk => by
        obtain ⟨g, hg', hgt, hm, _⟩ := h.moves e he hst t k hk
        rw [(h.waits g hg').2 (hl g hg' (hgt ▸ List.mem_cons_self))] at hm
        cases hm
      have hstop := h.stop (r := r) hfreed
      have htasks : (s.stopProgramme t r).2 = [] ∧ ∀ g ∈ (s.stopProgramme t r).1.programmes, g ∈ s.programmes := by
        cases hprog : s.programme t with
        | none =>
          simp only [State.stopProgramme, hprog]
          exact ⟨trivial, fun g hg => hg⟩
        | some g =>
          obtain ⟨hmem, rfl⟩ := State.programme_mem hprog
          have hcarry : g.carry = none := by
            have hwaiting := hl g hmem List.mem_cons_self
            by_contra hc
            rcases h.carries g hmem (Option.isSome_iff_ne_none.mpr hc) with ⟨_, hn⟩ | ⟨e, _, hm, _⟩
            · exact hn hwaiting
            · rw [(h.waits g hmem).2 hwaiting] at hm
              cases hm
          simp only [State.stopProgramme, hprog, State.endProgramme, hcarry, Option.isSome_none, Bool.false_eq_true, if_false]
          refine ⟨trivial, fun x hx => ?_⟩
          rw [(State.view_eq.mp (State.view_notify _ _ _)).2.1] at hx
          exact List.mem_of_mem_filter hx
      have hground := State.ground_kept.runTask hg (.stop t r)
      have hrest := ih (s := (s.stopProgramme t r).1) hstop.core hground
        (fun g hg hgl => hl g (htasks.2 g hg) (List.mem_cons_of_mem t hgl)) n
      have hlist := congrArg (fun new => (Machine.runTasks n (new ++ (l.map (fun t => .stop t r) ++ ts))
        (s.stopProgramme t r).1).Core) htasks.1
      exact hlist.mpr hrest

theorem State.Core.mute (p : Nat) : (s.mute p).Core := by
  refine h.stopWaiting hg (s.waitingProgrammes p) (fun g hmem hgl => ?_) _ (List.forall_mem_map.mpr fun t _ => ⟨t, _, rfl⟩) _
  obtain ⟨x, hx, hxg⟩ := List.mem_map.mp hgl
  obtain ⟨hx, hst⟩ := List.mem_filter.mp hx
  rw [← List.inj_on_of_nodup_map h.named hx hmem hxg]
  simp only [Bool.and_eq_true, beq_iff_eq] at hst
  exact hst.2

theorem State.Core.setPriority (n v : Nat) : (s.setPriority n v).1.Core := by
  have hp : State.Core (s.modPort n (fun q => { q with priority := min v 15 })) := h.of_view (s.view_modPort n _ fun _ => rfl)
  unfold State.setPriority
  split
  · exact h
  · split
    · exact h
    · dsimp only
      split
      · exact hp.mute (s := s.modPort n (fun q => { q with priority := min v 15 })) hg n
      · exact hp

end

end Sys2Proof.Machine
end

section
/-! The laws of the movements under the yard image, the requests that name a ticket, the expiries and the freeze. -/

namespace Sys2Proof.Machine

/-- The laws that are kept together. -/
def State.Sound (s : State) : Prop := s.Ground ∧ s.Core

theorem State.sound_sees : Sees State.Sound where
  other hs ht hv := ⟨State.ground_kept.other hs.1 ht, hs.2.of_view hv⟩
  heldEdit i f hs := ⟨State.ground_kept.heldEdit i f hs.1, hs.2.of_view rfl⟩
  heldOut hs := ⟨State.ground_kept.heldOut hs.1, hs.2.of_view rfl⟩
  heldIn i c hs hl hn := ⟨State.ground_kept.heldIn i c hs.1 hl hn, hs.2.of_view rfl⟩
  evaluatorSees i hs := ⟨State.ground_kept.evaluatorSees hs.1 i, (hs.2.evaluatorSees hs.1 i).core⟩
  appChanged wake src a x y hs := ⟨State.ground_kept.appChanged hs.1 wake src a x y, hs.2.appChanged hs.1 wake src a x y⟩
  blockingEvent a hs := ⟨State.ground_kept.sees.blockingEvent a hs.1, hs.2.run_steady hs.1
    (List.forall_mem_map.mpr fun _ _ => ⟨trivial, fun _ => Task.noConfusion⟩)⟩
  publishAndHandOn w hs := ⟨State.ground_kept.publishAndHandOn hs.1 w, hs.2.publishAndHandOn hs.1 w⟩

section
variable {s : State} (h : s.Core) (hg : s.Ground)
include h hg

/-! ### CANCEL (R110, R131) -/

theorem State.Core.cancelEntry {e : Entry} (he : e ∈ s.entries) : (s.cancelEntry e).Core := by
  have hretire := h.run_retire hg e.ticket (o := .cancelled) fun ho => (nomatch ho)
  unfold State.cancelEntry
  split
  · exact hretire
  · exact hretire
  · exact hretire
  next hst =>
    refine h.modEntry _ _ fun x hx hxt => ?_
    exact ⟨rfl, rfl, rfl, rfl, rfl, fun hh => ⟨hh, rfl, rfl⟩, fun hh _ => .inl hh, id, .inl⟩
  next hst =>
    have hv := s.view_sendRevoke e
    have hh : e.state.held = true := by rw [hst]; rfl
    exact (h.of_view hv).editHeld ((State.view_eq.mp hv).1 ▸ he) hh
      (fun x => { x with state := .revoking, flavour := some .cancel }) ⟨rfl, rfl, rfl, rfl, rfl, rfl, rfl⟩ rfl
      fun hset => by rw [hst] at hset; cases hset
  next hst =>
    refine h.modEntry _ _ fun x hx hxt => ?_
    exact ⟨rfl, rfl, rfl, rfl, rfl, fun hh => ⟨hh, rfl, rfl⟩, fun hh _ => .inl hh, id, .inl⟩
  · exact h
  · exact h

theorem State.Core.cancelProgramme {g : Programme} (hmem : g ∈ s.programmes) : (s.cancelProgramme g).Core := by
  unfold State.cancelProgramme
  split
  next hst =>
    refine h.run_single hg (u := .stop g.ticket (.outcome .cancelled)) (h.no_entry_of hmem fun t ht => ?_)
    rw [(h.waits g hmem).2 hst] at ht
    cases ht
  · exact h
  next hst =>
    have hstop : State.Core (s.modProgramme g.ticket (fun q => { q with state := .stopping })) := by
      refine h.modProgramme _ fun x hx hxg => ?_
      obtain rfl := List.inj_on_of_nodup_map h.named hx hmem hxg
      refine ⟨⟨rfl, rfl, rfl, ⟨fun hw => ?_, fun hw => (nomatch hw)⟩, fun _ _ _ _ _ => rfl, fun hc => ?_⟩, .inr rfl⟩
      · rw [(h.waits x hx).1 hw] at hst
        cases hst
      · exact (h.carries x hx hc).imp_left fun hm => ⟨hm.1, fun hw => (nomatch hw)⟩
    have hground := State.ground_kept.programmeEdit g.ticket (fun q => { q with state := .stopping }) hg
    dsimp only
    split
    · exact hstop
    · split
      next he => exact hstop.cancelEntry hground (State.entry_mem he).1
      · exact hstop

omit h hg in
theorem State.mem_of_named_entry {t : Nat} {e : Entry} (hn : s.named t = .entry e) : e ∈ s.entries ∧ e.ticket = t := by
  unfold State.named at hn
  split at hn
  next he =>
    cases hn
    exact State.entry_mem he
  · split at hn
    · cases hn
    · split at hn <;> cases hn

omit h hg in
theorem State.mem_of_named_programme {t : Nat} {g : Programme} (hn : s.named t = .programme g) : g ∈ s.programmes := by
  unfold State.named at hn
  split at hn
  · cases hn
  · split at hn
    next hg =>
      cases hn
      exact (State.programme_mem hg).1
    · split at hn <;> cases hn

theorem State.Core.cancel (p t : Nat) : (s.cancel p t).1.Core := by
  unfold State.cancel
  split
  · exact h
  next hn =>
    split
    · exact h.cancelProgramme hg (State.mem_of_named_programme hn)
    · exact h
  · exact h
  next hn =>
    split
    · split
      · exact h
      · exact h.cancelEntry hg (State.mem_of_named_entry hn).1
    · exact h

/-! ### AMEND, EXTEND and REVOKE ANSWER (R106, R108, R109, R112) -/

/-- R109: an entry that waits takes its new target and is a candidate again. -/
theorem State.Core.amendWaiting {e : Entry} (hw : s.Waits e.ticket) (t : Target) :
    s.Spares (s.modEntry e.ticket (fun x => x.amended t)) ∧ (s.modEntry e.ticket (fun x => x.amended t)).Waits e.ticket ∧
      State.Ground (s.modEntry e.ticket (fun x => x.amended t)) := by
  obtain ⟨hspares, hstill⟩ := h.editWaiting hw (fun x => x.amended t) fun x hx hxt => ⟨rfl, rfl, rfl, rfl, rfl, hw.1 x hx hxt⟩
  exact ⟨hspares, hstill, State.ground_kept.edit e.ticket hg fun x => ⟨rfl, fun hr => hr, fun _ d hd => by cases hd⟩⟩

theorem State.Core.amendEntry {e : Entry} (he : e ∈ s.entries) (hp : e.programme = none) (t : Target) :
    (s.amendEntry e t).1.Core := by
  have again : ∀ st, e.state = st → st.held = false → st ≠ .evaluating →
      (State.run (s.modEntry e.ticket (fun x => x.amended t)) [.enqueue e.ticket]).Core := by
    rintro st rfl hh hev
    obtain ⟨hspares, hstill, hground⟩ := h.amendWaiting hg (h.waits_of_state he hh hev) t
    exact (hspares.core.spares_enqueue hground hstill).core
  unfold State.amendEntry
  split
  next hst => exact again _ hst rfl fun hx => (nomatch hx)
  next hst => exact again _ hst rfl fun hx => (nomatch hx)
  next hst =>
    exact (h.amendWaiting hg (h.waits_of_state he (by rw [hst]; rfl) (by rw [hst]; exact fun hx => (nomatch hx))) t).1.core
  next hst =>
    have hw : State.Waits { s with evaluation := none } e.ticket := by
      refine ⟨fun x hx hxt => ?_, fun hn => (nomatch hn)⟩
      rw [List.inj_on_of_nodup_map h.distinct hx he hxt, hst]
      rfl
    obtain ⟨hspares, hstill, hground⟩ := h.freeEvaluator.amendWaiting hg hw t
    have hin : e.amended t ∈ (State.modEntry { s with evaluation := none } e.ticket (fun x => x.amended t)).entries :=
      List.mem_map.mpr ⟨e, he, if_pos rfl⟩
    have hcoupled : e.coupled = false := Bool.eq_false_iff.mpr fun hc => by
      have hsome := h.coupled e he hc
      rw [hp] at hsome
      cases hsome
    have hhead := hspares.core.headWaiting hin (hw.1 e he rfl) hcoupled
    exact (hhead.core.spares_enqueue (State.ground_kept.queueHead hground _ _) hstill).core
  all_goals exact h

theorem State.Core.amend (p : Nat) (x : Nat × Target) : (s.amend p x).1.Core := by
  unfold State.amend
  split
  · exact h
  · exact h
  · exact h
  next e hn =>
    split_ifs with _ hp
    · exact h
    · exact h
    · exact h
    · exact h
    · exact h.amendEntry hg (State.mem_of_named_entry hn).1 (by simpa using hp) _

omit hg in
theorem State.Core.extend (p : Nat) (x : Nat × Time) : (s.extend p x).1.Core := by
  unfold State.extend
  split
  · exact h
  · exact h
  · exact h
  · split
    · unfold State.extendEntry
      split_ifs
      · exact h
      · refine h.modEntry _ _ fun y hy hyt => ?_
        exact ⟨rfl, rfl, rfl, rfl, rfl, fun hh => ⟨hh, rfl, rfl⟩, fun hh _ => .inl hh, id, .inl⟩
      · exact h
    · exact h

theorem State.Core.revokeAnswer (p : Nat) (x : Nat × RevokeReply) : (s.revokeAnswer p x).1.Core := by
  unfold State.revokeAnswer
  split
  · exact h
  · exact h
  · exact h
  next e hn =>
    have he := (State.mem_of_named_entry hn).1
    split
    · unfold State.revokeEntry
      split
      next hst =>
        split
        · exact h.travel he (by rw [hst]; rfl) (by rw [hst]; exact fun hx => (nomatch hx))
        · split
          · exact h.freezeReturn hg he hst
          · exact h.run_retire hg e.ticket (o := .cancelled) fun ho => (nomatch ho)
      · exact h
    · exact h

/-! ### Expiries (R87, R100, R103, R125) -/

theorem State.Core.deferralExpiry (t : Nat) : (s.deferralExpiry t).Core := by
  unfold State.deferralExpiry
  split
  · exact h
  next e _ =>
    have hretire := h.run_retire hg t (o := .refused e.causeReason) fun ho => (nomatch ho)
    split
    · split
      · exact hretire
      · exact hretire
      · refine h.of_view (State.view_eq.mpr ⟨rfl, rfl, rfl, rfl, ?_, rfl, rfl⟩)
        cases s.evaluation <;> rfl
      all_goals exact h
    · exact h

theorem State.Core.startWindowExpiry (t : Nat) : (s.startWindowExpiry t).Core := by
  unfold State.startWindowExpiry
  split
  · exact h
  next e he =>
    split
    · split
      · exact (h.of_view (s.view_sendRevoke e)).run_retire (State.ground_kept.sendRevoke hg e) t (o := .lapsed)
          fun ho => (nomatch ho)
      next hst =>
        split
        · exact h.freezeReturn hg (State.entry_mem he).1 hst
        · exact h.run_retire hg t (o := .cancelled) fun ho => (nomatch ho)
      all_goals exact h
    · exact h

theorem State.Core.travelExpiry (t : Nat) : (s.travelExpiry t).Core := by
  unfold State.travelExpiry
  split
  · exact h
  · split
    · exact h.retireAndInspect hg t _ (o := .timedOut) fun ho => (nomatch ho)
    · exact h

theorem State.Core.waitingExpiry (t : Nat) : (s.waitingExpiry t).Core := by
  unfold State.waitingExpiry
  split
  · exact h
  next g hprog =>
    obtain ⟨hmem, rfl⟩ := State.programme_mem hprog
    split
    next hw =>
      refine h.run_single hg (u := .stop g.ticket .noRoom) (h.no_entry_of hmem fun t ht => ?_)
      rw [(h.waits g hmem).2 ((h.waits g hmem).1 (by rw [hw]; rfl))] at ht
      cases ht
    · exact h

/-! ### The freeze (R149, R157) -/

omit h hg in
/-- R149: what a FREEZE does to one entry. -/
theorem State.freezeEntry_cases (s : State) (e : Entry) : s.freezeEntry e = s ∨
    (e.state.held = false ∧ e.state ≠ .evaluating ∧
      s.freezeEntry e = s.modEntry e.ticket (fun x => { x with state := .suspended })) ∨
    (e.state = .released ∧ s.freezeEntry e =
      (s.sendRevoke e).modEntry e.ticket (fun x => { x with state := .revoking, flavour := some .freeze })) := by
  unfold State.freezeEntry
  split
  · split
    next hst => exact .inr (.inl ⟨by rw [hst]; rfl, by rw [hst]; exact fun hx => (nomatch hx), rfl⟩)
    next hst => exact .inr (.inl ⟨by rw [hst]; rfl, by rw [hst]; exact fun hx => (nomatch hx), rfl⟩)
    next hst => exact .inr (.inr ⟨hst, rfl⟩)
    all_goals exact .inl rfl
  · exact .inl rfl

omit hg in
theorem State.Core.freezeEntries (l : List Entry) (hn : (l.map Entry.ticket).Nodup) (hl : ∀ e ∈ l, e ∈ s.entries) :
    (l.foldl State.freezeEntry s).Core := by
  induction l generalizing s with
  | nil => exact h
  | cons e l ih =>
    obtain ⟨hnot, hn⟩ := List.nodup_cons.mp hn
    have he := hl e List.mem_cons_self
    have hlater : ∀ f : Entry → Entry, ∀ x ∈ l, x ∈ (s.modEntry e.ticket f).entries := fun f x hx =>
      List.mem_map.mpr ⟨x, hl x (List.mem_cons_of_mem e hx), if_neg fun (hxe : x.ticket = e.ticket) =>
        hnot (hxe ▸ List.mem_map_of_mem hx)⟩
    rw [List.foldl_cons]
    rcases s.freezeEntry_cases e with heq | ⟨hh, hev, heq⟩ | ⟨hst, heq⟩ <;> rw [heq]
    · exact ih h hn fun x hx => hl x (List.mem_cons_of_mem e hx)
    · exact ih (h.editWaiting (h.waits_of_state he hh hev) (fun x => { x with state := .suspended })
        fun _ _ _ => ⟨rfl, rfl, rfl, rfl, rfl, rfl⟩).1.core hn (hlater _)
    · have hv := s.view_sendRevoke e
      have hentries := (State.view_eq.mp hv).1
      refine ih ((h.of_view hv).editHeld (hentries ▸ he) (by rw [hst]; rfl)
        (fun x => { x with state := .revoking, flavour := some .freeze }) ⟨rfl, rfl, rfl, rfl, rfl, rfl, rfl⟩ rfl
        fun hset => by rw [hst] at hset; cases hset) hn ?_
      unfold State.modEntry
      rw [hentries]
      exact hlater _

omit hg in
theorem State.Core.freeze : s.freeze.1.Core := by
  unfold State.freeze
  split
  · exact h
  · have hv := s.view_changeMode .freezing
    have hentries := (State.view_eq.mp hv).1
    dsimp only [State.freezeYard]
    exact ((h.of_view hv).freezeEntries s.entries h.distinct fun e he => by rwa [hentries]).of_view (State.view_testFrozen _)

theorem State.Core.thaw : s.thaw.1.Core := by
  unfold State.thaw
  split
  next hf =>
    have hv := s.view_changeMode .service
    have hentries := (State.view_eq.mp hv).1
    have hground : (s.changeMode .service).Ground :=
      State.ground_kept.changeMode hg (by simp) (fun hr => by rw [hr] at hf; cases hf) (by simp)
    dsimp only [State.thawYard]
    refine (h.of_view hv).run_steady hground (List.forall_mem_map.mpr fun t ht => ⟨?_, fun _ => Task.noConfusion⟩)
    obtain ⟨e, he, rfl⟩ := List.mem_map.mp ht
    obtain ⟨he, hst⟩ := List.mem_filter.mp he
    have hst : e.state = .suspended := beq_iff_eq.mp hst
    exact (h.of_view hv).waits_of_state (by rwa [hentries]) (by rw [hst]; rfl) (by rw [hst]; exact fun hx => (nomatch hx))
  · exact h

end

end Sys2Proof.Machine
end

section
/-! The laws of the movements under what is requested, the links, the modes, the restrictions and the clock. -/

namespace Sys2Proof.Machine

/-! ### Empty tables (R119, R178, R184) -/

/-- The laws of the movements where there is none. -/
theorem State.Core.of_empty {s : State} (he : s.entries = []) (hp : s.programmes = []) (hv : s.evaluation = none)
    (hc : 1 ≤ s.ticketCounter ∧ s.ticketCounter ≤ 65535) (hq : ∀ q ∈ s.ports, q.queue.length ≤ 4) : s.Core := by
  have hentries : ∀ {P : Entry → Prop}, ∀ e ∈ s.entries, P e := fun e hmem => by
    rw [he] at hmem
    cases hmem
  have hprogrammes : ∀ {P : Programme → Prop}, ∀ g ∈ s.programmes, P g := fun g hmem => by
    rw [hp] at hmem
    cases hmem
  refine { sorted := ?_, counter := hc, short := hq, queued := hentries, coupled := hentries, apart := ?_, recorded := hentries,
           steps := hprogrammes, evaluating := fun t ht => ?_, named := ?_, owners := hprogrammes, waits := hprogrammes,
           moves := hentries, carries := hprogrammes, reserved := ?_ }
  · rw [he]
    exact List.Pairwise.nil
  · rw [he]
    exact List.nodup_nil
  · rw [hv] at ht
    cases ht
  · rw [hp]
    exact List.nodup_nil
  · unfold State.reservationLaw
    rw [State.entryReservations_eq, State.carryReservations_none, he, hp]
    exact List.Pairwise.nil

theorem State.Core.evaluation_none {s : State} (h : s.Core) (he : s.entries = []) : s.evaluation = none := by
  by_contra hn
  obtain ⟨v, hv⟩ := Option.ne_none_iff_exists'.mp hn
  obtain ⟨e, hmem, _⟩ := h.evaluating v.ticket (by rw [hv]; rfl)
  rw [he] at hmem
  cases hmem

theorem State.core_resetTo (s : State) (c : ResetCause) : (s.resetTo c).Core :=
  .of_empty rfl rfl rfl (show 1 ≤ 1 ∧ 1 ≤ 65535 by decide) fun q hq => by
    obtain ⟨d, _, rfl⟩ := List.mem_map.mp hq
    exact Nat.zero_le _

theorem State.view_beginGathering (s : State) : s.beginGathering.view = s.view := by
  have hpass : ∀ u : State, (u.startPass false).view = u.view := fun _ => rfl
  unfold State.beginGathering
  rw [hpass, State.view_changeMode]
  rfl

theorem State.view_enterMaintenance (s : State) : s.enterMaintenance.view = s.view := by
  unfold State.enterMaintenance
  rw [State.view_changeMode]
  rfl

theorem State.view_dropChanged (s : State) : s.dropChanged.view = s.view :=
  foldl_keeps (P := fun u => u.view = s.view) _ (fun _ hu => hu) rfl

theorem Port.takeRole_queue (q : Port) (d : PortDesc) : (q.takeRole d).queue = q.queue := by
  unfold Port.takeRole
  split <;> rfl

section
variable {s : State} (h : s.Core) (hg : s.Ground)
include h hg

theorem State.Core.restartExpiry : s.restartExpiry.Core := by
  unfold State.restartExpiry
  split
  next hm =>
    obtain ⟨he, hp⟩ := hg.1 (.inl hm.1)
    have hports : ∀ l : List PortDesc, ∀ q ∈ takeRoles s.ports l, q.queue.length ≤ 4 := fun l =>
      forall_mem_zipWith fun q hq d _ => (congrArg List.length (q.takeRole_queue d)).trans_le (h.short q hq)
    split
    · refine State.Core.of_view ?_ (State.view_beginGathering _)
      exact .of_empty he hp (h.evaluation_none he) h.counter (hports _)
    · refine State.Core.of_view ?_ (State.view_changeMode _ _)
      exact .of_empty he hp (h.evaluation_none he) h.counter (hports _)
  · exact h

theorem State.Core.leave (p : Nat) (hm : s.mode = .maintenance) : (s.leave p).1.Core := by
  obtain ⟨he, hp⟩ := hg.1 (.inr (.inr hm))
  obtain ⟨hentries, hprog, -, -, heval, hcounter, -⟩ := State.view_eq.mp s.view_dropChanged
  unfold State.leave
  split
  · exact h
  · dsimp only [State.leaveMaintenance]
    refine State.Core.of_view ?_ (State.view_beginGathering _)
    refine .of_empty (hentries.trans he) (hprog.trans hp) ?_ ?_ fun q hq => ?_
    · rw [h.evaluation_none he] at heval
      exact Option.map_eq_none_iff.mp heval
    · exact hcounter ▸ h.counter
    · obtain ⟨r, hr, d, _, b, rfl⟩ := (leavePorts_eq p 0 s.ports s.store.ports).2 q hq
      exact (congrArg List.length (r.takeRole_queue d)).trans_le (h.short r hr)

omit hg in
theorem State.Core.enter : s.enter.1.Core := by
  unfold State.enter
  split
  · dsimp only
    exact h.of_view s.view_enterMaintenance
  · exact h

omit hg in
theorem State.Core.loadYard (x : YardOp) : (s.loadYard x).1.Core := by
  have hadd : ∀ (u : State) (a : Nat), (u.addWritten a).view = u.view := fun u a => by
    unfold State.addWritten
    split <;> rfl
  refine h.of_view ?_
  cases x with
  | writeNode n k m q =>
    simp only [State.loadYard, State.writeNode]
    split <;> rfl
  | removeNode n =>
    simp only [State.loadYard, State.removeNode]
    split
    · rfl
    · split <;> rfl
  | writeApparatus d =>
    simp only [State.loadYard, State.writeApparatus]
    split
    · dsimp only
      rw [hadd]
      rfl
    · rfl
  | removeApparatus n =>
    simp only [State.loadYard, State.removeApparatus]
    split
    · rfl
    · split
      · dsimp only
        rw [hadd]
        rfl
      · rfl
  | writePort q d =>
    simp only [State.loadYard, State.writePort]
    split <;> rfl
  | writeSettings x => rfl

/-! ### Movements and programmes requested (R92, R97, R123) -/

omit h hg in
/-- A port that may send requests is one of the engine's. -/
theorem State.Admits.port {p : Nat} {k : RequestKind} (ha : s.Admits p k) : p < s.ports.length := by
  by_contra hn
  have hmissing : s.port p = Port.missing := List.getD_eq_default _ _ (Nat.le_of_not_lt hn)
  have hrole := ha.role
  rw [hmissing] at hrole
  cases k <;> cases hrole

theorem State.Core.moveRequest (p : Nat) (x : Nat × Target) (ha : s.Admits p .moveRequest) : (s.moveRequest p x).1.Core := by
  unfold State.moveRequest
  split
  · exact h
  next hc =>
    obtain ⟨hdesc, hfree, hqueue, _⟩ := State.moveCheck_none hc
    have hroom : s.Room p x.1 false :=
      { tables := hg.2.1, port := ha.port, record := hg.record (fun hm => not_idle_of_working ha.mode (.inl hm)) hdesc, free := hfree, place := fun _ => hqueue }
    have hmade := h.makeEntry hroom x.2 (prog := none) (fun hx => (nomatch hx)) id (fun _ => ⟨rfl, rfl, rfl, rfl⟩) h.waits
      (fun _ _ => .inl rfl) fun _ _ hx => (nomatch hx)
    refine hmade.of_view ?_
    rw [State.makeEntry_eq, List.map_id]

/-- A programme that is new starts its first step, whatever the state of its owner port. -/
theorem State.Core.startNew {g : Programme} (hmem : g ∈ s.programmes) (hm : g.movement = none) (hcarry : g.carry = none) :
    (s.run [.start g.ticket]).Core := by
  have hstarted : (s.startStep g.ticket).1.Core ∧ (s.startStep g.ticket).1.Chain (s.startStep g.ticket).2 ∧
      ∀ v ∈ (s.startStep g.ticket).2, v.Light (s.startStep g.ticket).1 := by
    rcases s.startStep_cases g.ticket with heq | ⟨x, st, hx, hxg, hst, hcases⟩
    · rw [heq]
      exact ⟨h, .nil s, fun _ hv => (nomatch hv)⟩
    · obtain rfl := List.inj_on_of_nodup_map h.named hx hmem hxg
      rcases hcases with ⟨r, heq⟩ | heq | ⟨hfree, hplace, heq⟩ <;> rw [heq]
      · have hend := h.endsProgramme (h.no_entry_of hmem fun t ht => by rw [hm] at ht; cases ht) r .reoffer
        exact ⟨hend.core, hend.chain, hend.light⟩
      · have hwait := h.waitsForRoom hmem hm hcarry .reoffer
        exact ⟨hwait.core, hwait.chain, hwait.light⟩
      · obtain ⟨hcore, hchain, htasks, _⟩ := h.madeStep hg hmem (h.stepRoom hg hmem hst hfree fun _ => hplace) hm
          fun hc => by rw [hcarry] at hc; cases hc
        exact ⟨hcore, hchain, fun v hv => (htasks v hv).1⟩
  obtain ⟨hcore, hchain, hlight⟩ := hstarted
  obtain ⟨n, hn⟩ := s.run_cons (.start g.ticket) []
  have horderly : (s.startStep g.ticket).1.Orderly ((s.startStep g.ticket).2 ++ []) := by
    rw [List.append_nil]
    refine .of_other hchain ?_
    rintro v hv t rfl
    exact (hlight _ hv).1 rfl
  exact (congrArg State.Core hn).mpr (hcore.runTasks (State.ground_kept.startStep hg _) horderly (n + 1)).core

omit hg in
/-- R123: a new programme, with a ticket of its own. -/
theorem State.Core.newProgramme {t p : Nat} {l : List Step} (hl : ∀ st ∈ l, (s.appDesc st.apparatus).isSome = true)
    (hp : p < s.ports.length) (ht : ∀ g ∈ s.programmes, g.ticket ≠ t) (hc : 1 ≤ t) :
    State.Core { s.ticketIssued t with programmes := s.programmes ++ [newProgramme t p l] } := by
  have hall : ∀ {P : Programme → Prop}, (∀ g ∈ s.programmes, P g) → P (Machine.newProgramme t p l) →
      ∀ g ∈ s.programmes ++ [Machine.newProgramme t p l], P g := fun hP hnew =>
    List.forall_mem_append.mpr ⟨hP, List.forall_mem_singleton.mpr hnew⟩
  refine { h with counter := nextTicket_range hc, steps := hall h.steps hl, named := ?_, owners := hall h.owners hp,
                  waits := hall h.waits ⟨fun hw => (nomatch hw), fun hw => (nomatch hw)⟩, moves := fun e he hst n k hk => ?_,
                  carries := hall h.carries fun hcarry => (nomatch hcarry), reserved := ?_ }
  · rw [List.map_append]
    refine List.nodup_append.mpr ⟨h.named, List.nodup_singleton _, fun a ha b hb hab => ?_⟩
    obtain ⟨g, hg, rfl⟩ := List.mem_map.mp ha
    rw [List.map_singleton, List.mem_singleton] at hb
    exact ht g hg (hab.trans hb)
  · obtain ⟨g, hg, hrest⟩ := h.moves e he hst n k hk
    exact ⟨g, List.mem_append_left _ hg, hrest⟩
  · have hr := h.reserved
    unfold State.reservationLaw at hr ⊢
    rw [State.carryReservations_none] at hr ⊢
    dsimp only
    rw [List.filterMap_append, show [Machine.newProgramme t p l].filterMap Programme.carry = [] from rfl, List.append_nil]
    exact hr

theorem State.Core.programmeRequest (p : Nat) (l : List Step) (ha : s.Admits p .programmeRequest) :
    (s.programmeRequest p l).1.Core := by
  have hm : s.mode = .service := by simpa [RequestKind.takenIn] using ha.mode
  unfold State.programmeRequest
  split
  · exact h
  next hc =>
    obtain ⟨hsteps, hroom⟩ := State.programmeCheck_none hc
    obtain ⟨_, hfresh, hlow⟩ := h.freeTicket_fresh hg.2.1
    generalize s.freeTicket = t at hfresh hlow
    have hnew := h.newProgramme (p := p) hsteps ha.port hfresh hlow
    have hissued : State.Ground (s.ticketIssued t) := State.ground_kept.other hg rfl
    have hground := State.ground_kept.programmeIn (Machine.newProgramme t p l) hissued hroom hm
    dsimp only
    exact hnew.startNew hground (g := Machine.newProgramme t p l) (List.mem_append_right _ (List.mem_singleton_self _)) rfl rfl

/-! ### The links (R161, R163, R166, R170) -/

omit hg in
theorem State.Core.modPort (p : Nat) (f : Port → Port) (hf : ∀ q, (f q).queue = q.queue) : (s.modPort p f).Core :=
  h.of_view (s.view_modPort p f hf)

omit h hg in
theorem Port.endRequest_queue (q : Port) : q.endRequest.queue = q.queue := by
  unfold Port.endRequest
  split <;> rfl

omit hg in
theorem State.Core.receive (p : Nat) (b : List Byte) (e : Bool) : (s.receive p b e).Core := by
  unfold State.receive
  split
  · exact h
  · split
    · exact h
    · refine h.modPort p _ fun q => ?_
      unfold Port.hear Port.join
      split <;> rfl

omit hg in
theorem State.Core.sent (p : Nat) : (s.sent p).Core := by
  unfold State.sent
  split
  · exact h
  next rest _ => exact h.modPort p (fun q => { q with transmit := rest }) fun _ => rfl
  next rest _ =>
    have hdue : State.Core { s with commandedDue := s.commandedDue || (s.port p).restarting } := h.of_view rfl
    exact hdue.modPort p (fun q => Port.endRequest { q with transmit := rest }) fun q => Port.endRequest_queue _

omit hg in
theorem State.Core.answerRequester (r : Option Requester) (c : AnswerCode) (l : List Byte) : (s.answerRequester r c l).Core := by
  unfold State.answerRequester
  split
  · exact h.modPort _ _ fun _ => rfl
  · exact h

theorem State.Core.portLost (p : Nat) (ha : (s.port p).state = .active) : (s.portLost p).Core := by
  have hlt : p < s.ports.length := by
    by_contra hn
    have hmissing : s.port p = Port.missing := List.getD_eq_default _ _ (Nat.le_of_not_lt hn)
    rw [hmissing] at ha
    cases ha
  have hcore : (s.losePort p).Core := (h.modPort p Port.lost fun _ => rfl).of_view rfl
  have hground := State.ground_kept.losePort hg p ha
  have hlost : ((s.losePort p).port p).state = .lost := by
    have hport := s.port_modPort p Port.lost p
    rw [if_pos ⟨rfl, hlt⟩] at hport
    exact congrArg Port.state hport
  have howner : State.Sound ((s.losePort p).loseOwner p) := ⟨State.ground_kept.loseOwner hground p, hcore.loseOwner hground hlost⟩
  unfold State.portLost
  dsimp only
  split
  · exact (State.sound_sees.loseImage howner p).2
  · exact howner.2

theorem State.Core.portLossEvent (p : Nat) : (s.portLossEvent p).Core := by
  unfold State.portLossEvent
  split
  next hactive =>
    split
    · exact State.core_resetTo _ _
    · exact h.portLost hg p hactive.1
  · exact h

/-! ### Restrictions, acknowledgements and validation -/

theorem State.Core.run_reoffer : (s.run [.reoffer]).Core := h.run_single hg (u := .reoffer) trivial

theorem State.Core.placeRestriction (p : Nat) (x : RestrictionKind × Nat × Nat) (f : Frame) : (s.placeRestriction p x f).1.Core := by
  unfold State.placeRestriction
  split
  · exact h
  · split
    · exact h
    next i _ =>
      dsimp only
      exact State.Core.run_steady (h.of_view rfl) (State.ground_kept.changeTable hg _ _)
        (List.forall_mem_map.mpr fun _ _ => ⟨trivial, fun _ => Task.noConfusion⟩)

theorem State.Core.liftRestriction (p i : Nat) (f : Frame) : (s.liftRestriction p i f).1.Core := by
  unfold State.liftRestriction
  split
  · exact h
  · split
    · dsimp only
      exact State.Core.run_reoffer (h.of_view rfl) (State.ground_kept.changeTable hg _ _)
    · exact h

theorem State.Core.liftOverflow (a : Nat) : (s.liftOverflow a).1.Core := by
  unfold State.liftOverflow
  split
  · exact h
  · split
    · exact (h.of_view (s.view_modApp a (fun r => { r with overflow := false }) (fun _ => rfl) fun _ => rfl)).run_reoffer
        (State.ground_kept.modApp hg a _ fun _ => rfl)
    · exact h

theorem State.Core.acknowledge (x : Nat × Condition × BitVec 8) : (s.acknowledge x).1.Core := by
  unfold State.acknowledge
  split
  · split
    · exact h
    · split
      · exact h
      · split
        · exact h
        · exact (h.of_view (s.view_modApp x.1 (fun y => y.acknowledged x.2.1) (fun _ => rfl) fun _ => rfl)).run_reoffer
            (State.ground_kept.modApp hg x.1 _ fun _ => rfl)
  · exact h

omit hg in
theorem State.Core.writeComplete : s.writeComplete.Core := by
  unfold State.writeComplete
  split
  · exact h
  next w rest _ =>
    have hstored : State.Core { s with stored := w.change.apply s.stored, writes := rest } := h.of_view rfl
    exact hstored.answerRequester _ _ _

omit hg in
theorem State.Core.validationComplete : s.validationComplete.Core := by
  unfold State.validationComplete
  split
  · exact h
  next v _ =>
    split
    · have hended : State.Core { s with validation := none, verified := !v.disturbed && v.failure.isNone } := h.of_view rfl
      exact hended.answerRequester _ _ _
    · exact h

omit hg in
theorem State.Core.checkRecord : s.checkRecord.Core := by
  unfold State.checkRecord
  split
  · exact h
  · split
    · exact h
    · split
      · exact h
      · exact h.of_view rfl

omit hg in
theorem State.Core.commit (p : Nat) (f : Frame) : (s.commit p f).1.Core := by
  unfold State.commit
  split
  · exact h
  · exact h.of_view rfl

omit hg in
theorem State.Core.gatheringExpiry : s.gatheringExpiry.Core := by
  unfold State.gatheringExpiry
  split
  · exact h.of_view s.view_endGathering
  · exact h

/-! ### Resets -/

omit hg in
theorem State.Core.assertLine : s.assertLine.Core := by
  unfold State.assertLine
  split
  · exact h
  · split
    · exact State.core_resetTo _ _
    · exact h.of_view rfl

omit hg in
theorem State.Core.releaseLine : s.releaseLine.Core := by
  unfold State.releaseLine
  split
  · exact h.of_view rfl
  · exact h

omit hg in
theorem State.Core.commandedReset : s.commandedReset.Core := by
  unfold State.commandedReset
  split
  · exact State.core_resetTo _ _
  · exact h

end

end Sys2Proof.Machine
end

section
/-! The laws of the movements under every step (O57). -/

namespace Sys2Proof.Machine

/-! ### The clock (R93, R153) -/

theorem State.Core.tick {s : State} (h : s.Core) : s.tick.Core := by
  unfold State.tick
  split
  · exact h.of_view rfl
  · have hfall : ∀ e ∈ s.entries, s.MayBecome e e.fall := fun e _ => by
      unfold Entry.fall
      split
      · exact State.MayBecome.refl s e
      · exact ⟨rfl, rfl, rfl, rfl, rfl, fun hh => ⟨hh, rfl, rfl⟩, fun hh _ => .inl hh, id, .inl⟩
    have hentries := h.mapEntries Entry.fall hfall
    have hturn : ∀ g ∈ s.programmes,
        State.MayTurn { s with entries := s.entries.map Entry.fall } g { g with waiting := fall g.waiting } := fun g hg => by
      obtain ⟨hticket, howner, hsteps, hwaits, hmoves, hcarries⟩ := hentries.mayTurn hg
      refine ⟨hticket, howner, hsteps, ⟨fun hw => hwaits.1 ?_, hwaits.2⟩, hmoves, hcarries⟩
      simpa [fall] using hw
    have hprogrammes := hentries.mapProgrammes (fun g => { g with waiting := fall g.waiting }) hturn (by
      have hr := hentries.reserved
      unfold State.reservationLaw at hr ⊢
      rw [State.carryReservations_none] at hr ⊢
      rw [List.filterMap_map]
      exact hr)
    refine hprogrammes.of_view (State.view_eq.mpr ⟨rfl, rfl, ?_, rfl, rfl, rfl, rfl⟩)
    rw [List.map_map]
    rfl

/-! ### Every command -/

theorem State.sound_handles : Handles State.Sound where
  taking p f hs := ⟨State.ground_kept.taking hs.1 p f, hs.2.modPort p _ fun _ => rfl⟩
  answer p n k t c l hs := ⟨State.ground_kept.placeAnswer hs.1 p n k t c l, hs.2.modPort p _ fun _ => rfl⟩
  receive p b e hs := ⟨State.ground_kept.receive hs.1 p b e, hs.2.receive p b e⟩
  sent p hs := ⟨State.ground_kept.sent hs.1 p, hs.2.sent p⟩
  positionReport p l hs := State.sound_sees.applyItems hs p l _ _
  moveRequest p x hs ha := ⟨State.ground_kept.moveRequest hs.1 p x ha, hs.2.moveRequest hs.1 p x ha⟩
  programmeRequest p l hs ha := ⟨State.ground_kept.programmeRequest hs.1 p l ha, hs.2.programmeRequest hs.1 p l ha⟩
  cancel p t hs := ⟨State.ground_kept.cancel hs.1 p t, hs.2.cancel hs.1 p t⟩
  amend p x hs := ⟨State.ground_kept.amend hs.1 p x, hs.2.amend hs.1 p x⟩
  extend p x hs := ⟨State.ground_kept.extend hs.1 p x, hs.2.extend p x⟩
  revokeAnswer p x hs := ⟨State.ground_kept.revokeAnswer hs.1 p x, hs.2.revokeAnswer hs.1 p x⟩
  placeRestriction p x f hs := ⟨State.ground_kept.placeRestriction hs.1 p x f, hs.2.placeRestriction hs.1 p x f⟩
  liftRestriction p i f hs := ⟨State.ground_kept.liftRestriction hs.1 p i f, hs.2.liftRestriction hs.1 p i f⟩
  liftOverflow a hs := ⟨State.ground_kept.liftOverflow hs.1 a, hs.2.liftOverflow hs.1 a⟩
  substitute p x hs := State.sound_sees.substitute hs p x
  endSubstitution p i hs := State.sound_sees.endSubstitution hs p i
  acknowledge x hs := ⟨State.ground_kept.acknowledge hs.1 x, hs.2.acknowledge hs.1 x⟩
  setPriority n v hs := ⟨State.ground_kept.setPriority hs.1 n v, hs.2.setPriority hs.1 n v⟩
  freeze p hs ha := ⟨State.ground_kept.freeze hs.1 p ha, hs.2.freeze⟩
  thaw hs := ⟨State.ground_kept.thaw hs.1, hs.2.thaw hs.1⟩
  enter p hs ha := ⟨State.ground_kept.enter hs.1 p ha, hs.2.enter⟩
  leave p hs ha := ⟨State.ground_kept.leaves hs.1 p ha, hs.2.leave hs.1 p (by simpa [RequestKind.takenIn] using ha.mode)⟩
  loadYard p x hs ha := ⟨State.ground_kept.loadYard hs.1 p x ha, hs.2.loadYard x⟩
  commit p f hs := ⟨State.ground_kept.commit hs.1 p f, hs.2.commit p f⟩
  restart p hs := ⟨State.ground_kept.restart hs.1 p, hs.2.modPort p _ fun _ => rfl⟩
  validationComplete hs := ⟨State.ground_kept.validationComplete hs.1, hs.2.validationComplete⟩
  checkRecord hs := ⟨State.ground_kept.checkRecord hs.1, hs.2.checkRecord⟩
  commandedReset hs := ⟨State.ground_kept.commandedReset hs.1, hs.2.commandedReset⟩
  powerOn hs := ⟨State.ground_kept.handles.powerOn hs.1, State.core_resetTo _ _⟩
  supplyBelow hs := ⟨State.ground_kept.handles.supplyBelow hs.1, State.core_resetTo _ _⟩
  assertLine hs := ⟨State.ground_kept.assertLine hs.1, hs.2.assertLine⟩
  releaseLine hs := ⟨State.ground_kept.releaseLine hs.1, hs.2.releaseLine⟩
  restartExpiry hs := ⟨State.ground_kept.restartExpiry hs.1, hs.2.restartExpiry hs.1⟩
  gatheringExpiry hs := ⟨State.ground_kept.gatheringExpiry hs.1, hs.2.gatheringExpiry⟩
  portLoss p hs := ⟨State.ground_kept.portLossEvent hs.1 p, hs.2.portLossEvent hs.1 p⟩
  takeUp {s} hs := ⟨State.ground_kept.takeUp hs.1, hs.2.of_view s.view_takeUp⟩
  publication hs := ⟨State.ground_kept.ordinaryPublication hs.1, hs.2.ordinaryPublication hs.1⟩
  heldPassEnd hs := State.sound_sees.heldPassEnd hs
  grant hs := ⟨State.ground_kept.grant hs.1, hs.2.grant⟩
  predicateCheck hs := ⟨State.ground_kept.predicateCheck hs.1, hs.2.predicateCheck hs.1⟩
  bypassSearch hs := ⟨State.ground_kept.bypassSearch hs.1, hs.2.bypassSearch hs.1⟩
  stubSearch hs := ⟨State.ground_kept.stubSearch hs.1, hs.2.stubSearch hs.1⟩
  writeComplete hs := ⟨State.ground_kept.writeComplete hs.1, hs.2.writeComplete⟩
  deferralExpiry t hs := ⟨State.ground_kept.deferralExpiry hs.1 t, hs.2.deferralExpiry hs.1 t⟩
  startWindowExpiry t hs := ⟨State.ground_kept.startWindowExpiry hs.1 t, hs.2.startWindowExpiry hs.1 t⟩
  travelExpiry t hs := ⟨State.ground_kept.travelExpiry hs.1 t, hs.2.travelExpiry hs.1 t⟩
  waitingExpiry t hs := ⟨State.ground_kept.waitingExpiry hs.1 t, hs.2.waitingExpiry hs.1 t⟩

theorem State.Sound.step {s t : State} (hs : s.Sound) (ht : Machine.step s = .next t) : t.Sound :=
  State.sound_handles.step (fun _ hu => ⟨State.ground_kept.other hu.1 rfl, hu.2.of_view rfl⟩)
    (fun hu => ⟨State.ground_kept.closing State.ground_release hu.1, hu.2.closing hu.1⟩)
    (fun hu => ⟨State.ground_tick hu.1, hu.2.tick⟩) hs ht

/-- The laws of the movements are those that are kept together, with those of the ports and of the held change queue. -/
theorem State.movementLaws_iff {s : State} : s.MovementLaws ↔ s.portLaw ∧ s.heldLaw ∧ s.Sound := by
  constructor
  · rintro ⟨hidle, hports, htables, htickets, hqueues, hheld, hrecords, happs, heval, hprog, hres⟩
    exact ⟨hports, hheld, ⟨hidle, htables, hrecords⟩, State.core_iff.mpr ⟨htickets, hqueues, happs, heval, hprog, hres⟩⟩
  · rintro ⟨hports, hheld, ⟨hidle, htables, hrecords⟩, hcore⟩
    obtain ⟨htickets, hqueues, happs, heval, hprog, hres⟩ := State.core_iff.mp hcore
    exact ⟨hidle, hports, htables, htickets, hqueues, hheld, hrecords, happs, heval, hprog, hres⟩

theorem movementLawsKept (s t : State) (hs : s.MovementLaws) (ht : step s = .next t) : t.MovementLaws := by
  obtain ⟨hports, hheld, hsound⟩ := State.movementLaws_iff.mp hs
  exact State.movementLaws_iff.mpr ⟨(portAndTableLawKept s t ⟨hports, hsound.1.2.1⟩ ht).1, heldLawKept s t hheld ht,
    hsound.step ht⟩

/-- Settles O57: the tables, ports and held entries update by update; the movements by what each task of an event leaves the
tasks after it. -/
theorem capacityLawKept : Obligations.CapacityLawKept := ⟨portAndTableLawKept, heldLawKept, movementLawsKept⟩

end Sys2Proof.Machine
end
